-- ==== Sys2Proof/Word.lean ====
section
/-! DEFINITION. The widths in which the policy link and the records of the AJ-640 carry their bits. -/

namespace Sys2Proof

/-- One byte of a link frame (R196). -/
abbrev Byte := BitVec 8

/-- A two-byte field of a link frame, most significant byte first (11.6). -/
abbrev Half := BitVec 16

/-- A four-byte field of a link frame: tokens, content ids, the second of day (11.6). -/
abbrev Word := BitVec 32

end Sys2Proof
end

