-- ==== Sys2Proof/Machine/Records.lean ====
section
/-! DEFINITION. The records that the blocks of the AJ-640 hold, their ranges, their factory values, and
the images of the store blocks. -/

namespace Sys2Proof.Machine

/-- The largest value of the second counter and of the used meter (R88, R154). -/
def counterMax : Nat := 4294967295

/-! ## Ratings (chapter 1) -/

/-- The contents of a LOADED scheme slot: its operator tag and its map. The value count n of R1 is the
length of the map. -/
structure Scheme where
  tag : Half
  levels : List Nat
deriving DecidableEq, Repr

/-- A scheme slot (R1): `scheme` is `none` while the slot is EMPTY. -/
structure SchemeSlot where
  locked : Bool
  scheme : Option Scheme
deriving DecidableEq, Repr

/-- An EMPTY, unlocked slot (R3). -/
def SchemeSlot.empty : SchemeSlot := ⟨false, none⟩

/-- Slot 0, the direct scheme (R2). -/
def directScheme : SchemeSlot := ⟨true, some ⟨0, List.range 32⟩⟩

/-- Slot 1, the band scheme (R2). -/
def bandScheme : SchemeSlot := ⟨true, some ⟨0, [0, 7, 10, 13, 16, 18]⟩⟩

/-- The ranges of R1 for the contents of a LOADED slot. -/
def Scheme.valid (c : Scheme) : Bool :=
  1 ≤ c.levels.length && c.levels.length ≤ 32 && c.levels.all (· ≤ 31)

/-- A maturity: a level 0..31, or `none` for UNRATED (1.1). -/
abbrev Maturity := Option Nat

/-! ## Profiles (chapter 2) -/

/-- The kind of a LIVE profile (R17). -/
inductive Kind where
  | guest | child | guardian
deriving DecidableEq, Repr

/-- The code of a profile kind (11.6). -/
def Kind.code : Kind → Nat
  | .guest => 0
  | .child => 1
  | .guardian => 2

/-- The fields that every LIVE record has: label and tokens (R18, R19). -/
structure Ident where
  label : Nat
  primary : Option Word
  secondary : Option Word
deriving DecidableEq, Repr

/-- The kind of a window (R20). -/
inductive WindowKind where
  | allow | deny
deriving DecidableEq, Repr

/-- A viewing window (R20); bit d of `days` stands for weekday d. -/
structure Window where
  kind : WindowKind
  start : Nat
  stop : Nat
  days : Byte
deriving DecidableEq, Repr

/-- The fields of a CHILD or GUEST record beyond its label and tokens (R18). -/
structure Rules where
  ceiling : Nat
  unrated : Nat
  blocked : Byte
  headroom : Nat
  relief : Nat
  rates : Vector Nat 8
  allowances : Vector Nat 7
  metered : Bool
  warning : Nat
  windCap : Nat
  windows : Vector (Option Window) 4
  tier : Option Nat
  drawSize : Nat
  drawsPerDay : Nat
deriving DecidableEq, Repr

/-- A LIVE record with its kind (R17, R18, R19). -/
inductive Profile where
  | guest (who : Ident) (rules : Rules)
  | child (who : Ident) (rules : Rules)
  | guardian (who : Ident)
deriving DecidableEq, Repr

def Profile.kind : Profile → Kind
  | .guest _ _ => .guest
  | .child _ _ => .child
  | .guardian _ => .guardian

def Profile.who : Profile → Ident
  | .guest w _ => w
  | .child w _ => w
  | .guardian w => w

/-- The fields by which a profile is judged and metered; a GUARDIAN has none (R17, R19). -/
def Profile.rules? : Profile → Option Rules
  | .guest _ r => some r
  | .child _ r => some r
  | .guardian _ => none

/-- Whether the record holds this token, as primary or as secondary. -/
def Profile.holdsToken (p : Profile) (t : Word) : Bool :=
  p.who.primary = some t || p.who.secondary = some t

/-- A profile slot (R16). -/
inductive Slot where
  | free
  | live (profile : Profile)
  | damaged
deriving DecidableEq, Repr

def Slot.profile? : Slot → Option Profile
  | .live p => some p
  | _ => none

/-- The code of a slot state (11.6). -/
def Slot.code : Slot → Nat
  | .free => 0
  | .live _ => 1
  | .damaged => 2

/-- The "new child" column of R18. -/
def Rules.newChild : Rules where
  ceiling := 0
  unrated := 31
  blocked := 0
  headroom := 0
  relief := 0
  rates := Vector.replicate 8 100
  allowances := Vector.replicate 7 60
  metered := true
  warning := 5
  windCap := 0
  windows := Vector.replicate 4 none
  tier := none
  drawSize := 15
  drawsPerDay := 0

/-- The label and tokens with which every record begins (R18, R19). -/
def Ident.blank : Ident := ⟨0, none, none⟩

/-- The guest factory defaults (R18). -/
def Profile.factoryGuest : Profile := .guest Ident.blank { Rules.newChild with ceiling := 7 }

/-- A window within the ranges of R20; its start and end are compared by `Window.proper`. -/
def Window.wellFormed (w : Window) : Bool :=
  w.start ≤ 1439 && w.stop ≤ 1439 && w.days ≠ 0 && !w.days.msb

/-- A window that a LIVE record may hold: its start differs from its end (R20, R29). -/
def Window.proper (w : Window) : Bool := w.wellFormed && w.start ≠ w.stop

/-- The ranges of R18 for the label and the tokens: a present token is not 0. -/
def Ident.valid (i : Ident) : Bool :=
  i.label ≤ 65535 && i.primary ≠ some 0 && i.secondary ≠ some 0

/-- The ranges of R18, every present window well formed. -/
def Rules.valid (r : Rules) : Bool :=
  r.ceiling ≤ 31 && r.unrated ≤ 31 && r.headroom ≤ 31 && r.relief ≤ 100
    && r.rates.toList.all (· ≤ 400) && r.allowances.toList.all (· ≤ 1440)
    && r.warning ≤ 30 && r.windCap ≤ 30
    && r.windows.toList.all (fun w => w.all Window.wellFormed)
    && r.tier.all (· ≤ 3) && 5 ≤ r.drawSize && r.drawSize ≤ 60 && r.drawsPerDay ≤ 8

/-- No window's start equals its end (R20). -/
def Rules.windowsProper (r : Rules) : Bool := r.windows.toList.all (fun w => w.all Window.proper)

/-- The ranges of R18 and R19 for a record of its kind. -/
def Profile.valid (p : Profile) : Bool := p.who.valid && p.rules?.all Rules.valid

/-- What the commit (R29) and the start-up load (R39) ask of one record by itself. -/
def Profile.proper (p : Profile) : Bool :=
  p.valid && p.rules?.all Rules.windowsProper &&
    match p with
    | .guest who _ => who.primary.isNone && who.secondary.isNone
    | .child who _ => who.primary.isSome && who.secondary ≠ who.primary
    | .guardian who => who.primary.isSome && who.secondary ≠ who.primary

/-- The edit buffer (R24): the slot it was opened for, its mode, and the record image with its kind. -/
structure EditBuffer where
  slot : Fin 16
  isNew : Bool
  image : Profile
deriving DecidableEq, Repr

/-! ## Seats and verdicts (chapters 3 and 4) -/

/-- The reason of a permitted entry (R43): every group passed, or a TITLE_PERMIT decided, with its
metered flag. -/
inductive Pass where
  | allPass
  | grant (metered : Bool)
deriving DecidableEq, Repr

/-- The reason of a DENIED entry (R43, R67). -/
inductive Denial where
  | ratingLevel | ratingDescriptor | window | clock | time
deriving DecidableEq, Repr

/-- The state of a viewer entry with the reason and the wind-down end that go with it (R43). -/
inductive EntryState where
  | idle
  | exempt
  | clear (why : Pass)
  | low (why : Pass)
  | waiting (why : Pass)
  | winding (why : Pass) (ends : Nat)
  | denied (why : Denial)
deriving DecidableEq, Repr

/-- A viewer entry (R43). -/
structure Entry where
  slot : Fin 16
  state : EntryState
deriving DecidableEq, Repr

/-- A programme record (R44). -/
structure Programme where
  scheme : Byte
  rating : Byte
  descriptors : Byte
  category : Fin 8
  content : Word
  ends : Option Nat
  maturity : Maturity
deriving DecidableEq, Repr

/-- A seat state (R42). -/
inductive SeatState where
  | vacant | browsing | permitted | warned | poolWait | windDown | blocked
deriving DecidableEq, Repr

/-- The code of a seat state (11.6). -/
def SeatState.code : SeatState → Nat
  | .vacant => 0
  | .browsing => 1
  | .permitted => 2
  | .warned => 3
  | .poolWait => 4
  | .windDown => 5
  | .blocked => 6

/-- A seat record (R42): entries in the order in which they joined. -/
structure Seat where
  state : SeatState
  entries : List Entry
  programme : Option Programme
  guardianPresent : Bool
deriving DecidableEq, Repr

/-- A VACANT seat with no programme (R62). -/
def Seat.vacant : Seat := ⟨.vacant, [], none, false⟩

/-- The four rule groups (R64). -/
inductive RuleGroup where
  | grant | rating | window | time
deriving DecidableEq, Repr

/-- The code of a rule group (11.6). -/
def RuleGroup.code : RuleGroup → Nat
  | .grant => 0
  | .rating => 1
  | .window => 2
  | .time => 3

/-- The rule group of a code, if there is one (11.6). -/
def RuleGroup.ofCode : Nat → Option RuleGroup
  | 0 => some .grant
  | 1 => some .rating
  | 2 => some .window
  | 3 => some .time
  | _ => none

/-! ## Meters, pool and grants (chapters 5 to 7) -/

/-- A meter record (R88). The extra minutes E are the minutes of the profile's EXTRA_TIME grant and
are read from the grant table (R91). -/
structure Meter where
  used : Nat
  residue : Nat
  drawn : Nat
  draws : Nat
  windUsed : Bool
deriving DecidableEq, Repr

/-- A cleared meter record (R88). -/
def Meter.cleared : Meter := ⟨0, 0, 0, 0, false⟩

/-- The pool record (R119); the pool day size S is a household setting. -/
structure Pool where
  sizeInForce : Nat
  remaining : Nat
  drawn : Nat
  toppedUp : Nat
deriving DecidableEq, Repr

/-- A pool request (R125). -/
structure Request where
  slot : Fin 16
  tier : Nat
  arrival : Nat
deriving DecidableEq, Repr

/-- A moment on the day clock (R137). -/
structure Moment where
  day : Nat
  minute : Nat
deriving DecidableEq, Repr

/-- Whether the moment is at or before `now` (R137, R146). -/
def Moment.reached (m now : Moment) : Bool :=
  m.day < now.day || (m.day = now.day && m.minute ≤ now.minute)

/-- The kind of a grant with the fields of that kind (R137). -/
inductive GrantBody where
  | titlePermit (content : Word) (metered : Bool) (expiry : Moment)
  | extraTime (minutes : Nat) (day : Nat)
  | windowWaiver (expiry : Moment)
deriving DecidableEq, Repr

/-- The code of a grant kind (11.6). -/
def GrantBody.code : GrantBody → Nat
  | .titlePermit _ _ _ => 1
  | .extraTime _ _ => 2
  | .windowWaiver _ => 3

/-- The expiry of a grant that has one (R137). -/
def GrantBody.expiry? : GrantBody → Option Moment
  | .titlePermit _ _ e => some e
  | .extraTime _ _ => none
  | .windowWaiver e => some e

/-- Whether the grant is an EXTRA_TIME. -/
def GrantBody.isExtra : GrantBody → Bool
  | .extraTime _ _ => true
  | _ => false

/-- Whether the grant is an EXTRA_TIME made on another meter day than the one given (R149, R152). -/
def GrantBody.isPastExtra (b : GrantBody) (meterDay : Nat) : Bool :=
  match b with
  | .extraTime _ d => d ≠ meterDay
  | _ => false

/-- Two grants of one profile that share kind and content id (R138). -/
def GrantBody.sameKey : GrantBody → GrantBody → Bool
  | .titlePermit c _ _, .titlePermit c' _ _ => c = c'
  | .extraTime _ _, .extraTime _ _ => true
  | .windowWaiver _, .windowWaiver _ => true
  | _, _ => false

/-- A live grant (R137). -/
structure Grant where
  slot : Fin 16
  body : GrantBody
deriving DecidableEq, Repr

/-- The ranges of R137 for the fields of a kind. -/
def GrantBody.valid : GrantBody → Bool
  | .titlePermit c _ e => c ≠ 0 && e.day ≤ 65535 && e.minute ≤ 1439
  | .extraTime m d => 1 ≤ m && m ≤ 720 && d ≤ 65535
  | .windowWaiver e => e.day ≤ 65535 && e.minute ≤ 1439

/-! ## Clock, authority and settings (chapters 8 and 9) -/

/-- The day clock (R154, R155, R158). -/
structure Clock where
  counter : Nat
  isSet : Bool
  day : Nat
  second : Nat
  weekday : Fin 7
  meterDay : Nat
  meterWeekday : Fin 7
deriving DecidableEq, Repr

/-- The household settings record (R166); `pin` is `none` while the PIN is UNSET. -/
structure Settings where
  pin : Option (List Nat)
  groupOrder : List RuleGroup
  tierOrder : List Nat
  poolSize : Nat
  windowLength : Nat
deriving DecidableEq, Repr

/-- The factory values of the household settings (R166). -/
def Settings.factory : Settings where
  pin := none
  groupOrder := [.grant, .rating, .window, .time]
  tierOrder := [3, 2, 1, 0]
  poolSize := 0
  windowLength := 300

/-- A sequence of 4..8 decimal digits (R166). -/
def pinValid (p : List Nat) : Bool := 4 ≤ p.length && p.length ≤ 8 && p.all (· ≤ 9)

/-- An ordering of the four groups, each once (R64). -/
def groupOrderValid (g : List RuleGroup) : Bool :=
  g.length = 4 && g.contains .grant && g.contains .rating && g.contains .window && g.contains .time

/-- An ordering of the tiers 0..3, each once (R127). -/
def tierOrderValid (t : List Nat) : Bool :=
  t.length = 4 && t.contains 0 && t.contains 1 && t.contains 2 && t.contains 3

/-- The ranges of R166. -/
def Settings.valid (h : Settings) : Bool :=
  h.pin.all pinValid && groupOrderValid h.groupOrder && tierOrderValid h.tierOrder
    && h.poolSize ≤ 600 && 60 ≤ h.windowLength && h.windowLength ≤ 900

/-- The authority part of the guardian unit (R167, R169, R171): the seconds left of an OPEN window, the
failure count f, and the seconds left of a lockout in force. -/
structure Authority where
  window : Option Nat
  failures : Nat
  lockout : Option Nat
deriving DecidableEq, Repr

/-! ## The persistent store (chapter 10)

An image is what a store block's contents say, field by field. The source gives no byte layout of a
block; an enumerated field whose stored value is none of its codes is kept as such, because the load
must be able to find it invalid. -/

/-- A profile block (R38): slot state 0 FREE, 1 LIVE; kind by its code; `codesOk` says that every other
enumerated field (metered, window kinds, pool tier) holds one of its values. -/
structure ProfileImage where
  state : Nat
  kind : Nat
  codesOk : Bool
  who : Ident
  rules : Rules
deriving DecidableEq, Repr

/-- A scheme block (R3): state 0 EMPTY, 1 LOADED. -/
structure SchemeImage where
  state : Nat
  locked : Bool
  tag : Half
  n : Nat
  levels : List Nat
deriving DecidableEq, Repr

/-- A household block (R166); the group order is stored by its codes. -/
structure HouseholdImage where
  pin : Option (List Nat)
  groups : List Nat
  tiers : List Nat
  poolSize : Nat
  windowLength : Nat
deriving DecidableEq, Repr

/-- A live entry of the grant block (R151); `body` is `none` when the stored kind or metered flag is
none of its values. -/
structure GrantImage where
  slot : Nat
  body : Option GrantBody
deriving DecidableEq, Repr

/-- A meter block (R114): the sixteen records without their extra minutes, and the household meter
state; `flagsOk` says that every wind-down flag is stored set or clear. -/
structure MeterImage where
  records : Vector Meter 16
  flagsOk : Bool
  meterDay : Nat
  meterWeekday : Nat
  pool : Pool
deriving DecidableEq, Repr

/-- The contents of a store block, by its owner (R179). -/
inductive BlockData where
  | profile (i : ProfileImage)
  | scheme (i : SchemeImage)
  | household (i : HouseholdImage)
  | grants (g : Vector (Option GrantImage) 16)
  | meter (i : MeterImage)
deriving DecidableEq, Repr

/-- An image: the contents of a block and their CRC-16 (R183). -/
structure Image where
  data : BlockData
  crc : Half
deriving DecidableEq, Repr

/-- What a store block physically holds (R179, R183, R192): all erased; contents with a CRC-16; a program that
was begun and not completed, `cut` naming the free value of what it leaves should it be cut; or contents that
fail their CRC-16. -/
inductive Contents where
  | erased
  | image (i : Image)
  | partly (cut : Nat)
  | broken
deriving DecidableEq, Repr

/-- A store block: its contents and its written mark (R179). -/
structure Block where
  written : Bool
  contents : Contents
deriving DecidableEq, Repr

/-- A block status (R180). -/
inductive BlockStatus where
  | ok | blank | damaged | failed
deriving DecidableEq, Repr

/-- The code of a block status (11.6). -/
def BlockStatus.code : BlockStatus → Nat
  | .ok => 0
  | .blank => 1
  | .damaged => 2
  | .failed => 3

/-- A store block id (R179). -/
abbrev BlockId := Fin 25

/-- The block of a profile slot (R179). -/
def profileBlock (k : Fin 16) : BlockId := ⟨k.val, by omega⟩

/-- The block of scheme slot k, id 14 + k, for the operator slots 2..7 (R179). -/
def schemeBlock (k : Fin 8) : BlockId := ⟨14 + k.val, by omega⟩

def householdBlock : BlockId := 22
def grantBlock : BlockId := 23
def meterBlock : BlockId := 24

/-- An entry of the commit queue (R181). -/
structure QueueItem where
  block : BlockId
  urgent : Bool
deriving DecidableEq, Repr

/-- The phases of a block write (R183). -/
inductive Phase where
  | erase | program | verify
deriving DecidableEq, Repr

/-- The code of a write phase (11.6). -/
def Phase.code : Phase → Nat
  | .erase => 1
  | .program => 2
  | .verify => 3

/-- A write record (R183). `before` is what the block held when the write began, for a write that fails
(R184). A suspended write is held beside the running one, with `phase` the phase it resumes in. -/
structure WriteRecord where
  block : BlockId
  phase : Phase
  attempt : Nat
  image : Image
  before : Contents
deriving DecidableEq, Repr

/-- The suspended write (R188); `fresh` is set by a held dip, after which it takes a fresh image
(R191). -/
structure Suspended where
  write : WriteRecord
  fresh : Bool
deriving DecidableEq, Repr

/-- The store controller (R179 to R188). -/
structure Store where
  blocks : Vector Block 25
  status : Vector BlockStatus 25
  queue : List QueueItem
  running : Option WriteRecord
  suspended : Option Suspended
  faultLatch : Bool
deriving DecidableEq, Repr

/-- The supply monitor (R189, R190): the straps that select the warning level, as bits LVS1 and LVS0,
and the supply-low flag. `dip` is set while the supply is below the hold level (R191), `held` while a
full reset is held (R189). -/
structure Supply where
  straps : BitVec 2
  low : Bool
  dip : Bool
  held : Bool
deriving DecidableEq, Repr

/-! ## The policy link (chapter 11) -/

/-- The status codes (11.6). -/
inductive Status where
  | ok | nothing | starting | badFrame | unknownCommand | badArgument | notPermitted
  | lockedOut | wrongPin | full | conflict | noSuch | state | locked | invalidRecord
deriving DecidableEq, Repr

/-- The code of a status (11.6). -/
def Status.code : Status → Byte
  | .ok => 0x00
  | .nothing => 0x01
  | .starting => 0x02
  | .badFrame => 0x10
  | .unknownCommand => 0x11
  | .badArgument => 0x12
  | .notPermitted => 0x20
  | .lockedOut => 0x21
  | .wrongPin => 0x22
  | .full => 0x30
  | .conflict => 0x31
  | .noSuch => 0x32
  | .state => 0x33
  | .locked => 0x34
  | .invalidRecord => 0x35

/-- What a command's owner answers (R199): the status and the payload. -/
structure Reply where
  status : Status
  payload : List Byte
deriving DecidableEq, Repr

/-- The response that the link port holds (R199). -/
structure Response where
  status : Status
  code : Byte
  payload : List Byte
deriving DecidableEq, Repr

/-- The three link flags (R201). -/
structure LinkFlags where
  responseLost : Bool
  collision : Bool
  badTransaction : Bool
deriving DecidableEq, Repr

def LinkFlags.clear : LinkFlags := ⟨false, false, false⟩

/-- The members of the notice set (R203). -/
inductive Notice where
  | seatChanged (k : Fin 6)
  | started | clockNeeded | rollover | poolWaiting | storeFault | storeDamage | supplyLow
  | guardianClosed
deriving DecidableEq, Repr

/-- The bit of a notice in the notice set (11.6). -/
def Notice.bit : Notice → Nat
  | .seatChanged k => k.val
  | .started => 6
  | .clockNeeded => 7
  | .rollover => 8
  | .poolWaiting => 9
  | .storeFault => 10
  | .storeDamage => 11
  | .supplyLow => 12
  | .guardianClosed => 13

/-- The output pins (R47, R202, R208): a gate is `true` at the permit level, driven high; ATTN is `true`
while it is driven low. -/
structure Pins where
  gate0 : Bool
  gate1 : Bool
  attn : Bool
deriving DecidableEq, Repr

/-- The other blocks' parts of a day rollover (R159). -/
inductive RollPart where
  | meters | pool | grants | seats
deriving DecidableEq, Repr

/-- The events of the present second that a second event has handed to their blocks and that are not
taken yet (R156, R157, R171), and the parts of a midnight's rollover that are not taken yet (R162). The grant
table's comparison is held with the (day index, minute) that the boundary handed over (R157). -/
structure Due where
  minute : Bool
  expiry : Option Moment
  metering : Bool
  interval : Bool
  timeout : Bool
  window : Bool
  lockout : Bool
  rollover : List RollPart
deriving DecidableEq, Repr

def Due.none : Due := ⟨false, Option.none, false, false, false, false, false, []⟩

end Sys2Proof.Machine
end

