-- ==== Sys2Proof/Config.lean ====
section
/-! DEFINITION. The free values: what the manual leaves open. None has a body, so that nothing proved
about the model rests on a value of one of them. -/

namespace Sys2Proof.Config

/-- Which of several steps that may be taken in any order comes first (R113, R161, R191). A choice among
n is this value modulo n; its argument is the count of choices made so far (assumption 6). -/
opaque choice : Nat → Nat

/-- Whether a block whose write failed twice still holds the record it held before; it fails its CRC-16
otherwise (section 10.7; assumption 8). -/
opaque keepsOld : Nat → Bool

/-- What a program that was cut in a never-written block reads as, from the cut on: `none` when it fails its
CRC-16, and otherwise the contents that happen to pass it (R192; assumption 8). -/
opaque partialRead : Nat → Option Machine.BlockData

/-- The contents of a store block in stored order, byte by byte; the manual gives no layout (R179; assumption
8). -/
opaque storedBytes : Machine.BlockData → List Byte

/-- The byte that **store** sends for the selected warning level (R186; the manual gives no code;
assumption 14). -/
opaque warningLevelCode : BitVec 2 → Byte

/-- Which slot CONFLICT names when the primary token of an image is held by one LIVE profile and its
secondary token by another: `true` for the holder of the secondary (R29; assumption 13). -/
opaque conflictNamesSecondary : Fin 16 → Fin 16 → Bool

/-- The metered flag that **mread** and **preview** send for a GUARDIAN, which has none (R86, R118;
assumption 14). -/
opaque guardianMeteredFlag : Bool

end Sys2Proof.Config
end

