-- ==== Sys2Proof/Machine/Bytes.lean ====
section
/-! DEFINITION. Byte order, flags, optional fields and the CRC-8 of the policy link (R197, 11.6). -/

namespace Sys2Proof.Machine

/-- A one-byte field (11.6). -/
def be1 (n : Nat) : List Byte := [BitVec.ofNat 8 n]

/-- A two-byte field, most significant byte first (11.6). -/
def be2 (n : Nat) : List Byte := [BitVec.ofNat 8 (n / 256), BitVec.ofNat 8 n]

/-- A four-byte field, most significant byte first (11.6). -/
def be4 (n : Nat) : List Byte :=
  [BitVec.ofNat 8 (n / 16777216), BitVec.ofNat 8 (n / 65536), BitVec.ofNat 8 (n / 256), BitVec.ofNat 8 n]

/-- A flag byte: 0 for no, 1 for yes (11.6). -/
def flagByte (b : Bool) : List Byte := [if b then 1 else 0]

/-- An optional field: a presence flag byte, then the field at its width, 0 when absent (11.6). -/
def optField (width : Nat → List Byte) (v : Option Nat) : List Byte :=
  flagByte v.isSome ++ width (v.getD 0)

/-- The two bytes of a two-byte field as received. -/
def half (a b : Byte) : Half := a ++ b

/-- The four bytes of a four-byte field as received. -/
def word (a b c d : Byte) : Word := a ++ b ++ c ++ d

/-- The six value bytes of **eset** as received. -/
def sixBytes (a b c d e f : Byte) : BitVec 48 := a ++ b ++ c ++ d ++ e ++ f

/-- Byte `i` of a field counted from its least significant byte. -/
def byteOf {n : Nat} (w : BitVec n) (i : Nat) : Byte := w.extractLsb' (8 * i) 8

/-- The bytes of a two-byte field in the order of the link. -/
def halfBytes (w : Half) : List Byte := [byteOf w 1, byteOf w 0]

/-- The bytes of a four-byte field in the order of the link. -/
def wordBytes (w : Word) : List Byte := [byteOf w 3, byteOf w 2, byteOf w 1, byteOf w 0]

/-- The six value bytes of **eset** in the order of the link. -/
def valueBytes (v : BitVec 48) : List Byte :=
  [byteOf v 5, byteOf v 4, byteOf v 3, byteOf v 2, byteOf v 1, byteOf v 0]

/-- The four code bytes of an order field of **hset**, first to last (11.6). -/
def orderBytes (w : Word) : List Nat := (wordBytes w).map (·.toNat)

/-- One bit of the CRC-8 with generator polynomial x^8 + x^2 + x + 1, most significant bit first
(R197). -/
def crc8Bit (c : Byte) : Byte := if c.msb then (c <<< 1) ^^^ 7 else c <<< 1

/-- The CRC-8 after one more byte (R197). -/
def crc8Byte (c b : Byte) : Byte :=
  crc8Bit (crc8Bit (crc8Bit (crc8Bit (crc8Bit (crc8Bit (crc8Bit (crc8Bit (c ^^^ b))))))))

/-- The CRC-8 of a byte string: initial value 0, no final inversion (R197). -/
def crc8 (bytes : List Byte) : Byte := bytes.foldl crc8Byte 0

/-- One bit of the CRC-16 with generator polynomial x^16 + x^12 + x^5 + 1 (R179), most significant bit first
(assumption 8). -/
def crc16Bit (c : Half) : Half := if c.msb then (c <<< 1) ^^^ 0x1021 else c <<< 1

/-- The CRC-16 after one more byte (R179). -/
def crc16Byte (c : Half) (b : Byte) : Half :=
  crc16Bit (crc16Bit (crc16Bit (crc16Bit (crc16Bit (crc16Bit (crc16Bit (crc16Bit (c ^^^ (b ++ 0#8)))))))))

/-- The CRC-16 of a byte string: initial value 0xFFFF (R179), no final inversion (assumption 8). -/
def crc16 (bytes : List Byte) : Half := bytes.foldl crc16Byte 0xFFFF

/-- A byte that names one of `n` things, or none when it is out of range. -/
def inRange (n : Nat) (b : Byte) : Option (Fin n) :=
  if h : b.toNat < n then some ⟨b.toNat, h⟩ else none

/-- A number that names one of `n` things, or none when it is out of range. -/
def below (n m : Nat) : Option (Fin n) :=
  if h : m < n then some ⟨m, h⟩ else none

end Sys2Proof.Machine
end

