-- ==== Sys2Proof/Syntax.lean ====
section
/-! DEFINITION. The commands and events of the AJ-640: one constructor of `Instr` for each row of
spec/opcode_table.json. The fields of a link command are those of section 11.6. -/

namespace Sys2Proof

/-- What the payload of a command frame gives the owning block (R197): the command's fields, or a
payload that is shorter or longer than the fields of 11.6. -/
inductive Req (α : Type) where
  | fields (args : α)
  | misfit
deriving DecidableEq, Repr

/-- A programme descriptor (11.6, ten bytes). -/
structure Descriptor where
  scheme : Byte
  rating : Byte
  descriptors : Byte
  category : Byte
  content : Word
  duration : Half
deriving DecidableEq, Repr

/-- **sload** Scheme Load: the fixed fields and however many map levels followed them (R6, R197). -/
structure SloadArgs where
  slot : Byte
  tag : Half
  n : Byte
  levels : List Byte
deriving DecidableEq, Repr

/-- **eopen** Edit Open: mode 0 NEW, 1 CHANGE; kind 1 CHILD, 2 GUARDIAN (R25, 11.6). -/
structure EopenArgs where
  slot : Byte
  mode : Byte
  kind : Byte
deriving DecidableEq, Repr

/-- **eset** Edit Set: the six value bytes as one number, byte 0 most significant (R27, 11.6). -/
structure EsetArgs where
  field : Byte
  value : BitVec 48
deriving DecidableEq, Repr

/-- **join** Seat Join (R48). -/
structure JoinArgs where
  seat : Byte
  token : Word
deriving DecidableEq, Repr

/-- **leave** Seat Leave: form 0 names a token, form 1 a profile slot (R50, 11.6). -/
structure LeaveArgs where
  seat : Byte
  form : Byte
  target : Word
deriving DecidableEq, Repr

/-- **play** Programme Set (R53). -/
structure PlayArgs where
  seat : Byte
  programme : Descriptor
deriving DecidableEq, Repr

/-- **preview** Preview: form 0 names a token, form 1 a profile slot (R84, 11.6). -/
structure PreviewArgs where
  form : Byte
  target : Word
  programme : Descriptor
  coview : Byte
deriving DecidableEq, Repr

/-- **gadd** Grant Add: every field for every kind; kind 1 TITLE_PERMIT, 2 EXTRA_TIME,
3 WINDOW_WAIVER (R139, 11.6). -/
structure GaddArgs where
  slot : Byte
  kind : Byte
  content : Word
  metered : Byte
  minutes : Half
  expiryDay : Half
  expiryMinute : Half
deriving DecidableEq, Repr

/-- **clkset** Clock Set (R160). -/
structure ClksetArgs where
  day : Half
  second : Word
  weekday : Byte
deriving DecidableEq, Repr

/-- **pin** PIN Verify and **repin** PIN Change: a digit count and eight digit bytes (11.6). -/
structure PinArgs where
  count : Byte
  digits : List Byte
deriving DecidableEq, Repr

/-- **hset** Household Set: a present mask and four settings; each order is four code bytes, the first
most significant (R176, 11.6). -/
structure HsetArgs where
  mask : Byte
  groups : Word
  tiers : Word
  poolSize : Half
  windowLength : Half
deriving DecidableEq, Repr

/-- What begins a full reset (R189, R192, R208). The two times are in microseconds. -/
inductive ResetCause where
  | powerOn
  | resetnLow (micros : Nat)
  | dip (micros : Nat)
deriving DecidableEq, Repr

/-- The rows of spec/opcode_table.json: the transactions of the link, its thirty-six commands, and the
events that the part takes on its own. -/
inductive Instr where
  /-- A WRITE ends; `frame` is the complete bytes after the selector (R196, R198). -/
  | writeTransaction (frame : List Byte)
  /-- A FETCH ends; `clocked` is how many complete bytes were clocked after the selector (R200). -/
  | fetchTransaction (clocked : Nat)
  /-- A transaction with another selector ends; `none` when it had no complete byte (R196). -/
  | badTransaction (selector : Option Byte)
  | sload (req : Req SloadArgs)
  | sclr (req : Req Byte)
  | slock (req : Req Byte)
  | sread (req : Req Byte)
  | eopen (req : Req EopenArgs)
  | eset (req : Req EsetArgs)
  | ecommit (req : Req Unit)
  | edrop (req : Req Unit)
  | pread (req : Req Byte)
  | retire (req : Req Byte)
  | lookup (req : Req Word)
  | join (req : Req JoinArgs)
  | leave (req : Req LeaveArgs)
  | vacate (req : Req Byte)
  | play (req : Req PlayArgs)
  | endp (req : Req Byte)
  | sstat (req : Req Byte)
  | preview (req : Req PreviewArgs)
  | mread (req : Req Byte)
  | topup (req : Req Half)
  | pool (req : Req Unit)
  | gadd (req : Req GaddArgs)
  | grevoke (req : Req Byte)
  | gread (req : Req Byte)
  | clkset (req : Req ClksetArgs)
  | clkread (req : Req Unit)
  | pin (req : Req PinArgs)
  | repin (req : Req PinArgs)
  | close (req : Req Unit)
  | hset (req : Req HsetArgs)
  | hread (req : Req Unit)
  | store (req : Req Unit)
  | retry (req : Req Unit)
  | describe (req : Req Unit)
  | notices (req : Req Unit)
  | restart (req : Req Unit)
  | secondEvent
  | minuteBoundary
  | grantExpiry
  | meteringSecond
  | windDownEnd
  | commitIntervalEnd
  | poolWaitTimeout
  | windowExpiry
  | lockoutEnd
  | blockWriteBegin
  /-- An erase completes; `interrupted` marks the completion of a phase that a suspension or a dip
  interrupted (R188, R191). -/
  | eraseComplete (interrupted : Bool)
  | programComplete (interrupted : Bool)
  /-- A read-back completes and its comparison with the image gives `matched` (R183). -/
  | verifyComplete (interrupted : Bool) (matched : Bool)
  | supplyWarning
  | supplyClear
  | dipBegin
  /-- The supply is back above the hold level `micros` microseconds after the dip began (R191). -/
  | dipEnd (micros : Nat)
  /-- A full reset begins; the straps are those read while it is held (R189). -/
  | fullReset (cause : ResetCause) (lvs1 lvs0 : Bool)
  /-- RESETN and the supply, in millivolts, are looked at while a full reset is held; the start-up load begins when
  they end it (R189, R193). The row given bare has RESETN high and a supply above every clear level. -/
  | startUpLoad (resetnHigh : Bool := true) (millivolts : Nat := 3400)
  | storeBlockRead
deriving DecidableEq, Repr

end Sys2Proof
end

