-- ==== Sys2Proof/WellFormed.lean ====
section
/-! DEFINITION. Which commands and events can reach the part at all. The meanings are total: what they
make of an ill-formed term is said beside each meaning. -/

namespace Sys2Proof

/-- The longest command payload (11.6). -/
def maxPayload : Nat := 56

/-- A command or event that the link, the supply or the reset pin can bring about. A transaction with a
known selector is no BAD_TRANSACTION (R196); a frame carries at most 56 payload bytes, so **sload** at
most 52 levels, and **pin** and **repin** exactly eight digit bytes (11.6); a dip that ends is shorter
than 400 microseconds, and a full reset begins by a RESETN low of at least 10 or a dip of at least 400
(R191, R192, R208). -/
def Instr.wellFormed : Instr → Bool
  | .writeTransaction _ => true
  | .fetchTransaction _ => true
  | .badTransaction none => true
  | .badTransaction (some s) => s ≠ 0xA5 && s ≠ 0x5A
  | .sload .misfit => true
  | .sload (.fields a) => a.levels.length + 4 ≤ maxPayload
  | .sclr _ => true
  | .slock _ => true
  | .sread _ => true
  | .eopen _ => true
  | .eset _ => true
  | .ecommit _ => true
  | .edrop _ => true
  | .pread _ => true
  | .retire _ => true
  | .lookup _ => true
  | .join _ => true
  | .leave _ => true
  | .vacate _ => true
  | .play _ => true
  | .endp _ => true
  | .sstat _ => true
  | .preview _ => true
  | .mread _ => true
  | .topup _ => true
  | .pool _ => true
  | .gadd _ => true
  | .grevoke _ => true
  | .gread _ => true
  | .clkset _ => true
  | .clkread _ => true
  | .pin .misfit => true
  | .pin (.fields a) => a.digits.length = 8
  | .repin .misfit => true
  | .repin (.fields a) => a.digits.length = 8
  | .close _ => true
  | .hset _ => true
  | .hread _ => true
  | .store _ => true
  | .retry _ => true
  | .describe _ => true
  | .notices _ => true
  | .restart _ => true
  | .secondEvent => true
  | .minuteBoundary => true
  | .grantExpiry => true
  | .meteringSecond => true
  | .windDownEnd => true
  | .commitIntervalEnd => true
  | .poolWaitTimeout => true
  | .windowExpiry => true
  | .lockoutEnd => true
  | .blockWriteBegin => true
  | .eraseComplete _ => true
  | .programComplete _ => true
  | .verifyComplete _ _ => true
  | .supplyWarning => true
  | .supplyClear => true
  | .dipBegin => true
  | .dipEnd us => us < 400
  | .fullReset .powerOn _ _ => true
  | .fullReset (.resetnLow us) _ _ => 10 ≤ us
  | .fullReset (.dip us) _ _ => 400 ≤ us
  | .startUpLoad _ _ => true
  | .storeBlockRead => true

end Sys2Proof
end

