-- ==== Sys2Proof/Decode.lean ====
section
/-! DEFINITION. Command codes and request payloads (11.6): the command that a code and a payload name, and
the payload of a command. Both read the one table of 11.6; the opcode table itself gives no row any bits. -/

namespace Sys2Proof

open Machine

/-- The command of a table word. No row of spec/opcode_table.json has bits, so no word names one. -/
def decodeTableWord (_nbits _w : Nat) : Option Instr := none

/-- A payload of no bytes (11.6). -/
def decodeNone : List Byte → Req Unit
  | [] => .fields ()
  | _ => .misfit

/-- A payload of one byte (11.6). -/
def decodeByte : List Byte → Req Byte
  | [b] => .fields b
  | _ => .misfit

def decodeHalf : List Byte → Req Half
  | [a, b] => .fields (half a b)
  | _ => .misfit

def decodeWord : List Byte → Req Word
  | [a, b, c, d] => .fields (word a b c d)
  | _ => .misfit

/-- **sload**: the fixed fields are the slot, tag and n (R197). -/
def decodeSload : List Byte → Req SloadArgs
  | s :: t1 :: t0 :: n :: levels => .fields ⟨s, half t1 t0, n, levels⟩
  | _ => .misfit

def decodeEopen : List Byte → Req EopenArgs
  | [s, m, k] => .fields ⟨s, m, k⟩
  | _ => .misfit

def decodeEset : List Byte → Req EsetArgs
  | [f, a, b, c, d, e, g] => .fields ⟨f, sixBytes a b c d e g⟩
  | _ => .misfit

def decodeJoin : List Byte → Req JoinArgs
  | [s, a, b, c, d] => .fields ⟨s, word a b c d⟩
  | _ => .misfit

def decodeLeave : List Byte → Req LeaveArgs
  | [s, f, a, b, c, d] => .fields ⟨s, f, word a b c d⟩
  | _ => .misfit

def decodePlay : List Byte → Req PlayArgs
  | [s, sch, rat, ds, cat, a, b, c, d, u1, u0] =>
    .fields ⟨s, ⟨sch, rat, ds, cat, word a b c d, half u1 u0⟩⟩
  | _ => .misfit

def decodePreview : List Byte → Req PreviewArgs
  | [f, t3, t2, t1, t0, sch, rat, ds, cat, a, b, c, d, u1, u0, co] =>
    .fields ⟨f, word t3 t2 t1 t0, ⟨sch, rat, ds, cat, word a b c d, half u1 u0⟩, co⟩
  | _ => .misfit

def decodeGadd : List Byte → Req GaddArgs
  | [s, k, a, b, c, d, m, x1, x0, d1, d0, e1, e0] =>
    .fields ⟨s, k, word a b c d, m, half x1 x0, half d1 d0, half e1 e0⟩
  | _ => .misfit

def decodeClkset : List Byte → Req ClksetArgs
  | [d1, d0, a, b, c, d, w] => .fields ⟨half d1 d0, word a b c d, w⟩
  | _ => .misfit

/-- **pin** and **repin**: the digit count and eight digit bytes (11.6). -/
def decodePin : List Byte → Req PinArgs
  | [n, a, b, c, d, e, f, g, h] => .fields ⟨n, [a, b, c, d, e, f, g, h]⟩
  | _ => .misfit

def decodeHset : List Byte → Req HsetArgs
  | [m, g3, g2, g1, g0, t3, t2, t1, t0, s1, s0, l1, l0] =>
    .fields ⟨m, word g3 g2 g1 g0, word t3 t2 t1 t0, half s1 s0, half l1 l0⟩
  | _ => .misfit

/-- The command of a code and a payload, and `none` for a code that is not in the command code list
(R197). -/
def decodeCommand (code : Byte) (payload : List Byte) : Option Instr :=
  match code.toNat with
  | 0x10 => some (.sload (decodeSload payload))
  | 0x11 => some (.sclr (decodeByte payload))
  | 0x12 => some (.slock (decodeByte payload))
  | 0x13 => some (.sread (decodeByte payload))
  | 0x20 => some (.eopen (decodeEopen payload))
  | 0x21 => some (.eset (decodeEset payload))
  | 0x22 => some (.ecommit (decodeNone payload))
  | 0x23 => some (.edrop (decodeNone payload))
  | 0x24 => some (.pread (decodeByte payload))
  | 0x25 => some (.retire (decodeByte payload))
  | 0x26 => some (.lookup (decodeWord payload))
  | 0x30 => some (.join (decodeJoin payload))
  | 0x31 => some (.leave (decodeLeave payload))
  | 0x32 => some (.vacate (decodeByte payload))
  | 0x33 => some (.play (decodePlay payload))
  | 0x34 => some (.endp (decodeByte payload))
  | 0x35 => some (.sstat (decodeByte payload))
  | 0x40 => some (.preview (decodePreview payload))
  | 0x41 => some (.mread (decodeByte payload))
  | 0x50 => some (.topup (decodeHalf payload))
  | 0x51 => some (.pool (decodeNone payload))
  | 0x60 => some (.gadd (decodeGadd payload))
  | 0x61 => some (.grevoke (decodeByte payload))
  | 0x62 => some (.gread (decodeByte payload))
  | 0x70 => some (.clkset (decodeClkset payload))
  | 0x71 => some (.clkread (decodeNone payload))
  | 0x80 => some (.pin (decodePin payload))
  | 0x81 => some (.repin (decodePin payload))
  | 0x82 => some (.close (decodeNone payload))
  | 0x83 => some (.hset (decodeHset payload))
  | 0x84 => some (.hread (decodeNone payload))
  | 0x90 => some (.store (decodeNone payload))
  | 0x91 => some (.retry (decodeNone payload))
  | 0xF0 => some (.describe (decodeNone payload))
  | 0xF1 => some (.notices (decodeNone payload))
  | 0xF2 => some (.restart (decodeNone payload))
  | _ => none

/-- The command code of a row, `none` for a transaction or an event (11.6). -/
def commandCode : Instr → Option Byte
  | .sload _ => some 0x10
  | .sclr _ => some 0x11
  | .slock _ => some 0x12
  | .sread _ => some 0x13
  | .eopen _ => some 0x20
  | .eset _ => some 0x21
  | .ecommit _ => some 0x22
  | .edrop _ => some 0x23
  | .pread _ => some 0x24
  | .retire _ => some 0x25
  | .lookup _ => some 0x26
  | .join _ => some 0x30
  | .leave _ => some 0x31
  | .vacate _ => some 0x32
  | .play _ => some 0x33
  | .endp _ => some 0x34
  | .sstat _ => some 0x35
  | .preview _ => some 0x40
  | .mread _ => some 0x41
  | .topup _ => some 0x50
  | .pool _ => some 0x51
  | .gadd _ => some 0x60
  | .grevoke _ => some 0x61
  | .gread _ => some 0x62
  | .clkset _ => some 0x70
  | .clkread _ => some 0x71
  | .pin _ => some 0x80
  | .repin _ => some 0x81
  | .close _ => some 0x82
  | .hset _ => some 0x83
  | .hread _ => some 0x84
  | .store _ => some 0x90
  | .retry _ => some 0x91
  | .describe _ => some 0xF0
  | .notices _ => some 0xF1
  | .restart _ => some 0xF2
  | .writeTransaction _ => none
  | .fetchTransaction _ => none
  | .badTransaction _ => none
  | .secondEvent => none
  | .minuteBoundary => none
  | .grantExpiry => none
  | .meteringSecond => none
  | .windDownEnd => none
  | .commitIntervalEnd => none
  | .poolWaitTimeout => none
  | .windowExpiry => none
  | .lockoutEnd => none
  | .blockWriteBegin => none
  | .eraseComplete _ => none
  | .programComplete _ => none
  | .verifyComplete _ _ => none
  | .supplyWarning => none
  | .supplyClear => none
  | .dipBegin => none
  | .dipEnd _ => none
  | .fullReset _ _ _ => none
  | .startUpLoad _ _ => none
  | .storeBlockRead => none

/-- The bytes of a programme descriptor (11.6). -/
def descriptorBytes (d : Descriptor) : List Byte :=
  [d.scheme, d.rating, d.descriptors, d.category] ++ wordBytes d.content ++ halfBytes d.duration

/-- The payload of a request whose fields are given; a misfit has none of its own. -/
def reqBytes {α : Type} (enc : α → List Byte) : Req α → Option (List Byte)
  | .fields a => some (enc a)
  | .misfit => none

/-- The request payload of a command (11.6), `none` for a misfit and for a row that is no command. -/
def encodePayload : Instr → Option (List Byte)
  | .sload r => reqBytes (fun a => a.slot :: halfBytes a.tag ++ a.n :: a.levels) r
  | .sclr r => reqBytes (fun b => [b]) r
  | .slock r => reqBytes (fun b => [b]) r
  | .sread r => reqBytes (fun b => [b]) r
  | .eopen r => reqBytes (fun a => [a.slot, a.mode, a.kind]) r
  | .eset r => reqBytes (fun a => a.field :: valueBytes a.value) r
  | .ecommit r => reqBytes (fun _ => []) r
  | .edrop r => reqBytes (fun _ => []) r
  | .pread r => reqBytes (fun b => [b]) r
  | .retire r => reqBytes (fun b => [b]) r
  | .lookup r => reqBytes wordBytes r
  | .join r => reqBytes (fun a => a.seat :: wordBytes a.token) r
  | .leave r => reqBytes (fun a => a.seat :: a.form :: wordBytes a.target) r
  | .vacate r => reqBytes (fun b => [b]) r
  | .play r => reqBytes (fun a => a.seat :: descriptorBytes a.programme) r
  | .endp r => reqBytes (fun b => [b]) r
  | .sstat r => reqBytes (fun b => [b]) r
  | .preview r =>
    reqBytes (fun a => a.form :: wordBytes a.target ++ descriptorBytes a.programme ++ [a.coview]) r
  | .mread r => reqBytes (fun b => [b]) r
  | .topup r => reqBytes halfBytes r
  | .pool r => reqBytes (fun _ => []) r
  | .gadd r =>
    reqBytes (fun a => a.slot :: a.kind :: wordBytes a.content ++ [a.metered] ++ halfBytes a.minutes
      ++ halfBytes a.expiryDay ++ halfBytes a.expiryMinute) r
  | .grevoke r => reqBytes (fun b => [b]) r
  | .gread r => reqBytes (fun b => [b]) r
  | .clkset r => reqBytes (fun a => halfBytes a.day ++ wordBytes a.second ++ [a.weekday]) r
  | .clkread r => reqBytes (fun _ => []) r
  | .pin r => reqBytes (fun a => a.count :: a.digits) r
  | .repin r => reqBytes (fun a => a.count :: a.digits) r
  | .close r => reqBytes (fun _ => []) r
  | .hset r =>
    reqBytes (fun a => a.mask :: wordBytes a.groups ++ wordBytes a.tiers ++ halfBytes a.poolSize
      ++ halfBytes a.windowLength) r
  | .hread r => reqBytes (fun _ => []) r
  | .store r => reqBytes (fun _ => []) r
  | .retry r => reqBytes (fun _ => []) r
  | .describe r => reqBytes (fun _ => []) r
  | .notices r => reqBytes (fun _ => []) r
  | .restart r => reqBytes (fun _ => []) r
  | .writeTransaction _ => none
  | .fetchTransaction _ => none
  | .badTransaction _ => none
  | .secondEvent => none
  | .minuteBoundary => none
  | .grantExpiry => none
  | .meteringSecond => none
  | .windDownEnd => none
  | .commitIntervalEnd => none
  | .poolWaitTimeout => none
  | .windowExpiry => none
  | .lockoutEnd => none
  | .blockWriteBegin => none
  | .eraseComplete _ => none
  | .programComplete _ => none
  | .verifyComplete _ _ => none
  | .supplyWarning => none
  | .supplyClear => none
  | .dipBegin => none
  | .dipEnd _ => none
  | .fullReset _ _ _ => none
  | .startUpLoad _ _ => none
  | .storeBlockRead => none

/-! ## MOSI -/

/-- The complete bytes of a transaction's MOSI bits, most significant bit first; bits left over are discarded
(R196). -/
def mosiBytes : List Bool → List Byte
  | b7 :: b6 :: b5 :: b4 :: b3 :: b2 :: b1 :: b0 :: rest =>
    (BitVec.ofBoolListBE [b7, b6, b5, b4, b3, b2, b1, b0] : Byte) :: mosiBytes rest
  | _ => []

/-- The row that a transaction is when it ends, from the complete bytes received: the first is the selector
(R196). -/
def selectTransaction : List Byte → Instr
  | [] => .badTransaction none
  | sel :: rest =>
    if sel = 0xA5 then .writeTransaction rest
    else if sel = 0x5A then .fetchTransaction rest.length
    else .badTransaction (some sel)

/-- The row that the MOSI bits between chip select low and high are (R196). -/
def transactionOf (mosi : List Bool) : Instr := selectTransaction (mosiBytes mosi)

/-- The bits of bytes as MOSI carries them (R196). -/
def mosiBits (bytes : List Byte) : List Bool :=
  bytes.flatMap fun b => (List.range 8).map fun i => b.getMsbD i

/-! ## Frames -/

/-- The frame of a code and a payload: code, length, payload, CRC-8 (11.6). -/
def frameOf (code : Byte) (payload : List Byte) : List Byte :=
  let body := code :: BitVec.ofNat 8 payload.length :: payload
  body ++ [crc8 body]

/-- The command frame of a command with its fields (11.6). -/
def encodeFrame (i : Instr) : Option (List Byte) :=
  match commandCode i, encodePayload i with
  | some code, some payload => some (frameOf code payload)
  | _, _ => none

end Sys2Proof
end

