-- ==== Sys2Proof/Machine/State.lean ====
section
/-! DEFINITION. The state of the AJ-640, block by block, the reasons for which a step could stop, and the
machine right after reset. -/

namespace Sys2Proof.Machine

/-- The link states (R198); EXECUTING holds the command that was handed to its owner. -/
inductive LinkState where
  | loading
  | ready
  | executing (command : Instr)
  | answered
deriving DecidableEq, Repr

/-- The link port (11.2): its state, the response buffer, the link flags, and `miso`, the bytes driven on
MISO after the selector of the last transaction (empty: 0x00 throughout, R196). -/
structure Link where
  state : LinkState
  buffer : Option Response
  flags : LinkFlags
  miso : List Byte
deriving DecidableEq, Repr

/-- No command and no event of this block stops the machine: the manual states an effect for each of
them, so that there is no fault to raise. -/
inductive Fault where
deriving DecidableEq, Repr

/-- The one refusal a step could answer. -/
inductive Refusal where
  /-- Raised only by an arm of `exec` whose row has no meaning yet; safe, since nothing is claimed of a
  refused row. No arm raises it in this model. -/
  | notModelled (mnemonic : String)
deriving DecidableEq, Repr

/-- Everything the AJ-640 holds. INVENTORY.md lists each field with the rule that names it. -/
structure State where
  /-- The commands and events that wait to be taken, first in, first out. -/
  pending : List Instr
  /-- The events that fell within a dip and are taken when it ends (R191). -/
  deferred : List Instr
  link : Link
  /-- The notice set in the layout of 11.6 (R203). -/
  notices : BitVec 16
  pins : Pins
  schemes : Vector SchemeSlot 8
  slots : Vector Slot 16
  edit : Option EditBuffer
  seats : Vector Seat 6
  meters : Vector Meter 16
  /-- The meter dirty flag (R114). -/
  meterDirty : Bool
  /-- The commit interval count (R115). -/
  interval : Nat
  pool : Pool
  /-- The pool request queue, oldest first (R125). -/
  requests : List Request
  grants : Vector (Option Grant) 16
  clock : Clock
  settings : Settings
  authority : Authority
  store : Store
  /-- While the start-up load runs, how many blocks it has read (R193). -/
  load : Option Nat
  supply : Supply
  due : Due
  /-- The model's own: how many free values have been drawn. -/
  freeCount : Nat
deriving DecidableEq, Repr

/-- The store as the part leaves manufacture: no block written, every block erased (R179), and nothing
queued or running (R195). -/
def Store.factory : Store where
  blocks := Vector.replicate 25 ⟨false, .erased⟩
  status := Vector.replicate 25 .blank
  queue := []
  running := none
  suspended := none
  faultLatch := false

/-- The machine at power-on, the full reset held (R189, R192), over the store given and with the straps
as read. The working copies hold what a BLANK block gives them, until the start-up load settles them. -/
def State.underReset (store : Store) (straps : BitVec 2) (pending : List Instr) (freeCount : Nat) :
    State where
  pending := pending
  deferred := []
  link := ⟨.loading, none, LinkFlags.clear, []⟩
  notices := 0
  pins := ⟨false, false, false⟩
  schemes := Vector.ofFn fun k =>
    if k = 0 then directScheme else if k = 1 then bandScheme else SchemeSlot.empty
  slots := Vector.ofFn fun k => if k = 0 then .live Profile.factoryGuest else .free
  edit := none
  seats := Vector.replicate 6 Seat.vacant
  meters := Vector.replicate 16 Meter.cleared
  meterDirty := false
  interval := 0
  pool := ⟨0, 0, 0, 0⟩
  requests := []
  grants := Vector.replicate 16 none
  clock := ⟨0, false, 0, 0, 0, 0, 0⟩
  settings := Settings.factory
  authority := ⟨none, 0, none⟩
  store := { Store.factory with blocks := store.blocks }
  load := none
  supply := ⟨straps, false, false, true⟩
  due := Due.none
  freeCount := freeCount

/-- The machine right after reset: power-on of a part as it left manufacture, the full reset held and
both straps low. -/
def State.reset : State := State.underReset Store.factory 0 [] 0

end Sys2Proof.Machine
end

