-- ==== Sys2Proof/Machine/Operands.lean ====
section
/-! DEFINITION. What the operands of commands stand for: profile slots and their records, tokens (R21),
scheme translation (R4), the forms of a **leave** or **preview** target, PIN digits and order fields. -/

namespace Sys2Proof.Machine

/-! ## Profiles by slot -/

/-- The installed record of a LIVE slot (R23). -/
def State.profile? (s : State) (k : Fin 16) : Option Profile := s.slots[k].profile?

def State.kind? (s : State) (k : Fin 16) : Option Kind := (s.profile? k).map Profile.kind

/-- The judged fields of a LIVE CHILD or GUEST profile. -/
def State.rules? (s : State) (k : Fin 16) : Option Rules := (s.profile? k).bind Profile.rules?

def State.isGuardian (s : State) (k : Fin 16) : Bool := s.kind? k = some .guardian

/-! ## Token resolution -/

/-- How a token was matched (R21). -/
inductive Match where
  | anonymous | primary | secondary | unknown
deriving DecidableEq, Repr

/-- The code of a match (11.6). -/
def Match.code : Match → Nat
  | .anonymous => 0
  | .primary => 1
  | .secondary => 2
  | .unknown => 3

def State.hasPrimary (s : State) (t : Word) (k : Fin 16) : Bool :=
  k ≠ 0 && (s.profile? k).any (fun p => p.who.primary = some t)

def State.hasSecondary (s : State) (t : Word) (k : Fin 16) : Bool :=
  (s.profile? k).any (fun p => p.who.secondary = some t)

/-- Token resolution (R21). The token law leaves at most one slot to find; where it does not hold, the
lowest is taken. -/
def State.resolve (s : State) (t : Word) : Fin 16 × Match :=
  if t = 0 then (0, .anonymous) else
  match (List.finRange 16).find? (s.hasPrimary t) with
  | some k => (k, .primary)
  | none =>
    match (List.finRange 16).find? (s.hasSecondary t) with
    | some k => (k, .secondary)
    | none => (0, .unknown)

/-- A target of **leave** or **preview** (R50, R84): form 0 names a token and form 1 a slot, here with the
code of the match, 4 for the slot form (11.6). -/
def State.target? (s : State) (form : Byte) (target : Word) : Option (Fin 16 × Nat) :=
  if form = 0 then
    let r := s.resolve target
    some (r.1, r.2.code)
  else if form = 1 then (below 16 target.toNat).map fun k => (k, 4)
  else none

/-! ## Translation -/

/-- Translation of a scheme number and a rating value, from the slots as they stand (R4). -/
def State.translate (s : State) (scheme rating : Byte) : Maturity :=
  match inRange 8 scheme with
  | none => none
  | some k => s.schemes[k].scheme.bind fun c => c.levels[rating.toNat]?

/-- A maturity as one byte: 255 for UNRATED (11.6). -/
def maturityCode (m : Maturity) : Nat := m.getD 255

/-- The end moment of a programme set now (R44): absent for duration 0; a duration above 720 counts as
720; held at the largest counter value. -/
def endMoment (counter duration : Nat) : Option Nat :=
  if duration = 0 then none else some (min (counter + 60 * min duration 720) counterMax)

/-- The programme record that **play** builds (R44, R54), and that **preview** takes as played (R85). -/
def State.programmeOf (s : State) (d : Descriptor) (category : Fin 8) : Programme where
  scheme := d.scheme
  rating := d.rating
  descriptors := d.descriptors
  category := category
  content := d.content
  ends := endMoment s.clock.counter d.duration.toNat
  maturity := s.translate d.scheme d.rating

/-! ## PIN and orders -/

/-- The digits within the digit count (11.6: the bytes beyond it are ignored). -/
def pinSequence (a : PinArgs) : List Nat := (a.digits.take a.count.toNat).map (·.toNat)

/-- A well-formed digit sequence: a count of 4..8 and no digit above 9 (R167, R175). -/
def pinWellFormed (a : PinArgs) : Bool :=
  4 ≤ a.count.toNat && a.count.toNat ≤ 8 && pinValid (pinSequence a)

/-- A group order field, when it names each group once (R176). -/
def groupOrder? (w : Word) : Option (List RuleGroup) :=
  let g := (orderBytes w).filterMap RuleGroup.ofCode
  if groupOrderValid g then some g else none

/-- A tier order field, when it names each tier once (R176). -/
def tierOrder? (w : Word) : Option (List Nat) :=
  if tierOrderValid (orderBytes w) then some (orderBytes w) else none

end Sys2Proof.Machine
end

