-- ==== Sys2Proof/Machine/Flags.lean ====
section
/-! DEFINITION. What is computed from records each time they change: seat states (R46), the guardian-present
flag (R45), the gates (R47), ATTN (R202), the notice set (R203) and the flags byte of a frame (R201). -/

namespace Sys2Proof.Machine

/-! ## Entries -/

def EntryState.isDenied : EntryState → Bool
  | .denied _ => true
  | _ => false

def EntryState.isWinding : EntryState → Bool
  | .winding _ _ => true
  | _ => false

def EntryState.isWaiting : EntryState → Bool
  | .waiting _ => true
  | _ => false

def EntryState.isLow : EntryState → Bool
  | .low _ => true
  | _ => false

/-- The wind-down end of a WINDING entry (R43). -/
def EntryState.windEnd? : EntryState → Option Nat
  | .winding _ e => some e
  | _ => none

/-- The reason of an entry in a judged permitted state (R43). -/
def EntryState.pass? : EntryState → Option Pass
  | .clear w => some w
  | .low w => some w
  | .waiting w => some w
  | .winding w _ => some w
  | _ => none

/-- The code of an entry state (11.6). -/
def EntryState.code : EntryState → Nat
  | .idle => 0
  | .exempt => 1
  | .clear _ => 2
  | .low _ => 3
  | .waiting _ => 4
  | .winding _ _ => 5
  | .denied _ => 6

def Pass.code : Pass → Nat
  | .allPass => 1
  | .grant _ => 2

def Denial.code : Denial → Nat
  | .ratingLevel => 3
  | .ratingDescriptor => 4
  | .window => 5
  | .clock => 6
  | .time => 7

/-- The code of an entry's reason, 0 for none (11.6). -/
def EntryState.reasonCode : EntryState → Nat
  | .denied d => d.code
  | .idle => 0
  | .exempt => 0
  | .clear w => w.code
  | .low w => w.code
  | .waiting w => w.code
  | .winding w _ => w.code

/-- The grant-metered flag of an entry with reason GRANT (R43). -/
def EntryState.grantMetered? (e : EntryState) : Option Bool :=
  match e.pass? with
  | some (.grant m) => some m
  | _ => none

/-! ## Seats -/

/-- The seat state of entries and programme (R46). -/
def seatStateOf (entries : List Entry) (programme : Option Programme) : SeatState :=
  if entries.isEmpty then .vacant
  else if programme.isNone then .browsing
  else if entries.any (·.state.isDenied) then .blocked
  else if entries.any (·.state.isWinding) then .windDown
  else if entries.any (·.state.isWaiting) then .poolWait
  else if entries.any (·.state.isLow) then .warned
  else .permitted

/-- The guardian-present flag of a list of entries (R45). -/
def State.guardianAmong (s : State) (entries : List Entry) : Bool :=
  entries.any fun e => s.isGuardian e.slot

/-- A seat record with its state and flag derived (R45, R46). -/
def State.deriveSeat (s : State) (entries : List Entry) (programme : Option Programme) : Seat :=
  ⟨seatStateOf entries programme, entries, programme, s.guardianAmong entries⟩

/-- The seat states in which a gate is at the permit level (R47). -/
def SeatState.permits : SeatState → Bool
  | .vacant => false
  | .blocked => false
  | _ => true

/-- The seat states in which entries are debited (R46, R95). -/
def SeatState.debits : SeatState → Bool
  | .permitted => true
  | .warned => true
  | .poolWait => true
  | .windDown => true
  | _ => false

/-! ## Notices and pins -/

/-- Adds a member to the notice set; a member already present stays (R203). -/
def State.addNotice (s : State) (n : Notice) : State :=
  { s with notices := s.notices ||| BitVec.twoPow 16 n.bit }

/-- Whether a member is in the notice set (R203). -/
def State.hasNotice (s : State) (n : Notice) : Bool := s.notices.getLsbD n.bit

/-- The condition under which ATTN is driven low (R202, R208). -/
def State.attnCondition (s : State) : Bool :=
  !s.supply.held && (s.link.buffer.isSome || s.notices ≠ 0)

/-- The output pins of a state (R47, R202). -/
def State.pinsOf (s : State) : Pins :=
  ⟨s.seats[0].state.permits, s.seats[1].state.permits, s.attnCondition⟩

/-- Drives the output pins (R47, R202). -/
def State.drivePins (s : State) : State := { s with pins := s.pinsOf }

/-- Adds SEAT_CHANGED for one seat whose state differs from the state it had (R46). -/
def State.noteSeat (before : State) (s : State) (k : Fin 6) : State :=
  if before.seats[k].state = s.seats[k].state then s else s.addNotice (.seatChanged k)

/-- At the end of an event: SEAT_CHANGED for each seat whose state differs from its state when the event
was taken (R46). -/
def State.noteSeats (before s : State) : State :=
  (List.finRange 6).foldl (State.noteSeat before) s

/-! ## The flags byte -/

/-- The flags byte of a response frame (11.6). -/
def LinkFlags.byte (f : LinkFlags) : Byte :=
  (if f.responseLost then 1 else 0) ||| (if f.collision then 2 else 0)
    ||| (if f.badTransaction then 4 else 0)

end Sys2Proof.Machine
end

