-- ==== Sys2Proof/Machine/Ops.lean ====
section
/-! DEFINITION. The shared operations: how an event is taken, how a command reaches its owner and is
answered, commit requests, budgets, pool requests, seat writes and the closing of the guardian window. -/

namespace Sys2Proof.Machine

/-! ## Taking an event -/

/-- Whether an event that falls within a dip is kept for the dip's end. A phase completion is not: the
dip interrupted its phase, and such a completion is discarded whenever it is taken (R191). -/
def keptInDip : Instr → Bool
  | .eraseComplete _ => false
  | .programComplete _ => false
  | .verifyComplete _ _ => false
  | _ => true

/-- Takes an event or a transaction whole: none is taken while a full reset is held (R189, R207), one that
falls within a dip waits for its end (R191), and any other has its effect, after which the pins follow. -/
def State.taken (i : Instr) (effect : State → State) (s : State) : State :=
  if s.supply.held then s
  else if s.supply.dip then
    if keptInDip i then { s with deferred := s.deferred ++ [i] } else s
  else (effect s).drivePins

/-! ## The link port -/

/-- Holds a response (R199). -/
def State.hold (s : State) (r : Response) : State := { s with link.buffer := some r }

/-- Discards the held response of a link in ANSWERED or LOADING, with RESPONSE_LOST (R198). -/
def State.discardHeld (s : State) : State :=
  match s.link.buffer with
  | none => s
  | some _ => { s with link.buffer := none, link.flags.responseLost := true }

/-- The code byte of a command row; every command has one (11.6). -/
def codeOf (i : Instr) : Byte := (commandCode i).getD 0

/-- Holds an owner's reply and makes the link ANSWERED (R199). -/
def State.answer (i : Instr) (out : State × Reply) : State :=
  let held := out.1.hold ⟨out.2.status, codeOf i, out.2.payload⟩
  { held with link.state := .answered }

/-- A command frame that passed its check, taken according to the link state (R198). -/
def State.dispatch (i : Instr) (s : State) : State :=
  match s.link.state with
  | .loading => s.discardHeld.hold ⟨.starting, codeOf i, []⟩
  | .ready => { s with link.state := .executing i }
  | .executing _ => { s with link.flags.collision := true }
  | .answered =>
    let s' := s.discardHeld
    { s' with link.state := .executing i }

/-- The step of a command row. When the link is EXECUTING this very command, its owner takes it whole and
its response is held (R199). Otherwise the row stands for the WRITE of the command's frame as well, which
meets the link as R198 says, and the owner's step follows when that WRITE was dispatched
(assumption 2). -/
def State.command (i : Instr) (owner : State → State × Reply) (s : State) : State :=
  if s.link.state = .executing i then State.answer i (owner s)
  else
    let s' := State.dispatch i { s with link.miso := [] }
    if s'.link.state = .executing i then State.answer i (owner s') else s'

/-- A reply with a payload. -/
def ok (payload : List Byte) : Reply := ⟨.ok, payload⟩

/-- A refusal without a payload (11.6). -/
def refuse (status : Status) : Reply := ⟨status, []⟩

/-- The fields of a request, or the refusal of a payload that does not fit them, as the owner's first
argument check (R197). -/
def withFields {α : Type} (req : Req α) (s : State) (f : α → State × Reply) : State × Reply :=
  match req with
  | .fields a => f a
  | .misfit => (s, refuse .badArgument)

/-- The window check that a guarded command makes before every other (R173). -/
def guarded (s : State) (f : State × Reply) : State × Reply :=
  if s.authority.window.isSome then f else (s, refuse .notPermitted)

/-! ## The store's commit queue -/

/-- A commit request (R181): a block already queued keeps its place and its mark, and any other joins at
the back. -/
def State.commit (s : State) (b : BlockId) : State :=
  if s.store.queue.any (·.block = b) then s
  else { s with store.queue := s.store.queue ++ [⟨b, false⟩] }

/-! ## Meters and budgets -/

/-- The extra minutes E: the minutes of the profile's live EXTRA_TIME grant (R91). -/
def State.extra (s : State) (k : Fin 16) : Nat :=
  (s.grants.toList.findSome? fun g =>
    match g with
    | some ⟨k', .extraTime m _⟩ => if k' = k then some m else none
    | _ => none).getD 0

/-- The allowance A for the meter weekday, in minutes; 0 without a judged record (R99). -/
def State.allowance (s : State) (k : Fin 16) : Nat :=
  match s.rules? k with
  | some r => r.allowances[s.clock.meterWeekday]
  | none => 0

/-- The budget B in meter units, 0 without a judged record (R99). -/
def State.budget (s : State) (k : Fin 16) : Nat :=
  match s.rules? k with
  | some _ => (s.allowance k + s.extra k + s.meters[k].drawn) * 6000
  | none => 0

/-- Remaining time R: B less U, and 0 when U has reached B (R99). -/
def State.remaining (s : State) (k : Fin 16) : Nat := s.budget k - s.meters[k].used

/-- Pool possible (R78). -/
def State.poolPossible (s : State) (k : Fin 16) : Bool :=
  match s.rules? k with
  | some r => r.tier.isSome && s.meters[k].draws < r.drawsPerDay
  | none => false

/-- Whether the threshold state of a record at remaining time R is LOW (R68, R79, R100). -/
def lowAt (r : Rules) (remaining : Nat) : Bool :=
  0 < r.warning && 0 < remaining && remaining ≤ r.warning * 6000

/-- Clears a slot's meter record and sets the meter dirty flag (R94). -/
def State.clearMeter (s : State) (k : Fin 16) : State :=
  { s with meters := s.meters.set k Meter.cleared, meterDirty := true }

/-! ## The request queue -/

/-- Whether the queue holds a request for the profile (R78). -/
def State.hasRequest (s : State) (k : Fin 16) : Bool := s.requests.any (·.slot = k)

/-- The profile's installed pool tier, 0 where it has none (R126). -/
def State.tierOf (s : State) (k : Fin 16) : Nat :=
  ((s.rules? k).bind (·.tier)).getD 0

/-- A request joins the back of the queue, and POOL_WAITING with it while P is 0; a request already
pending keeps its place (R126). -/
def State.raiseRequest (s : State) (k : Fin 16) : State :=
  if s.hasRequest k then s
  else
    let s' := { s with requests := s.requests ++ [⟨k, s.tierOf k, s.clock.counter⟩] }
    if s.pool.remaining = 0 then s'.addNotice .poolWaiting else s'

/-- A profile's request leaves the queue (R132). -/
def State.dropRequest (s : State) (k : Fin 16) : State :=
  { s with requests := s.requests.filter (·.slot ≠ k) }

/-! ## Seats -/

/-- Writes a seat's entries and programme; its state and flag follow (R45, R46). -/
def State.putSeat (s : State) (k : Fin 6) (entries : List Entry) (programme : Option Programme) : State :=
  { s with seats := s.seats.set k (s.deriveSeat entries programme) }

/-- Direct writes (R59): `f` gives each entry its state, and every seat is derived anew. -/
def State.writeEntries (s : State) (f : Seat → Entry → EntryState) : State :=
  { s with seats := Vector.ofFn fun k =>
      let seat := s.seats[k]
      s.deriveSeat (seat.entries.map fun e => { e with state := f seat e }) seat.programme }

/-- Whether the profile holds a WAITING entry on some seat (R60). -/
def State.hasWaiting (s : State) (k : Fin 16) : Bool :=
  s.seats.toList.any fun seat => seat.entries.any fun e => e.slot = k && e.state.isWaiting

/-- How many entries a selection names on seats with a programme (R57). -/
def State.countEntries (s : State) (sel : Entry → Bool) : Nat :=
  (s.seats.toList.map fun seat => if seat.programme.isSome then (seat.entries.filter sel).length else 0).sum

/-! ## The grant table -/

/-- How many grants are live. -/
def State.liveGrants (s : State) : Nat := (s.grants.toList.filter (·.isSome)).length

/-- Retires every grant that the selection names (R144). -/
def State.retireGrants (s : State) (sel : Grant → Bool) : State :=
  { s with grants := Vector.ofFn fun i =>
      match s.grants[i] with
      | some g => if sel g then none else some g
      | none => none }

/-- Whether the selection names a live grant, and for which profiles. -/
def State.losesGrant (s : State) (sel : Grant → Bool) (k : Fin 16) : Bool :=
  s.grants.toList.any fun g =>
    match g with
    | some g => g.slot = k && sel g
    | none => false

def State.losesAny (s : State) (sel : Grant → Bool) : Bool :=
  s.grants.toList.any fun g => g.any sel

/-! ## The guardian window -/

/-- Closes the guardian window: an edit buffer is discarded, and a window that was OPEN adds
GUARDIAN_CLOSED (R34, R172). -/
def State.closeWindow (s : State) : State :=
  match s.authority.window with
  | none => s
  | some _ =>
    let s' := { s with authority.window := none, edit := none, due.window := false }
    s'.addNotice .guardianClosed

/-- Opens or restarts the window: its seconds left take the window length in force (R168, R171). -/
def State.openWindow (s : State) : State :=
  { s with authority.window := some s.settings.windowLength, due.window := false }

/-- The reported end of a countdown: the counter plus the seconds left, held at the largest counter value
(R169, R171). -/
def State.endSecond (s : State) (left : Nat) : Nat := min (s.clock.counter + left) counterMax

/-! ## Supply levels

Millivolts of the 3.3 V supply (R189). -/

/-- The warning level that the straps select. -/
def warningLevel (straps : BitVec 2) : Nat := 2900 + 100 * straps.toNat

/-- The clear level, 0.1 V above the warning level. -/
def clearLevel (straps : BitVec 2) : Nat := warningLevel straps + 100

/-- The hold level. -/
def holdLevel : Nat := 2600

/-- The rows that a movement of the supply from one level to another brings, in the order of its crossings: a
fall below the warning level, and below the hold level; a rise back above the hold level after `micros`, and
above the clear level (R190, R191). -/
def supplyRows (straps : BitVec 2) (was now micros : Nat) : List Instr :=
  (if warningLevel straps ≤ was && now < warningLevel straps then [.supplyWarning] else [])
    ++ (if holdLevel ≤ was && now < holdLevel then [.dipBegin] else [])
    ++ (if was ≤ holdLevel && holdLevel < now then [.dipEnd micros] else [])
    ++ (if was ≤ clearLevel straps && clearLevel straps < now then [.supplyClear] else [])

/-! ## Free choices -/

/-- Draws a choice among `n` (assumption 6). -/
def State.draw (s : State) (n : Nat) : Nat × State :=
  (Config.choice s.freeCount % n, { s with freeCount := s.freeCount + 1 })

/-- Puts a list of pieces of work into the order that a run of draws chooses; `fuel` is its length. -/
def State.shuffle {α : Type} : Nat → List α → State → List α × State
  | 0, work, s => (work, s)
  | fuel + 1, work, s =>
    match work with
    | [] => ([], s)
    | w :: ws =>
      let d := s.draw (w :: ws).length
      let first := (w :: ws)[d.1]?.getD w
      let rest := State.shuffle fuel ((w :: ws).eraseIdx d.1) d.2
      (first :: rest.1, rest.2)

end Sys2Proof.Machine
end

