-- ==== Sys2Proof/Machine/LinkPort.lean ====
section
/-! DEFINITION. The link port (chapter 11): the three transactions, and the commands it keeps itself:
**describe**, **notices** and **restart**. -/

namespace Sys2Proof.Machine

/-! ## WRITE -/

/-- What the check of a WRITE's frame finds (R197): a refusal with the code it echoes, or a command. -/
inductive FrameCheck where
  | badFrame (code : Byte)
  | unknown (code : Byte)
  | command (i : Instr)
deriving DecidableEq, Repr

/-- The check of a WRITE's frame, in the order of R197. -/
def checkFrame : List Byte → FrameCheck
  | [] => .badFrame 0
  | [code] => .badFrame code
  | code :: len :: rest =>
    if 56 < len.toNat || rest.length ≠ len.toNat + 1 then .badFrame code
    else
      let payload := rest.take len.toNat
      if rest.getLast? ≠ some (crc8 (code :: len :: payload)) then .badFrame code
      else
        match decodeCommand code payload with
        | some i => .command i
        | none => .unknown code

/-- A refused frame: its response is held, and READY becomes ANSWERED (R198). -/
def State.refuseFrame (status : Status) (code : Byte) (s : State) : State :=
  match s.link.state with
  | .ready =>
    let s' := s.hold ⟨status, code, []⟩
    { s' with link.state := .answered }
  | _ => s.discardHeld.hold ⟨status, code, []⟩

/-- A WRITE ends (R198): dropped unchecked in EXECUTING, and otherwise checked and refused or dispatched. -/
def takeWrite (frame : List Byte) (s : State) : State :=
  let s := { s with link.miso := [] }
  match s.link.state with
  | .executing _ => { s with link.flags.collision := true }
  | _ =>
    match checkFrame frame with
    | .badFrame code => s.refuseFrame .badFrame code
    | .unknown code => s.refuseFrame .unknownCommand code
    | .command i => s.dispatch i

/-- WRITE_TRANSACTION (R198). -/
def execWriteTransaction (frame : List Byte) (s : State) : Host.Outcome State Fault Refusal :=
  .next (s.taken (.writeTransaction frame) (takeWrite frame))

/-! ## FETCH -/

/-- A response frame (11.6): status, code, flags, length, payload, CRC-8. -/
def responseFrame (r : Response) (flags : LinkFlags) : List Byte :=
  let body := [r.status.code, r.code, flags.byte] ++ be2 r.payload.length ++ r.payload
  body ++ [crc8 body]

/-- The response that a FETCH finds (R200): the held one, or NOTHING, which echoes the code of a command
being executed. -/
def State.fetched (s : State) : Response :=
  match s.link.state with
  | .executing i => ⟨.nothing, codeOf i, []⟩
  | _ => s.link.buffer.getD ⟨.nothing, 0, []⟩

/-- A complete delivery (R200): the reported flags clear, a held response is gone, and ANSWERED becomes
READY. -/
def State.delivered (s : State) : State :=
  match s.link.state with
  | .answered => { s with link := { s.link with state := .ready, buffer := none, flags := .clear } }
  | .loading => { s with link := { s.link with buffer := none, flags := .clear } }
  | _ => { s with link.flags := .clear }

/-- A FETCH ends after `clocked` bytes: the frame is driven on MISO and 0x00 after it (R196), and the
delivery is complete when the whole frame was clocked out (R200). -/
def takeFetch (clocked : Nat) (s : State) : State :=
  let frame := responseFrame s.fetched s.link.flags
  let s' := { s with
    link.miso := frame.take clocked ++ List.replicate (clocked - frame.length) 0 }
  if frame.length ≤ clocked then s'.delivered else s'

/-- FETCH_TRANSACTION (R200). -/
def execFetchTransaction (clocked : Nat) (s : State) : Host.Outcome State Fault Refusal :=
  .next (s.taken (.fetchTransaction clocked) (takeFetch clocked))

/-! ## Other selectors -/

/-- A transaction with another selector sets BAD_TRANSACTION, and one with no complete byte sets nothing
(R196). A selector of 0xA5 or 0x5A with nothing after it is an empty WRITE or FETCH. -/
def takeBad (selector : Option Byte) (s : State) : State :=
  match selector with
  | none => s
  | some sel =>
    if sel = 0xA5 then takeWrite [] s
    else if sel = 0x5A then takeFetch 0 s
    else { s with link.miso := [], link.flags.badTransaction := true }

/-- BAD_TRANSACTION (R196). -/
def execBadTransaction (selector : Option Byte) (s : State) : Host.Outcome State Fault Refusal :=
  .next (s.taken (.badTransaction selector) (takeBad selector))

/-! ## describe -/

/-- The capability record (11.6). -/
def capabilityRecord : List Byte := [16, 6, 3, 8, 16, 4, 8, 8, 31, 25, 1]

/-- **describe** (R205). -/
def describe (req : Req Unit) (s : State) : State × Reply :=
  withFields req s fun _ => (s, ok capabilityRecord)

/-- DESCRIBE (R205). -/
def execDescribe (req : Req Unit) (s : State) : Host.Outcome State Fault Refusal :=
  .next (s.taken (.describe req) (State.command (.describe req) (describe req)))

/-! ## notices -/

/-- **notices** (R204): the set is answered and emptied. -/
def notices (req : Req Unit) (s : State) : State × Reply :=
  withFields req s fun _ => ({ s with notices := 0 }, ok (be2 s.notices.toNat))

/-- NOTICES (R204). -/
def execNotices (req : Req Unit) (s : State) : Host.Outcome State Fault Refusal :=
  .next (s.taken (.notices req) (State.command (.notices req) (notices req)))

/-! ## restart -/

/-- The seats that hold entries or a programme (R206). -/
def State.busySeats (s : State) : Nat :=
  (s.seats.toList.filter fun seat => !seat.entries.isEmpty || seat.programme.isSome).length

/-- What a **restart** leaves (R62, R134, R206): flags and notices first, then the edit buffer, the seats,
the request queue and the guardian window, whose notice is added after the emptying (R172). -/
def State.restarted (s : State) : State :=
  let s' := { s with
    link.flags := .clear, notices := 0, edit := none,
    seats := Vector.replicate 6 Seat.vacant, requests := [] }
  s'.closeWindow

/-- **restart** (R206). -/
def restart (req : Req Unit) (s : State) : State × Reply :=
  withFields req s fun _ =>
    (s.restarted, ok (flagByte s.authority.window.isSome ++ flagByte s.edit.isSome
      ++ be1 s.busySeats ++ be1 s.requests.length))

/-- RESTART (R206). -/
def execRestart (req : Req Unit) (s : State) : Host.Outcome State Fault Refusal :=
  .next (s.taken (.restart req) (State.command (.restart req) (restart req)))

end Sys2Proof.Machine
end

