-- ==== Sys2Proof/Machine/Verdict.lean ====
section
/-! DEFINITION. The verdict unit (chapter 4): the four rule groups, the walk through them in the household
group order, and the seat table's evaluation of entries (R57). -/

namespace Sys2Proof.Machine

/-! ## The grant group -/

/-- The metered flag of the live TITLE_PERMIT for the profile and content id; none for content id 0
(R69). -/
def State.titlePermit? (s : State) (k : Fin 16) (content : Word) : Option Bool :=
  if content = 0 then none
  else s.grants.toList.findSome? fun g =>
    match g with
    | some ⟨k', .titlePermit c m _⟩ => if k' = k && c = content then some m else none
    | _ => none

/-! ## The rating group -/

/-- The programme maturity m: the profile's unrated level stands for UNRATED (R70). -/
def ratedLevel (r : Rules) (m : Maturity) : Nat := m.getD r.unrated

/-- The effective ceiling c (R71). -/
def effectiveCeiling (r : Rules) (guardian : Bool) : Nat :=
  if guardian then min 31 (r.ceiling + r.headroom) else r.ceiling

/-- The rating group (R72): none is PASS. -/
def ratingGroup (r : Rules) (p : Programme) (guardian : Bool) : Option Denial :=
  if effectiveCeiling r guardian < ratedLevel r p.maturity then some .ratingLevel
  else if p.descriptors &&& r.blocked ≠ 0 then some .ratingDescriptor
  else none

/-! ## The window group -/

/-- The weekday before (R75). -/
def dayBefore (d : Fin 7) : Fin 7 := d + 6

/-- Whether a window covers minute t of weekday d (R74, R75). -/
def Window.covers (w : Window) (t : Nat) (d : Fin 7) : Bool :=
  if w.start < w.stop then w.days.getLsbD d.val && w.start ≤ t && t < w.stop
  else (w.days.getLsbD d.val && w.start ≤ t) || (w.days.getLsbD (dayBefore d).val && t < w.stop)

/-- The windows in the positions that are present (R20). -/
def Rules.windowList (r : Rules) : List Window := r.windows.toList.filterMap id

/-- A live WINDOW_WAIVER of the profile (R76). -/
def State.hasWaiver (s : State) (k : Fin 16) : Bool :=
  s.grants.toList.any fun g =>
    match g with
    | some ⟨k', .windowWaiver _⟩ => k' = k
    | _ => false

/-- The minute of day of the wall clock (R73). -/
def Clock.minute (c : Clock) : Nat := c.second / 60

/-- The window group (R76): none is PASS. -/
def State.windowGroup (s : State) (k : Fin 16) (r : Rules) : Option Denial :=
  let ws := r.windowList
  if !s.clock.isSet then (if ws.isEmpty then none else some .clock)
  else if s.hasWaiver k then none
  else
    let covers := fun w : Window => w.covers s.clock.minute s.clock.weekday
    if ws.any (fun w => w.kind = .deny && covers w) then some .window
    else if ws.any (·.kind = .allow) && !ws.any (fun w => w.kind = .allow && covers w) then some .window
    else none

/-! ## The time group -/

/-- The state that a PASS of the time group carries (R79); `asks` marks a request to be raised. -/
inductive TimePass where
  | clear
  | low
  | winding (ends : Nat)
  | waiting (asks : Bool)
deriving DecidableEq, Repr

/-- The time group (R79): none is DENY(TIME). `winding` is the wind-down end of an entry that is in
WINDING when the evaluation begins. -/
def State.timeGroup (s : State) (k : Fin 16) (r : Rules) (winding : Option Nat) : Option TimePass :=
  if !r.metered then some .clear
  else if 0 < s.remaining k then some (if lowAt r (s.remaining k) then .low else .clear)
  else
    match winding with
    | some e => some (.winding e)
    | none =>
      if s.hasRequest k then some (.waiting false)
      else if s.poolPossible k then some (.waiting true)
      else none

/-! ## The walk -/

/-- The outcome of an evaluation: the entry's state, whether a request is to be raised, and the deciding
group (R67, R80, R86). -/
structure Verdict where
  state : EntryState
  asks : Bool
  decider : Option RuleGroup
deriving DecidableEq, Repr

/-- The state of an entry permitted before the time group was consulted: CLEAR or LOW by remaining time
alone (R68). -/
def State.unjudgedState (s : State) (k : Fin 16) (r : Rules) (why : Pass) : EntryState :=
  if r.metered && lowAt r (s.remaining k) then .low why else .clear why

/-- A permitted entry (R68): it takes the state the time group carried, when that group was consulted. -/
def State.permit (s : State) (k : Fin 16) (r : Rules) (why : Pass) (carried : Option TimePass)
    (decider : Option RuleGroup) : Verdict :=
  match carried with
  | none => ⟨s.unjudgedState k r why, false, decider⟩
  | some .clear => ⟨.clear why, false, decider⟩
  | some .low => ⟨.low why, false, decider⟩
  | some (.winding e) => ⟨.winding why e, false, decider⟩
  | some (.waiting asks) => ⟨.waiting why, asks, decider⟩

/-- The walk through the groups that are left, in order, up to the first that does not PASS (R67). -/
def State.walk (s : State) (k : Fin 16) (r : Rules) (p : Programme) (guardian : Bool)
    (winding : Option Nat) : List RuleGroup → Option TimePass → Verdict
  | [], carried => s.permit k r .allPass carried none
  | .grant :: rest, carried =>
    match s.titlePermit? k p.content with
    | some m => s.permit k r (.grant m) carried (some .grant)
    | none => s.walk k r p guardian winding rest carried
  | .rating :: rest, carried =>
    match ratingGroup r p guardian with
    | some d => ⟨.denied d, false, some .rating⟩
    | none => s.walk k r p guardian winding rest carried
  | .window :: rest, carried =>
    match s.windowGroup k r with
    | some d => ⟨.denied d, false, some .window⟩
    | none => s.walk k r p guardian winding rest carried
  | .time :: rest, _ =>
    match s.timeGroup k r winding with
    | some c => s.walk k r p guardian winding rest (some c)
    | none => ⟨.denied .time, false, some .time⟩

/-- The evaluation of a CHILD or GUEST profile against a programme (R65, R67). -/
def State.evaluate (s : State) (k : Fin 16) (r : Rules) (p : Programme) (guardian : Bool)
    (winding : Option Nat) : Verdict :=
  s.walk k r p guardian winding s.settings.groupOrder none

/-! ## Evaluating entries -/

/-- Re-evaluates one entry on a seat with a programme (R57): a GUARDIAN becomes EXEMPT, and a CHILD or
GUEST takes its verdict, with a request raised where the walk asks for one (R80). `keepWind` is clear
within **play**, which ends wind-downs before it evaluates (R54). -/
def State.judge (s : State) (p : Programme) (guardian keepWind : Bool) (e : Entry) : State × Entry :=
  if s.isGuardian e.slot then (s, { e with state := .exempt })
  else
    match s.rules? e.slot with
    | some r =>
      let v := s.evaluate e.slot r p guardian (if keepWind then e.state.windEnd? else none)
      (if v.asks then s.raiseRequest e.slot else s, { e with state := v.state })
    | none => (s, e)

/-- Re-evaluates the selected entries of a list, in join order (R57). -/
def State.judgeAll (p : Programme) (guardian keepWind : Bool) (sel : Entry → Bool) :
    State → List Entry → State × List Entry
  | s, [] => (s, [])
  | s, e :: es =>
    let one := if sel e then s.judge p guardian keepWind e else (s, e)
    let rest := State.judgeAll p guardian keepWind sel one.1 es
    (rest.1, one.2 :: rest.2)

/-- Re-evaluates the selected entries of one seat, if it has a programme, and derives the seat (R57). -/
def State.reevalSeat (keepWind : Bool) (sel : Entry → Bool) (s : State) (k : Fin 6) : State :=
  match s.seats[k].programme with
  | none => s
  | some p =>
    let out := State.judgeAll p s.seats[k].guardianPresent keepWind sel s s.seats[k].entries
    out.1.putSeat k out.2 (some p)

/-- Re-evaluates the selected entries of every seat with a programme, in ascending seat number (R57,
R58). -/
def State.reeval (s : State) (sel : Entry → Bool) : State :=
  (List.finRange 6).foldl (State.reevalSeat true sel) s

/-- The entries of one profile. -/
def ofProfile (k : Fin 16) (e : Entry) : Bool := e.slot = k

/-- Every entry. -/
def everyEntry (_ : Entry) : Bool := true

/-- The CHILD and GUEST entries, which a change of the guardian-present flag re-evaluates (R45). -/
def State.judgedEntry (s : State) (e : Entry) : Bool := !s.isGuardian e.slot

/-- Whether any seat with a programme has an entry, so that a re-evaluation of every seat has something to
do. -/
def State.anyJudged (s : State) : Bool :=
  s.seats.toList.any fun seat => seat.programme.isSome && !seat.entries.isEmpty

end Sys2Proof.Machine
end

