-- ==== Sys2Proof/Machine/Exhaustion.lean ====
section
/-! DEFINITION. The meter unit's handling of an exhausted profile: metering entries (R95), exhaustion
events (R103 to R105), draws and waits (R108 to R110), and budget decreases (R102). -/

namespace Sys2Proof.Machine

/-! ## Metering entries -/

/-- Whether an entry on its seat is a metering entry (R95). -/
def meteringOn (seat : Seat) (e : Entry) : Bool := seat.state.debits && e.state.pass?.isSome

/-- Whether the profile has a metering entry on some seat (R95). -/
def State.hasMetering (s : State) (k : Fin 16) : Bool :=
  s.seats.toList.any fun seat => seat.entries.any fun e => e.slot = k && meteringOn seat e

/-- A metered profile (R95): a LIVE CHILD or GUEST with its metered flag yes and a metering entry. -/
def State.isMetered (s : State) (k : Fin 16) : Bool :=
  (s.rules? k).any (·.metered) && s.hasMetering k

/-- GRANT stands before TIME in the group order, so that a title permit decides before the time group is
consulted (R68). -/
def grantBeforeTime (order : List RuleGroup) : Bool := order.idxOf .grant < order.idxOf .time

/-- Whether the time group was consulted at the last evaluation of a permitted entry (R68, R100): it was
not for an entry with reason GRANT while GRANT stands before TIME. -/
def State.timeConsulted (s : State) (e : Entry) : Bool :=
  match e.state.pass? with
  | some (.grant _) => !grantBeforeTime s.settings.groupOrder
  | _ => true

def EntryState.isClearOrLow : EntryState → Bool
  | .clear _ => true
  | .low _ => true
  | _ => false

/-- The targets of an exhaustion check: the profile's metering entries in CLEAR or LOW whose time group was
consulted (R103). -/
def State.isTarget (s : State) (k : Fin 16) (seat : Seat) (e : Entry) : Bool :=
  e.slot = k && meteringOn seat e && e.state.isClearOrLow && s.timeConsulted e

/-- The WAITING entries of a profile, the entries concerned after a pool wait (R105). -/
def isWaitingOf (k : Fin 16) (_ : Seat) (e : Entry) : Bool := e.slot = k && e.state.isWaiting

/-! ## Direct writes -/

/-- The reason that a direct write of a permitted state keeps (R59). -/
def EntryState.kept (e : EntryState) : Pass := e.pass?.getD .allPass

/-- Writes every entry concerned WAITING (R104). -/
def State.writeWaiting (s : State) (sel : Seat → Entry → Bool) : State :=
  s.writeEntries fun seat e => if sel seat e then .waiting e.state.kept else e.state

/-- Writes every entry concerned DENIED(TIME) (R104). -/
def State.denyTime (s : State) (sel : Seat → Entry → Bool) : State :=
  s.writeEntries fun seat e => if sel seat e then .denied .time else e.state

/-- The wind-down end that an entry on the seat would take (R105): none when the seat's programme has no
end moment later than the second counter. -/
def State.windEndOn (s : State) (cap : Nat) (seat : Seat) : Option Nat :=
  match seat.programme.bind (·.ends) with
  | some e => if s.clock.counter < e then some (min e (s.clock.counter + 60 * cap)) else none
  | none => none

/-- Whether wind-down is available to the profile for the entries concerned (R105). -/
def State.windDownOpen (s : State) (k : Fin 16) (cap : Nat) (sel : Seat → Entry → Bool) : Bool :=
  0 < cap && !s.meters[k].windUsed &&
    s.seats.toList.any fun seat => (s.windEndOn cap seat).isSome && seat.entries.any (sel seat)

/-- Sets the wind-down used flag (R93, R105). -/
def State.useWindDown (s : State) (k : Fin 16) : State :=
  { s with meters := s.meters.set k { s.meters[k] with windUsed := true }, meterDirty := true }

/-- Wind-down for the entries concerned when it is available, DENIED(TIME) otherwise (R105). -/
def State.windDownOrDeny (s : State) (k : Fin 16) (sel : Seat → Entry → Bool) : State :=
  let cap := ((s.rules? k).map (·.windCap)).getD 0
  if s.windDownOpen k cap sel then
    (s.writeEntries fun seat e =>
      if sel seat e then
        match s.windEndOn cap seat with
        | some ends => .winding e.state.kept ends
        | none => .denied .time
      else e.state).useWindDown k
  else s.denyTime sel

/-! ## Exhaustion -/

/-- An exhaustion event (R104): the pending request, the pool, a wind-down, or a denial. -/
def State.exhaust (s : State) (k : Fin 16) : State :=
  let sel := s.isTarget k
  if s.hasRequest k then s.writeWaiting sel
  else if s.poolPossible k then (s.raiseRequest k).writeWaiting sel
  else s.windDownOrDeny k sel

/-- The exhaustion check of one profile (R103). -/
def State.exhaustionCheck (s : State) (k : Fin 16) : State :=
  if s.remaining k = 0 && s.seats.toList.any (fun seat => seat.entries.any (s.isTarget k seat)) then
    s.exhaust k
  else s

/-- What a budget decrease does at once (R102): when the budget fell while R was above 0, R is now 0 and
the profile is metered with metering entries, an exhaustion event is taken. -/
def State.afterDecrease (s before : State) (k : Fin 16) : State :=
  if s.budget k < before.budget k && 0 < before.remaining k && s.remaining k = 0 && s.isMetered k then
    s.exhaustionCheck k
  else s

/-! ## Draws and waits -/

/-- The meter unit's part of a draw of g minutes (R108): the credit, and then a re-evaluation when R is
above 0, or the writes of R109 when R is still 0. -/
def State.creditDraw (s : State) (k : Fin 16) (g : Nat) : State :=
  let m := s.meters[k]
  let s' : State := { s with
    meters := s.meters.set k { m with drawn := m.drawn + g, draws := m.draws + 1 },
    meterDirty := true }
  if 0 < s'.remaining k then s'.reeval (ofProfile k)
  else if s'.poolPossible k then s'.raiseRequest k
  else s'.windDownOrDeny k (isWaitingOf k)

/-- The end of a pool wait without a draw (R110). -/
def State.endOfWait (s : State) (k : Fin 16) : State :=
  if s.hasWaiting k then
    if 0 < s.remaining k then s.reeval (ofProfile k) else s.windDownOrDeny k (isWaitingOf k)
  else s

end Sys2Proof.Machine
end

