-- ==== Sys2Proof/Machine/Arbiter.lean ====
section
/-! DEFINITION. The pool arbiter (6.4, 6.5): the winner of a draw, grant opportunities, the requests that
no WAITING entry holds any longer (R60), and the end of an event that touches seats. -/

namespace Sys2Proof.Machine

/-- The oldest request of the first tier of the order that has one (R129). -/
def winner? (tierOrder : List Nat) (queue : List Request) : Option Request :=
  tierOrder.findSome? fun t => queue.find? (·.tier = t)

/-- The draw size of a profile; at least one minute, as every record in range has (R18, R129). -/
def State.drawSizeOf (s : State) (k : Fin 16) : Nat := max 1 (((s.rules? k).map (·.drawSize)).getD 1)

/-- One draw for the winning request (R129): it leaves the queue, g minutes move from P to D, and the draw
is handed to the meter unit. -/
def State.drawFor (s : State) (r : Request) : State :=
  let g := min (s.drawSizeOf r.slot) s.pool.remaining
  let s' : State := { s.dropRequest r.slot with
    pool := { s.pool with remaining := s.pool.remaining - g, drawn := s.pool.drawn + g },
    meterDirty := true }
  s'.creditDraw r.slot g

/-- Draws, one at a time, while P is above 0 and the queue holds a request (R128). Each draw takes at
least one minute, so that `fuel` = P is enough. The second result counts the draws. -/
def State.draws : Nat → State → State × Nat
  | 0, s => (s, 0)
  | fuel + 1, s =>
    if s.pool.remaining = 0 then (s, 0)
    else
      match winner? s.settings.tierOrder s.requests with
      | none => (s, 0)
      | some r =>
        let rest := State.draws fuel (s.drawFor r)
        (rest.1, rest.2 + 1)

/-- A grant opportunity (R128); one that made a draw and leaves a request waiting adds POOL_WAITING
(R126). -/
def State.opportunity (s : State) : State × Nat :=
  let out := State.draws s.pool.remaining s
  if 0 < out.2 && !out.1.requests.isEmpty then (out.1.addNotice .poolWaiting, out.2) else out

/-- Removes the requests of profiles that hold no WAITING entry (R60, R125, R132). -/
def State.releaseWaits (s : State) : State :=
  { s with requests := s.requests.filter fun r => s.hasWaiting r.slot }

/-- The end of an event's evaluations: requests without a WAITING entry leave the queue (R60), and a grant
opportunity is taken when a request joined or left it, or when `offered` says that the event offers one
itself (R80, R111, R128). The second result counts the draws. -/
def State.settleWaits (s before : State) (offered : Bool) : State × Nat :=
  let s' := s.releaseWaits
  if offered || s'.requests ≠ before.requests then s'.opportunity else (s', 0)

/-- The end of an event that touches seats: waits are settled, and SEAT_CHANGED is added for each seat
whose state differs from the state it had when the event was taken (R46). -/
def State.settle (s before : State) (offered : Bool) : State × Nat :=
  let out := s.settleWaits before offered
  (State.noteSeats before out.1, out.2)

/-- `settle` without the count of draws. -/
def State.settled (s before : State) (offered : Bool) : State := (s.settle before offered).1

end Sys2Proof.Machine
end

