-- ==== Sys2Proof/Machine/Presence.lean ====
section
/-! DEFINITION. The removal of an entry from a seat (R51), which **leave** and **retire** share. -/

namespace Sys2Proof.Machine

/-- Whether the seat holds an entry of the profile (R48, R50). -/
def holdsEntry (seat : Seat) (k : Fin 16) : Bool := seat.entries.any fun e => e.slot = k

/-- Re-evaluates the CHILD and GUEST entries of a seat whose guardian-present flag has just changed; without
a programme there is nothing to evaluate (R45). -/
def State.reevalJudged (s : State) (j : Fin 6) : State := s.reevalSeat true s.judgedEntry j

/-- Removes a profile's entry from a seat, the entries behind it moving up; when the last guardian has left,
the remaining CHILD and GUEST entries are re-evaluated (R45, R51). -/
def State.dropEntry (k : Fin 16) (s : State) (j : Fin 6) : State :=
  let seat := s.seats[j]
  if holdsEntry seat k then
    let s' := s.putSeat j (seat.entries.filter fun e => e.slot ≠ k) seat.programme
    if seat.guardianPresent && !s'.seats[j].guardianPresent then s'.reevalJudged j else s'
  else s

end Sys2Proof.Machine
end

