-- ==== Sys2Proof/Machine/ProfileTable.lean ====
section
/-! DEFINITION. The profile table (chapter 2): the edit buffer commands, **pread**, **retire** and
**lookup**. -/

namespace Sys2Proof.Machine

/-! ## eopen -/

/-- The record image of a NEW edit of this kind code: 1 CHILD, 2 GUARDIAN (R25, R26). -/
def newImage? (kind : Byte) : Option Profile :=
  if kind = 1 then some (.child Ident.blank Rules.newChild)
  else if kind = 2 then some (.guardian Ident.blank)
  else none

/-- Creates the edit buffer (R26). -/
def State.openEdit (s : State) (k : Fin 16) (isNew : Bool) (image : Profile) : State × Reply :=
  ({ s with edit := some ⟨k, isNew, image⟩ },
    ok (be1 k.val ++ be1 (if isNew then 0 else 1) ++ be1 image.kind.code))

/-- **eopen** (R25, R26). -/
def eopen (req : Req EopenArgs) (s : State) : State × Reply :=
  guarded s <| withFields req s fun a =>
    match inRange 16 a.slot with
    | none => (s, refuse .badArgument)
    | some k =>
      if a.mode = 0 then
        match newImage? a.kind with
        | none => (s, refuse .badArgument)
        | some image =>
          if s.edit.isSome then (s, refuse .state)
          else if k = 0 || (s.profile? k).isSome then (s, refuse .noSuch)
          else s.openEdit k true image
      else if a.mode = 1 then
        if s.edit.isSome then (s, refuse .state)
        else
          match s.profile? k with
          | none => (s, refuse .noSuch)
          | some p => s.openEdit k false p
      else (s, refuse .badArgument)

/-- EOPEN (R26). -/
def execEopen (req : Req EopenArgs) (s : State) : Host.Outcome State Fault Refusal :=
  .next (s.taken (.eopen req) (State.command (.eopen req) (eopen req)))

/-! ## eset -/

/-- The field ids of 11.6. -/
def fieldKnown (id : Nat) : Bool :=
  (1 ≤ id && id ≤ 8) || (0x10 ≤ id && id ≤ 0x17) || (0x20 ≤ id && id ≤ 0x26) || (0x28 ≤ id && id ≤ 0x2A)
    || (0x30 ≤ id && id ≤ 0x33) || (0x38 ≤ id && id ≤ 0x3A)

/-- Whether a buffer of this kind takes the field (R27): a GUARDIAN only label and tokens, a GUEST no
token. -/
def kindTakes : Kind → Nat → Bool
  | .guardian, id => id ≤ 3
  | .guest, id => id ≠ 2 && id ≠ 3
  | .child, _ => true

/-- The number of a numeric field: value bytes 0..3 (11.6). -/
def fieldNumber (v : BitVec 48) : Nat := (v.extractLsb' 16 32).toNat

/-- A token field: 0 makes the token absent (R28). -/
def fieldToken (v : BitVec 48) : Option Word :=
  if v.extractLsb' 16 32 = 0 then none else some (v.extractLsb' 16 32)

/-- A window field (R28, 11.6): the outer `none` is a malformed window, `some none` an absent one. -/
def fieldWindow (v : BitVec 48) : Option (Option Window) :=
  let kind := (v.extractLsb' 40 8).toNat
  let w := fun k => (⟨k, (v.extractLsb' 24 16).toNat, (v.extractLsb' 8 16).toNat, v.extractLsb' 0 8⟩ : Window)
  if kind = 0 then some none
  else if kind = 1 then (if (w .allow).wellFormed then some (some (w .allow)) else none)
  else if kind = 2 then (if (w .deny).wellFormed then some (some (w .deny)) else none)
  else none

/-- The label or a token of a record with a new value; `none` when the value is out of range (R18, R27). -/
def setIdent (id : Nat) (v : BitVec 48) (w : Ident) : Option Ident :=
  match id with
  | 1 => if fieldNumber v ≤ 65535 then some { w with label := fieldNumber v } else none
  | 2 => some { w with primary := fieldToken v }
  | 3 => some { w with secondary := fieldToken v }
  | _ => none

/-- A field of R18 beyond label and tokens with a new value; `none` when the value is out of range or the
window malformed (R18, R27, R28, 11.6). -/
def setRules (id : Nat) (v : BitVec 48) (r : Rules) : Option Rules :=
  let n := fieldNumber v
  match id with
  | 0x04 => if n ≤ 31 then some { r with ceiling := n } else none
  | 0x05 => if n ≤ 31 then some { r with unrated := n } else none
  | 0x06 => some { r with blocked := BitVec.ofNat 8 n }
  | 0x07 => if n ≤ 31 then some { r with headroom := n } else none
  | 0x08 => if n ≤ 100 then some { r with relief := n } else none
  | 0x28 => if n ≤ 1 then some { r with metered := n = 1 } else none
  | 0x29 => if n ≤ 30 then some { r with warning := n } else none
  | 0x2A => if n ≤ 30 then some { r with windCap := n } else none
  | 0x38 => if n ≤ 3 then some { r with tier := some n } else if n = 255 then some { r with tier := none } else none
  | 0x39 => if 5 ≤ n && n ≤ 60 then some { r with drawSize := n } else none
  | 0x3A => if n ≤ 8 then some { r with drawsPerDay := n } else none
  | _ =>
    match below 8 (id - 0x10) with
    | some c => if 0x10 ≤ id && n ≤ 400 then some { r with rates := r.rates.set c n } else none
    | none =>
      match below 7 (id - 0x20) with
      | some d => if n ≤ 1440 then some { r with allowances := r.allowances.set d n } else none
      | none =>
        match below 4 (id - 0x30) with
        | some q => (fieldWindow v).map fun w => { r with windows := r.windows.set q w }
        | none => none

/-- A record with one field set (R27). -/
def setField (id : Nat) (v : BitVec 48) (p : Profile) : Option Profile :=
  if id ≤ 3 then
    (setIdent id v p.who).map fun w =>
      match p with
      | .guest _ r => .guest w r
      | .child _ r => .child w r
      | .guardian _ => .guardian w
  else
    match p with
    | .guest w r => (setRules id v r).map (.guest w)
    | .child w r => (setRules id v r).map (.child w)
    | .guardian _ => none

/-- The value that **eset** echoes (R27, 11.6): six bytes as in the request, with the bits of the blocked
descriptors above 7, which are not stored, as 0. -/
def echoValue (id : Nat) (v : BitVec 48) : BitVec 48 := if id = 6 then v &&& 0xFFFFFF else v

/-- **eset** (R27, R28). -/
def eset (req : Req EsetArgs) (s : State) : State × Reply :=
  match s.edit with
  | none => (s, refuse .state)
  | some b =>
    withFields req s fun a =>
      let id := a.field.toNat
      if !fieldKnown id then (s, refuse .badArgument)
      else if !kindTakes b.image.kind id then (s, refuse .state)
      else
        match setField id a.value b.image with
        | none => (s, refuse .badArgument)
        | some image =>
          ({ s with edit := some { b with image := image } }, ok (a.field :: valueBytes (echoValue id a.value)))

/-- ESET (R27). -/
def execEset (req : Req EsetArgs) (s : State) : Host.Outcome State Fault Refusal :=
  .next (s.taken (.eset req) (State.command (.eset req) (eset req)))

/-! ## ecommit -/

/-- The LIVE profile, other than slot k, that holds a token (R29). -/
def State.holder? (s : State) (k : Fin 16) (t : Word) : Option (Fin 16) :=
  (List.finRange 16).find? fun j => j ≠ k && (s.profile? j).any (·.holdsToken t)

/-- The slot that CONFLICT names (R29); which of two holders the manual does not say (assumption 13). -/
def State.conflict? (s : State) (k : Fin 16) (w : Ident) : Option (Fin 16) :=
  match w.primary.bind (s.holder? k), w.secondary.bind (s.holder? k) with
  | none, none => none
  | some j, none => some j
  | none, some j => some j
  | some i, some j =>
    if i = j then some i else if Config.conflictNamesSecondary i j then some j else some i

/-- The lowest window position whose window has its start equal to its end (R29). -/
def badWindow? (p : Profile) : Option Nat :=
  p.rules?.bind fun r => r.windows.toList.findIdx? fun w => w.any fun w => w.start = w.stop

/-- The checks of **ecommit**, in order, with the first refusal that applies (R29). -/
def State.commitRefusal? (s : State) (b : EditBuffer) : Option Reply :=
  let w := b.image.who
  if b.image.kind ≠ .guest && w.primary.isNone then some ⟨.invalidRecord, [0x02]⟩
  else if w.secondary.isSome && w.secondary = w.primary then some ⟨.invalidRecord, [0x03]⟩
  else
    match s.conflict? b.slot w with
    | some j => some ⟨.conflict, be1 j.val⟩
    | none => (badWindow? b.image).map fun q => ⟨.invalidRecord, be1 q⟩

/-- A NEW commit (R30). -/
def State.installNew (s : State) (b : EditBuffer) : State :=
  let installed := { s with slots := s.slots.set b.slot (.live b.image), edit := none }
  ((installed.clearMeter b.slot).commit (profileBlock b.slot)).commit meterBlock

/-- A CHANGE commit (R31, R32): the record is replaced, a budget decrease takes its exhaustion event, and
then every entry of the profile is re-evaluated. -/
def State.installChange (s : State) (b : EditBuffer) : State :=
  let installed := { s with slots := s.slots.set b.slot (.live b.image), edit := none }
  let decreased := (installed.commit (profileBlock b.slot)).afterDecrease s b.slot
  (decreased.reeval (ofProfile b.slot)).settled s false

/-- **ecommit** (R29, R30, R31). -/
def ecommit (req : Req Unit) (s : State) : State × Reply :=
  match s.edit with
  | none => (s, refuse .state)
  | some b =>
    withFields req s fun _ =>
      match s.commitRefusal? b with
      | some reply => (s, reply)
      | none =>
        if b.isNew then (s.installNew b, ok (be1 b.slot.val))
        else (s.installChange b, ok (be1 b.slot.val ++ be1 (s.countEntries (ofProfile b.slot))))

/-- ECOMMIT (R29). -/
def execEcommit (req : Req Unit) (s : State) : Host.Outcome State Fault Refusal :=
  .next (s.taken (.ecommit req) (State.command (.ecommit req) (ecommit req)))

/-! ## edrop -/

/-- **edrop** (R33). -/
def edrop (req : Req Unit) (s : State) : State × Reply :=
  withFields req s fun _ => ({ s with edit := none }, ok (flagByte s.edit.isSome))

/-- EDROP (R33). -/
def execEdrop (req : Req Unit) (s : State) : Host.Outcome State Fault Refusal :=
  .next (s.taken (.edrop req) (State.command (.edrop req) (edrop req)))

/-! ## pread -/

/-- A token as an optional field (11.6). -/
def tokenBytes (t : Option Word) : List Byte := optField be4 (t.map (·.toNat))

/-- A window position as a window entry (11.6). -/
def windowBytes : Option Window → List Byte
  | none => [0, 0, 0, 0, 0, 0]
  | some w => be1 (if w.kind = .allow then 1 else 2) ++ be2 w.start ++ be2 w.stop ++ [w.days]

/-- Label and tokens (R18, R19). -/
def identPayload (w : Ident) : List Byte := be2 w.label ++ tokenBytes w.primary ++ tokenBytes w.secondary

/-- The other fields of R18, in its order. The blocked descriptors are one byte, bit k for descriptor k: 11.6 names
no width for a set, and the model takes the form of the **eset** field 0x06 (assumption 10). -/
def rulesPayload (r : Rules) : List Byte :=
  be1 r.ceiling ++ be1 r.unrated ++ [r.blocked] ++ be1 r.headroom ++ be1 r.relief
    ++ r.rates.toList.flatMap be2 ++ r.allowances.toList.flatMap be2 ++ flagByte r.metered
    ++ be2 r.warning ++ be2 r.windCap ++ r.windows.toList.flatMap windowBytes
    ++ be1 (r.tier.getD 255) ++ be2 r.drawSize ++ be1 r.drawsPerDay

/-- The kind and the installed record (R23). -/
def profilePayload (p : Profile) : List Byte :=
  be1 p.kind.code ++ identPayload p.who ++ (p.rules?.map rulesPayload).getD []

/-- **pread** (R23). -/
def pread (req : Req Byte) (s : State) : State × Reply :=
  withFields req s fun b =>
    match inRange 16 b with
    | none => (s, refuse .badArgument)
    | some k =>
      (s, ok (be1 s.slots[k].code ++ flagByte (s.edit.any (·.slot = k))
        ++ ((s.profile? k).map profilePayload).getD []))

/-- PREAD (R23). -/
def execPread (req : Req Byte) (s : State) : Host.Outcome State Fault Refusal :=
  .next (s.taken (.pread req) (State.command (.pread req) (pread req)))

/-! ## retire -/

/-- The entries of the profile on all seats (R36, R118). -/
def State.entriesOf (s : State) (k : Fin 16) : Nat :=
  (s.seats.toList.map fun seat => (seat.entries.filter (ofProfile k)).length).sum

/-- What a **retire** does (R36), in the order of the rule. -/
def State.retired (s : State) (k : Fin 16) : State :=
  let unseated := (List.finRange 6).foldl (State.dropEntry k) s
  let unasked := unseated.dropRequest k
  let ungranted := unasked.retireGrants fun g => g.slot = k
  let cleared := ungranted.clearMeter k
  let freed := { cleared with slots := cleared.slots.set k .free }
  (((freed.commit (profileBlock k)).commit grantBlock).commit meterBlock).settled s (s.hasRequest k)

/-- **retire** (R35, R36). -/
def retire (req : Req Byte) (s : State) : State × Reply :=
  guarded s <| withFields req s fun b =>
    match inRange 16 b with
    | none => (s, refuse .badArgument)
    | some k =>
      if k = 0 then (s, refuse .badArgument)
      else if s.slots[k] = .free then (s, refuse .noSuch)
      else if s.edit.any (·.slot = k) then (s, refuse .state)
      else
        (s.retired k, ok (be1 k.val ++ be1 (s.entriesOf k)
          ++ be1 (s.grants.toList.filter fun g => g.any fun g => g.slot = k).length))

/-- RETIRE (R36). -/
def execRetire (req : Req Byte) (s : State) : Host.Outcome State Fault Refusal :=
  .next (s.taken (.retire req) (State.command (.retire req) (retire req)))

/-! ## lookup -/

/-- **lookup** (R22). -/
def lookup (req : Req Word) (s : State) : State × Reply :=
  withFields req s fun t =>
    let r := s.resolve t
    (s, ok (be1 r.1.val ++ be1 r.2.code ++ be1 (((s.kind? r.1).map Kind.code).getD 0)
      ++ be2 (((s.profile? r.1).map (·.who.label)).getD 0)))

/-- LOOKUP (R22). -/
def execLookup (req : Req Word) (s : State) : Host.Outcome State Fault Refusal :=
  .next (s.taken (.lookup req) (State.command (.lookup req) (lookup req)))

end Sys2Proof.Machine
end

