-- ==== Sys2Proof/Machine/StoreController.lean ====
section
/-! DEFINITION. The store controller (chapter 10): images, block writes and their phases, the urgent save,
**store** and **retry**. -/

namespace Sys2Proof.Machine

/-! ## Images -/

/-- The contents of a profile block for a slot (R38). A DAMAGED slot has no contents of its own; its block is
not written. -/
def Slot.image : Slot → ProfileImage
  | .live p => ⟨1, p.kind.code, true, p.who, p.rules?.getD Rules.newChild⟩
  | _ => ⟨0, 0, true, Ident.blank, Rules.newChild⟩

/-- The contents of a scheme block for a slot (R3). -/
def SchemeSlot.image (c : SchemeSlot) : SchemeImage :=
  match c.scheme with
  | some m => ⟨1, c.locked, m.tag, m.levels.length, m.levels⟩
  | none => ⟨0, c.locked, 0, 0, []⟩

/-- The contents of the household block (R166). -/
def Settings.image (h : Settings) : HouseholdImage :=
  ⟨h.pin, h.groupOrder.map RuleGroup.code, h.tierOrder, h.poolSize, h.windowLength⟩

/-- An entry of the grant block (R151). -/
def Grant.image (g : Grant) : GrantImage := ⟨g.slot.val, some g.body⟩

/-- The contents of the meter block (R114). -/
def State.meterImage (s : State) : MeterImage :=
  ⟨s.meters, true, s.clock.meterDay, s.clock.meterWeekday.val, s.pool⟩

/-- The CRC-16 of a block's contents, over their stored order (R179). -/
def BlockData.crc (d : BlockData) : Half := crc16 (Config.storedBytes d)

/-- Contents with their CRC-16 (R183). -/
def BlockData.image (d : BlockData) : Image := ⟨d, d.crc⟩

/-- The contents of a block from its owner's working copy as it stands (R179). -/
def State.dataOf (s : State) (b : BlockId) : BlockData :=
  match below 16 b.val with
  | some k => .profile s.slots[k].image
  | none =>
    match below 8 (b.val - 14) with
    | some k => .scheme s.schemes[k].image
    | none =>
      if b = householdBlock then .household s.settings.image
      else if b = grantBlock then .grants (Vector.ofFn fun i => s.grants[i].map Grant.image)
      else .meter s.meterImage

/-- The image of a block, taken from the working copy as it stands, with its CRC-16 computed (R183). -/
def State.imageOf (s : State) (b : BlockId) : Image := (s.dataOf b).image

/-! ## Block writes -/

/-- What a block holds. -/
def State.contents (s : State) (b : BlockId) : Contents := s.store.blocks[b].contents

/-- Puts contents into a block; its mark stays. -/
def State.putContents (s : State) (b : BlockId) (c : Contents) : State :=
  { s with store := { s.store with blocks := s.store.blocks.set b { s.store.blocks[b] with contents := c } } }

def State.setStatus (s : State) (b : BlockId) (v : BlockStatus) : State :=
  { s with store := { s.store with status := s.store.status.set b v } }

def State.setRunning (s : State) (w : Option WriteRecord) : State :=
  { s with store := { s.store with running := w } }

def State.setSuspended (s : State) (w : Option Suspended) : State :=
  { s with store := { s.store with suspended := w } }

def State.setQueue (s : State) (q : List QueueItem) : State :=
  { s with store := { s.store with queue := q } }

/-- An erase begins (R183): the image is taken from the working copy, and for the meter block the meter dirty
flag is cleared (R114). The block is erased from here on, for every block, so that a full reset in the write
finds what R192's table says and not the contents from before it, which R3, R12, R38, R116, R151, R158 and R166 bring
back until the write completes: the model's choice (assumption 21). -/
def State.beginErase (s : State) (w : WriteRecord) : State :=
  let begun := (s.putContents w.block .erased).setRunning
    (some { w with phase := .erase, image := s.imageOf w.block })
  if w.block = meterBlock then { begun with meterDirty := false } else begun

/-- The write of a block begins, at attempt 1 (R182, R183). -/
def State.startWrite (s : State) (b : BlockId) : State :=
  s.beginErase ⟨b, .erase, 1, s.imageOf b, s.contents b⟩

/-- The suspended write resumes (R188): its phase is performed again with the image it holds, or, after a
held dip, its erase with a fresh one (R191). -/
def State.resume (s : State) (w : Suspended) : State :=
  let s' := s.setSuspended none
  if w.fresh then s'.beginErase w.write else s'.setRunning (some w.write)

/-- Whether the head of the commit queue carries an urgent mark (R182). -/
def headUrgent (q : List QueueItem) : Bool := q.head?.any (·.urgent)

/-- The head of the commit queue is removed and its write begins (R182). -/
def State.startHead (s : State) : State :=
  match s.store.queue with
  | [] => s
  | item :: rest => (s.setQueue rest).startWrite item.block

/-- The next write is taken when none is running and the link is not LOADING (R182). -/
def State.takeNextWrite (s : State) : State :=
  if s.store.running.isSome || s.link.state = .loading then s
  else if headUrgent s.store.queue then s.startHead
  else
    match s.store.suspended with
    | some w => s.resume w
    | none => s.startHead

/-- BLOCK_WRITE_BEGIN (R182). -/
def execBlockWriteBegin (s : State) : Host.Outcome State Fault Refusal :=
  .next (s.taken .blockWriteBegin State.takeNextWrite)

/-! ## Phase completions -/

/-- An erase completes and PROGRAM begins (R183), with a free value of its own for what it leaves should it be cut
(R192; assumption 8); the completion of an interrupted phase is discarded (R188, R191). -/
def takeEraseComplete (interrupted : Bool) (s : State) : State :=
  match s.store.running with
  | some w =>
    if !interrupted && w.phase = .erase then
      let begun := (s.putContents w.block (.partly s.freeCount)).setRunning (some { w with phase := .program })
      { begun with freeCount := s.freeCount + 1 }
    else s
  | none => s

/-- ERASE_COMPLETE (R183). -/
def execEraseComplete (interrupted : Bool) (s : State) : Host.Outcome State Fault Refusal :=
  .next (s.taken (.eraseComplete interrupted) (takeEraseComplete interrupted))

/-- A program completes: the block holds the new contents, and VERIFY begins (R183). -/
def takeProgramComplete (interrupted : Bool) (s : State) : State :=
  match s.store.running with
  | some w =>
    if !interrupted && w.phase = .program then
      (s.putContents w.block (.image w.image)).setRunning (some { w with phase := .verify })
    else s
  | none => s

/-- PROGRAM_COMPLETE (R183). -/
def execProgramComplete (interrupted : Bool) (s : State) : Host.Outcome State Fault Refusal :=
  .next (s.taken (.programComplete interrupted) (takeProgramComplete interrupted))

/-- The block of a completed write: its mark is set and its status is OK (R180, R183). -/
def State.completeWrite (s : State) (b : BlockId) : State :=
  let marked := { s with store := { s.store with
    blocks := s.store.blocks.set b { s.store.blocks[b] with written := true } } }
  ((marked.setStatus b .ok).setRunning none).takeNextWrite

/-- What a write that failed twice leaves in its block: the record from before it, or contents that fail the
CRC-16, which of the two the manual leaves open (section 10.7; assumption 8). -/
def State.failedContents (s : State) (w : WriteRecord) : Contents :=
  if Config.keepsOld s.freeCount then w.before else .broken

/-- A second failure (R184). -/
def State.failWrite (s : State) (w : WriteRecord) : State :=
  let failed := ((s.putContents w.block (s.failedContents w)).setStatus w.block .failed).setRunning none
  let latched := { failed with store.faultLatch := true, freeCount := s.freeCount + 1 }
  (latched.addNotice .storeFault).takeNextWrite

/-- A verify completes (R183, R184). -/
def takeVerifyComplete (interrupted matched : Bool) (s : State) : State :=
  match s.store.running with
  | some w =>
    if !interrupted && w.phase = .verify then
      if matched then s.completeWrite w.block
      else if w.attempt = 1 then s.beginErase { w with attempt := 2 }
      else s.failWrite w
    else s
  | none => s

/-- VERIFY_COMPLETE (R183, R184). -/
def execVerifyComplete (interrupted matched : Bool) (s : State) : Host.Outcome State Fault Refusal :=
  .next (s.taken (.verifyComplete interrupted matched) (takeVerifyComplete interrupted matched))

/-! ## The urgent save -/

/-- The commit queue without a block. -/
def withoutBlock (b : BlockId) (q : List QueueItem) : List QueueItem := q.filter (·.block ≠ b)

/-- The meter block at the head of the queue with the urgent mark (R187). -/
def State.markUrgent (s : State) : State :=
  s.setQueue (⟨meterBlock, true⟩ :: withoutBlock meterBlock s.store.queue)

/-- An urgent meter save (R187, R188). -/
def State.urgentSave (s : State) : State :=
  match s.store.running with
  | none => s.markUrgent.takeNextWrite
  | some w =>
    if w.block = meterBlock then s.markUrgent
    else
      ((s.setSuspended (some ⟨w, false⟩)).setQueue (withoutBlock meterBlock s.store.queue)).startWrite
        meterBlock

/-! ## store -/

/-- The write state, block id and attempt of the running write, 0 while IDLE (R186), one byte each and no presence
byte (assumption 10). -/
def runningPayload : Option WriteRecord → List Byte
  | none => be1 0 ++ be1 0 ++ be1 0
  | some w => be1 w.phase.code ++ be1 w.block.val ++ be1 w.attempt

/-- The phase in which a suspended write resumes (R188, R191). -/
def Suspended.resumePhase (w : Suspended) : Phase := if w.fresh then .erase else w.write.phase

/-- The suspended write: presence, block id, resumption phase and attempt (R186). -/
def suspendedPayload : Option Suspended → List Byte
  | none => flagByte false ++ be1 0 ++ be1 0 ++ be1 0
  | some w => flagByte true ++ be1 w.write.block.val ++ be1 w.resumePhase.code ++ be1 w.write.attempt

/-- **store** (R186). -/
def store (req : Req Unit) (s : State) : State × Reply :=
  withFields req s fun _ =>
    let c := s.store
    (s, ok (c.status.toList.flatMap (fun v => be1 v.code)
      ++ be1 c.queue.length ++ c.queue.flatMap (fun q => be1 q.block.val ++ flagByte q.urgent)
      ++ runningPayload c.running ++ suspendedPayload c.suspended ++ flagByte c.faultLatch
      ++ [Config.warningLevelCode s.supply.straps] ++ flagByte s.supply.low))

/-- STORE (R186). -/
def execStore (req : Req Unit) (s : State) : Host.Outcome State Fault Refusal :=
  .next (s.taken (.store req) (State.command (.store req) (store req)))

/-! ## retry -/

/-- The blocks whose status is FAILED, in ascending id (R185). -/
def State.failedBlocks (s : State) : List BlockId :=
  (List.finRange 25).filter fun b => s.store.status[b] = .failed

/-- Clears the fault latch and queues every FAILED block (R185). -/
def State.retryFailed (s : State) : State :=
  let cleared := { s with store := { s.store with faultLatch := false } }
  s.failedBlocks.foldl State.commit cleared

/-- **retry** (R185). -/
def retry (req : Req Unit) (s : State) : State × Reply :=
  withFields req s fun _ =>
    (s.retryFailed, ok (flagByte s.store.faultLatch ++ be1 s.failedBlocks.length))

/-- RETRY (R185). -/
def execRetry (req : Req Unit) (s : State) : Host.Outcome State Fault Refusal :=
  .next (s.taken (.retry req) (State.command (.retry req) (retry req)))

end Sys2Proof.Machine
end

