-- ==== Sys2Proof/Machine/Load.lean ====
section
/-! DEFINITION. The start-up load (10.6): its beginning, the reading and classification of each block, what
each owner makes of it, and the end of the load. -/

namespace Sys2Proof.Machine

/-! ## Classification -/

/-- The order in which the load reads the blocks (R193). -/
def loadOrder : List BlockId :=
  [householdBlock, 16, 17, 18, 19, 20, 21, 0, 1, 2, 3, 4, 5, 6, 7, 8, 9, 10, 11, 12, 13, 14, 15,
    meterBlock, grantBlock]

/-- What reading a block gives (R179). -/
inductive ReadResult where
  | blank
  | failed
  | passed (d : BlockData)
deriving DecidableEq, Repr

/-- The classification of a block by its mark and its contents (R179): contents pass when the CRC-16 computed over
them is the one stored. A program cut in a block never written fails unless its partial contents happen to pass,
which the cut decided (R192; assumption 8). -/
def classify (b : Block) : ReadResult :=
  match b.contents with
  | .erased => if b.written then .failed else .blank
  | .image i => if i.crc = i.data.crc then .passed i.data else .failed
  | .partly cut =>
    if b.written then .failed
    else
      match Config.partialRead cut with
      | some d => .passed d
      | none => .failed
  | .broken => .failed

/-! ## The household block -/

/-- The settings of a household block whose contents are valid (R166). -/
def HouseholdImage.settings? (i : HouseholdImage) : Option Settings :=
  let h : Settings := ⟨i.pin, i.groups.filterMap RuleGroup.ofCode, i.tiers, i.poolSize, i.windowLength⟩
  if i.groups.length = 4 && h.valid then some h else none

/-- The guardian unit settles the household settings (R166). -/
def State.settleHousehold (s : State) (r : ReadResult) : State :=
  let take := fun (h : Settings) (v : BlockStatus) => State.setStatus { s with settings := h } householdBlock v
  match r with
  | .blank => take Settings.factory .blank
  | .passed (.household i) =>
    match i.settings? with
    | some h => take h .ok
    | none => (take Settings.factory .damaged).commit householdBlock
  | _ => (take Settings.factory .damaged).commit householdBlock

/-! ## Scheme blocks -/

/-- The slot of a scheme block whose contents are valid (R3). -/
def SchemeImage.slot? (i : SchemeImage) : Option SchemeSlot :=
  if i.state = 0 then (if i.locked then none else some SchemeSlot.empty)
  else if i.state = 1 then
    let c : Scheme := ⟨i.tag, i.levels⟩
    if i.n = i.levels.length && c.valid then some ⟨i.locked, some c⟩ else none
  else none

/-- The scheme table settles an operator slot (R3). -/
def State.settleScheme (s : State) (k : Fin 8) (r : ReadResult) : State :=
  let take := fun (c : SchemeSlot) (v : BlockStatus) =>
    State.setStatus { s with schemes := s.schemes.set k c } (schemeBlock k) v
  match r with
  | .blank => take SchemeSlot.empty .blank
  | .passed (.scheme i) =>
    match i.slot? with
    | some c => take c .ok
    | none => take SchemeSlot.empty .damaged
  | _ => take SchemeSlot.empty .damaged

/-! ## Profile blocks -/

/-- The record of a LIVE profile block, by its kind code (R38). -/
def ProfileImage.profile? (i : ProfileImage) : Option Profile :=
  if i.kind = 0 then some (.guest i.who i.rules)
  else if i.kind = 1 then some (.child i.who i.rules)
  else if i.kind = 2 then some (.guardian i.who)
  else none

/-- Whether a record may stand in a slot: GUEST in slot 0 alone (R17, R39). -/
def kindFits (k : Fin 16) (p : Profile) : Bool := (k = 0) = (p.kind = .guest)

/-- The slot that a profile block gives, `none` when its contents are invalid; for slot 0 a FREE state is
handled as DAMAGED (R39). -/
def ProfileImage.slot? (k : Fin 16) (i : ProfileImage) : Option Slot :=
  if i.state = 0 then (if k = 0 then none else some .free)
  else if i.state = 1 && i.codesOk then
    match i.profile? with
    | some p => if p.proper && kindFits k p then some (.live p) else none
    | none => none
  else none

/-- Installs what a profile block gave, with its status. -/
def State.takeSlot (s : State) (k : Fin 16) (slot : Slot) (v : BlockStatus) : State :=
  State.setStatus { s with slots := s.slots.set k slot } (profileBlock k) v

/-- A profile block that gave no record (R39): slot 0 takes the guest factory defaults and its block is queued,
and any other slot takes `slot`. -/
def State.withoutRecord (s : State) (k : Fin 16) (slot : Slot) (v : BlockStatus) : State :=
  if k = 0 then (s.takeSlot k (.live Profile.factoryGuest) v).commit (profileBlock k)
  else s.takeSlot k slot v

/-- Whether the record of slot k shares a token with a LIVE slot below it (R40). -/
def State.tokenClash (s : State) (k : Fin 16) : Bool :=
  (s.profile? k).any fun p =>
    (List.finRange 16).any fun j => j < k && (s.profile? j).any fun q =>
      p.who.primary.any q.holdsToken || p.who.secondary.any q.holdsToken

/-- The token law for one slot (R40). -/
def State.tokenLawAt (s : State) (k : Fin 16) : State :=
  if k ≠ 0 && s.tokenClash k then s.takeSlot k .damaged .damaged else s

/-- The token law, slots in ascending order (R40). -/
def State.tokenLaw (s : State) : State := (List.finRange 16).foldl State.tokenLawAt s

/-- The profile table settles a slot, and after profile block 15 applies the token law (R39, R40). -/
def State.settleProfile (s : State) (k : Fin 16) (r : ReadResult) : State :=
  let settled :=
    match r with
    | .blank => s.withoutRecord k .free .blank
    | .passed (.profile i) =>
      match i.slot? k with
      | some slot => s.takeSlot k slot .ok
      | none => s.withoutRecord k .damaged .damaged
    | _ => s.withoutRecord k .damaged .damaged
  if k = 15 then settled.tokenLaw else settled

/-! ## The meter block -/

/-- The checks of R116 on one meter record. -/
def Meter.valid (m : Meter) : Bool :=
  m.used ≤ counterMax && m.residue ≤ 99 && m.drawn ≤ 480 && m.draws ≤ 8

/-- The checks of R122. -/
def Pool.valid (p : Pool) : Bool :=
  p.sizeInForce ≤ 600 && p.remaining ≤ 1440 && p.drawn ≤ 65535 && p.toppedUp ≤ 65535
    && p.sizeInForce + p.toppedUp ≤ 65535 && p.remaining + p.drawn = p.sizeInForce + p.toppedUp

/-- The checks of R116 and R122; the weekday comes out in range. -/
def MeterImage.weekday? (i : MeterImage) : Option (Fin 7) :=
  if i.records.toList.all Meter.valid && i.flagsOk && i.meterDay ≤ 65535 && i.pool.valid then
    below 7 i.meterWeekday
  else none

/-- The records with those of slots that are not LIVE, or are a LIVE GUARDIAN, cleared (R94, R116). -/
def State.keptRecords (s : State) (records : Vector Meter 16) : Vector Meter 16 :=
  Vector.ofFn fun k => if (s.rules? k).isSome then records[k] else Meter.cleared

/-- The records and the household meter state of a meter block that gave none (R116, R122). -/
def State.withoutMeters (s : State) (v : BlockStatus) : State :=
  State.setStatus
    { s with
      meters := Vector.replicate 16 Meter.cleared
      meterDirty := true
      clock := { s.clock with meterDay := 0, meterWeekday := 0 }
      pool := ⟨s.settings.poolSize, s.settings.poolSize, 0, 0⟩ }
    meterBlock v

/-- The meter unit and the pool arbiter settle the meter block (R116, R122). -/
def State.settleMeters (s : State) (r : ReadResult) : State :=
  match r with
  | .blank => s.withoutMeters .blank
  | .passed (.meter i) =>
    match i.weekday? with
    | some w =>
      State.setStatus
        { s with
          meters := s.keptRecords i.records
          meterDirty := decide (s.keptRecords i.records ≠ i.records)
          clock := { s.clock with meterDay := i.meterDay, meterWeekday := w }
          pool := i.pool }
        meterBlock .ok
    | none => s.withoutMeters .damaged
  | _ => s.withoutMeters .damaged

/-! ## The grant block -/

/-- The grant of a stored entry within the ranges of R137 (R152). -/
def GrantImage.grant? (i : GrantImage) : Option Grant :=
  match below 16 i.slot, i.body with
  | some k, some b => if b.valid then some ⟨k, b⟩ else none
  | _, _ => none

/-- Two live entries with the same profile, kind and content id (R138, R152). -/
def Grant.clashes (g h : Grant) : Bool := g.slot = h.slot && g.body.sameKey h.body

/-- No two of a list of grants clash (R138). -/
def distinctGrants : List Grant → Bool
  | [] => true
  | g :: gs => gs.all (fun h => !g.clashes h) && distinctGrants gs

/-- The grant table of a grant block whose contents are valid (R152). -/
def grantsOf? (stored : Vector (Option GrantImage) 16) : Option (Vector (Option Grant) 16) :=
  let table : Vector (Option Grant) 16 := Vector.ofFn fun i => stored[i].bind GrantImage.grant?
  if stored.toList.all (fun e => e.all fun g => g.grant?.isSome)
      && distinctGrants (table.toList.filterMap id) then some table
  else none

/-- A loaded grant that the two further steps of R152 retire: its profile is not LIVE or is a GUARDIAN, or it is
extra time of another meter day. -/
def State.staleGrant (s : State) (g : Grant) : Bool :=
  (s.rules? g.slot).isNone || g.body.isPastExtra s.clock.meterDay

/-- Installs a grant table, with the status of its block. -/
def State.takeGrants (s : State) (table : Vector (Option Grant) 16) (v : BlockStatus) : State :=
  State.setStatus { s with grants := table } grantBlock v

/-- The grant table settles the grant block (R152). -/
def State.settleGrants (s : State) (r : ReadResult) : State :=
  let free : Vector (Option Grant) 16 := Vector.replicate 16 none
  match r with
  | .blank => s.takeGrants free .blank
  | .passed (.grants stored) =>
    match grantsOf? stored with
    | some table =>
      let loaded := s.takeGrants table .ok
      if loaded.losesAny loaded.staleGrant then
        (loaded.retireGrants loaded.staleGrant).commit grantBlock
      else loaded
    | none => (s.takeGrants free .damaged).commit grantBlock
  | _ => (s.takeGrants free .damaged).commit grantBlock

/-! ## The steps of the load -/

/-- Hands a block's read result to its owner (R193). -/
def State.handBlock (s : State) (b : BlockId) (r : ReadResult) : State :=
  match below 16 b.val with
  | some k => s.settleProfile k r
  | none =>
    match below 8 (b.val - 14) with
    | some k => s.settleScheme k r
    | none =>
      if b = householdBlock then s.settleHousehold r
      else if b = grantBlock then s.settleGrants r
      else s.settleMeters r

/-- The end of the load (R194, R207): the link becomes READY, or ANSWERED while a response is held, the notices
of the load are added, and the first write is taken. -/
def State.endLoad (s : State) : State :=
  let linked := { s with load := none, link.state := if s.link.buffer.isSome then .answered else .ready }
  let noticed := (linked.addNotice .started).addNotice .clockNeeded
  let damaged :=
    if s.store.status.toList.any (· = .damaged) then noticed.addNotice .storeDamage else noticed
  damaged.takeNextWrite

/-- Reads one block of the load (R193); its contents and its mark stay as they are. -/
def State.readBlock (s : State) (n : Nat) (b : BlockId) : State :=
  State.handBlock { s with load := some (n + 1) } b (classify s.store.blocks[b])

/-- The next block of a load that is running is read, and the last one ends it (R193, R194). -/
def takeStoreBlockRead (s : State) : State :=
  match s.load with
  | none => s
  | some n =>
    match loadOrder[n]? with
    | none => s
    | some b =>
      let read := s.readBlock n b
      if n + 1 = loadOrder.length then read.endLoad else read

/-- STORE_BLOCK_READ (R193). -/
def execStoreBlockRead (s : State) : Host.Outcome State Fault Refusal :=
  .next (s.taken .storeBlockRead takeStoreBlockRead)

/-- A held full reset ends when RESETN is high and the supply above the clear level, and the start-up load begins
with the start-up lockout (R170, R189, R193). -/
def takeStartUpLoad (resetnHigh : Bool) (millivolts : Nat) (s : State) : State :=
  if s.supply.held && resetnHigh && clearLevel s.supply.straps < millivolts then
    let s' := { s with supply.held := false, load := some 0, authority.lockout := some 60 }
    s'.drivePins
  else s

/-- START_UP_LOAD (R193). -/
def execStartUpLoad (s : State) (resetnHigh : Bool := true) (millivolts : Nat := 3400) :
    Host.Outcome State Fault Refusal :=
  .next (takeStartUpLoad resetnHigh millivolts s)

end Sys2Proof.Machine
end

