-- ==== Sys2Proof/Machine/SeatTable.lean ====
section
/-! DEFINITION. The seat table's commands (chapter 3): **join**, **leave**, **vacate**, **play**, **endp**
and **sstat**. -/

namespace Sys2Proof.Machine

/-! ## join -/

/-- The entry of a profile on a seat, IDLE when there is none. -/
def entryState (seat : Seat) (k : Fin 16) : EntryState :=
  ((seat.entries.find? (ofProfile k)).map (·.state)).getD .idle

/-- A new entry takes its place at the end of the list (R49): it is evaluated when the seat has a programme,
and when it sets the guardian-present flag the CHILD and GUEST entries are re-evaluated (R45). -/
def State.enter (s : State) (j : Fin 6) (k : Fin 16) : State :=
  let seat := s.seats[j]
  let seated := s.putSeat j (seat.entries ++ [⟨k, .idle⟩]) seat.programme
  let judged := seated.reevalSeat true (ofProfile k) j
  let shared := if judged.seats[j].guardianPresent && !seat.guardianPresent then judged.reevalJudged j else judged
  shared.settled s false

/-- **join** (R48, R49). FULL carries the three slots with no count (assumption 10). -/
def join (req : Req JoinArgs) (s : State) : State × Reply :=
  withFields req s fun a =>
    match inRange 6 a.seat with
    | none => (s, refuse .badArgument)
    | some j =>
      let r := s.resolve a.token
      let seat := s.seats[j]
      if holdsEntry seat r.1 then (s, ok (flagByte true ++ be1 r.1.val ++ be1 r.2.code))
      else if 3 ≤ seat.entries.length then
        (s, ⟨.full, seat.entries.map fun e => BitVec.ofNat 8 e.slot.val⟩)
      else
        let s' := s.enter j r.1
        let st := entryState s'.seats[j] r.1
        (s', ok (be1 r.1.val ++ be1 r.2.code ++ be1 seat.entries.length ++ be1 st.code
          ++ be1 st.reasonCode ++ be1 s'.seats[j].state.code))

/-- JOIN (R49). -/
def execJoin (req : Req JoinArgs) (s : State) : Host.Outcome State Fault Refusal :=
  .next (s.taken (.join req) (State.command (.join req) (join req)))

/-! ## leave -/

/-- **leave** (R50, R51). -/
def leave (req : Req LeaveArgs) (s : State) : State × Reply :=
  withFields req s fun a =>
    match inRange 6 a.seat, s.target? a.form a.target with
    | some j, some (k, _) =>
      if holdsEntry s.seats[j] k then
        let s' := (s.dropEntry k j).settled s false
        (s', ok (be1 k.val ++ be1 s'.seats[j].state.code))
      else (s, refuse .noSuch)
    | _, _ => (s, refuse .badArgument)

/-- LEAVE (R51). -/
def execLeave (req : Req LeaveArgs) (s : State) : Host.Outcome State Fault Refusal :=
  .next (s.taken (.leave req) (State.command (.leave req) (leave req)))

/-! ## vacate -/

/-- **vacate** (R52). -/
def vacate (req : Req Byte) (s : State) : State × Reply :=
  withFields req s fun b =>
    match inRange 6 b with
    | none => (s, refuse .badArgument)
    | some j =>
      ((s.putSeat j [] none).settled s false,
        ok (be1 s.seats[j].entries.length ++ flagByte s.seats[j].programme.isSome))

/-- VACATE (R52). -/
def execVacate (req : Req Byte) (s : State) : Host.Outcome State Fault Refusal :=
  .next (s.taken (.vacate req) (State.command (.vacate req) (vacate req)))

/-! ## play -/

/-- A new programme takes the place of any the seat held: wind-downs end, and every entry is evaluated
(R54). -/
def State.startProgramme (s : State) (j : Fin 6) (p : Programme) : State :=
  ((s.putSeat j s.seats[j].entries (some p)).reevalSeat false everyEntry j).settled s false

/-- **play** (R53, R54). -/
def play (req : Req PlayArgs) (s : State) : State × Reply :=
  withFields req s fun a =>
    match inRange 6 a.seat, inRange 8 a.programme.category with
    | some j, some c =>
      let p := s.programmeOf a.programme c
      let s' := s.startProgramme j p
      (s', ok (be1 (maturityCode p.maturity) ++ optField be4 p.ends ++ be1 s.seats[j].entries.length
        ++ be1 s'.seats[j].state.code))
    | _, _ => (s, refuse .badArgument)

/-- PLAY (R54). -/
def execPlay (req : Req PlayArgs) (s : State) : Host.Outcome State Fault Refusal :=
  .next (s.taken (.play req) (State.command (.play req) (play req)))

/-! ## endp -/

/-- The programme leaves the seat, and every entry becomes IDLE (R55). -/
def State.endProgramme (s : State) (j : Fin 6) : State :=
  (s.putSeat j (s.seats[j].entries.map fun e => { e with state := .idle }) none).settled s false

/-- **endp** (R55). -/
def endp (req : Req Byte) (s : State) : State × Reply :=
  withFields req s fun b =>
    match inRange 6 b with
    | none => (s, refuse .badArgument)
    | some j =>
      if s.seats[j].programme.isSome then (s.endProgramme j, ok (flagByte true))
      else (s, ok (flagByte false))

/-- ENDP (R55). -/
def execEndp (req : Req Byte) (s : State) : Host.Outcome State Fault Refusal :=
  .next (s.taken (.endp req) (State.command (.endp req) (endp req)))

/-! ## sstat -/

/-- The grant-metered flag as an optional field (R43, 11.6). -/
def grantMeteredBytes (e : EntryState) : List Byte :=
  flagByte e.grantMetered?.isSome ++ flagByte (e.grantMetered?.getD false)

/-- One entry in **sstat** (R56). -/
def State.entryPayload (s : State) (e : Entry) : List Byte :=
  be1 e.slot.val ++ be1 (((s.kind? e.slot).map Kind.code).getD 0) ++ be1 e.state.code
    ++ be1 e.state.reasonCode ++ grantMeteredBytes e.state ++ optField be4 e.state.windEnd?

/-- The programme fields in **sstat**, in the order of R44, with the second counter (R56); every field is 0
when the seat has no programme. The descriptor set is one byte, bit k for descriptor k (assumption 10). -/
def programmePayload (counter : Nat) : Option Programme → List Byte
  | some p => flagByte true ++ [p.scheme, p.rating, p.descriptors] ++ be1 p.category.val
      ++ wordBytes p.content ++ optField be4 p.ends ++ be1 (maturityCode p.maturity) ++ be4 counter
  | none => flagByte false ++ List.replicate 18 0

/-- **sstat** (R56). -/
def sstat (req : Req Byte) (s : State) : State × Reply :=
  withFields req s fun b =>
    match inRange 6 b with
    | none => (s, refuse .badArgument)
    | some j =>
      let seat := s.seats[j]
      (s, ok (be1 seat.state.code ++ flagByte seat.guardianPresent ++ be1 seat.entries.length
        ++ seat.entries.flatMap s.entryPayload ++ programmePayload s.clock.counter seat.programme))

/-- SSTAT (R56). -/
def execSstat (req : Req Byte) (s : State) : Host.Outcome State Fault Refusal :=
  .next (s.taken (.sstat req) (State.command (.sstat req) (sstat req)))

end Sys2Proof.Machine
end

