-- ==== Sys2Proof/Machine/Preview.lean ====
section
/-! DEFINITION. **preview** (4.7): the verdict unit's answer for an entry that does not exist. -/

namespace Sys2Proof.Machine

/-- The code of the deciding group, 255 for none (11.6). -/
def deciderCode (g : Option RuleGroup) : Nat := (g.map RuleGroup.code).getD 255

/-- The preview outcome: 0 PERMIT, 1 DENY (R86, 11.6). -/
def outcomeCode (e : EntryState) : Nat := if e.isDenied then 1 else 0

/-- The payload of **preview** for a CHILD or GUEST profile (R86). -/
def State.previewJudged (s : State) (k : Fin 16) (m : Nat) (kind : Kind) (r : Rules) (p : Programme)
    (coview : Bool) : List Byte :=
  let v := s.evaluate k r p coview none
  be1 k.val ++ be1 m ++ be1 kind.code ++ be1 (outcomeCode v.state) ++ be1 (deciderCode v.decider)
    ++ be1 v.state.code ++ be1 v.state.reasonCode ++ grantMeteredBytes v.state
    ++ be1 (ratedLevel r p.maturity) ++ flagByte p.maturity.isNone ++ be1 (effectiveCeiling r coview)
    ++ be4 (s.remaining k) ++ flagByte r.metered ++ flagByte (s.hasRequest k) ++ flagByte v.asks

/-- The payload of **preview** for a GUARDIAN: EXEMPT, the translated level, c and R 0 (R66, R86). -/
def State.previewGuardian (s : State) (k : Fin 16) (m : Nat) (p : Programme) : List Byte :=
  be1 k.val ++ be1 m ++ be1 Kind.guardian.code ++ be1 0 ++ be1 (deciderCode none)
    ++ be1 EntryState.exempt.code ++ be1 0 ++ grantMeteredBytes .exempt
    ++ be1 (maturityCode p.maturity) ++ flagByte p.maturity.isNone ++ be1 0
    ++ be4 0 ++ flagByte Config.guardianMeteredFlag ++ flagByte (s.hasRequest k) ++ flagByte false

/-- **preview** (R84, R85, R86). -/
def preview (req : Req PreviewArgs) (s : State) : State × Reply :=
  withFields req s fun a =>
    match s.target? a.form a.target, inRange 8 a.programme.category with
    | some (k, m), some c =>
      if 2 ≤ a.coview.toNat then (s, refuse .badArgument)
      else
        let p := s.programmeOf a.programme c
        match s.profile? k with
        | none => (s, refuse .noSuch)
        | some profile =>
          match profile.rules? with
          | some r => (s, ok (s.previewJudged k m profile.kind r p (a.coview = 1)))
          | none => (s, ok (s.previewGuardian k m p))
    | _, _ => (s, refuse .badArgument)

/-- PREVIEW (R85). -/
def execPreview (req : Req PreviewArgs) (s : State) : Host.Outcome State Fault Refusal :=
  .next (s.taken (.preview req) (State.command (.preview req) (preview req)))

end Sys2Proof.Machine
end

