-- ==== Sys2Proof/Machine/Scheme.lean ====
section
/-! DEFINITION. The scheme table (chapter 1): **sload**, **sclr**, **slock** and **sread**. -/

namespace Sys2Proof.Machine

/-- Whether the seat's programme names the scheme slot (R5, R11). -/
def namesScheme (k : Fin 8) (seat : Seat) : Bool :=
  seat.programme.any fun p => p.scheme.toNat = k.val

/-- The number of seats whose programme names the slot (R7). -/
def State.seatsNaming (s : State) (k : Fin 8) : Nat := (s.seats.toList.filter (namesScheme k)).length

/-- One seat's part of a scheme change (R11): its derived maturity is computed anew and every entry is
re-evaluated. -/
def State.rederiveSeat (k : Fin 8) (s : State) (j : Fin 6) : State :=
  match s.seats[j].programme with
  | none => s
  | some p =>
    if p.scheme.toNat = k.val then
      let p' := { p with maturity := s.translate p.scheme p.rating }
      (s.putSeat j s.seats[j].entries (some p')).reevalSeat true everyEntry j
    else s

/-- A scheme slot takes new contents (R7, R8): seats are re-derived (R11), the block is committed (R12). -/
def State.changeScheme (s : State) (k : Fin 8) (c : SchemeSlot) : State :=
  let changed := { s with schemes := s.schemes.set k c }
  let rederived := (List.finRange 6).foldl (State.rederiveSeat k) changed
  (rederived.commit (schemeBlock k)).settled s false

/-- The operator slot that a command names (R6, R8, R9): 2..7. -/
def operatorSlot? (b : Byte) : Option (Fin 8) :=
  (inRange 8 b).filter fun k => 2 ≤ k.val

/-- **sload** (R6, R7). -/
def sload (req : Req SloadArgs) (s : State) : State × Reply :=
  withFields req s fun a =>
    match operatorSlot? a.slot with
    | none => (s, refuse .badArgument)
    | some k =>
      let levels := a.levels.map (·.toNat)
      if s.schemes[k].locked then (s, refuse .locked)
      else if a.n.toNat ≠ levels.length || !(Scheme.mk a.tag levels).valid then (s, refuse .badArgument)
      else (s.changeScheme k ⟨false, some ⟨a.tag, levels⟩⟩, ok (be1 k.val ++ be1 (s.seatsNaming k)))

/-- SLOAD (R7). -/
def execSload (req : Req SloadArgs) (s : State) : Host.Outcome State Fault Refusal :=
  .next (s.taken (.sload req) (State.command (.sload req) (sload req)))

/-- **sclr** (R8). -/
def sclr (req : Req Byte) (s : State) : State × Reply :=
  withFields req s fun b =>
    match operatorSlot? b with
    | none => (s, refuse .badArgument)
    | some k =>
      if s.schemes[k].locked then (s, refuse .locked)
      else if s.schemes[k].scheme.isNone then (s, ok (be1 k.val ++ be1 0))
      else (s.changeScheme k SchemeSlot.empty, ok (be1 k.val ++ be1 (s.seatsNaming k)))

/-- SCLR (R8). -/
def execSclr (req : Req Byte) (s : State) : Host.Outcome State Fault Refusal :=
  .next (s.taken (.sclr req) (State.command (.sclr req) (sclr req)))

/-- **slock** (R9). -/
def slock (req : Req Byte) (s : State) : State × Reply :=
  withFields req s fun b =>
    match operatorSlot? b with
    | none => (s, refuse .badArgument)
    | some k =>
      if s.schemes[k].scheme.isNone then (s, refuse .state)
      else if s.schemes[k].locked then (s, ok [])
      else
        let s' := { s with schemes := s.schemes.set k { s.schemes[k] with locked := true } }
        (s'.commit (schemeBlock k), ok [])

/-- SLOCK (R9). -/
def execSlock (req : Req Byte) (s : State) : Host.Outcome State Fault Refusal :=
  .next (s.taken (.slock req) (State.command (.slock req) (slock req)))

/-- The payload of **sread** (R10): state, locked flag, tag, n and the n levels. -/
def schemePayload (c : SchemeSlot) : List Byte :=
  match c.scheme with
  | none => be1 0 ++ flagByte c.locked ++ be2 0 ++ be1 0
  | some x => be1 1 ++ flagByte c.locked ++ halfBytes x.tag ++ be1 x.levels.length
      ++ x.levels.map (BitVec.ofNat 8)

/-- **sread** (R10). -/
def sread (req : Req Byte) (s : State) : State × Reply :=
  withFields req s fun b =>
    match inRange 8 b with
    | none => (s, refuse .badArgument)
    | some k => (s, ok (schemePayload s.schemes[k]))

/-- SREAD (R10). -/
def execSread (req : Req Byte) (s : State) : Host.Outcome State Fault Refusal :=
  .next (s.taken (.sread req) (State.command (.sread req) (sread req)))

end Sys2Proof.Machine
end

