-- ==== Sys2Proof/Machine/FamilyPool.lean ====
section
/-! DEFINITION. The pool arbiter's own steps (chapter 6): **topup**, **pool** and the wait timeout. -/

namespace Sys2Proof.Machine

/-! ## topup -/

/-- The minutes credited for x asked (R123). -/
def Pool.credit (p : Pool) (x : Nat) : Nat :=
  min x (min (1440 - p.remaining) (65535 - p.sizeInForce - p.toppedUp))

/-- A top-up of c minutes, c above 0 (R123). -/
def State.topUp (s : State) (c : Nat) : State :=
  State.commit
    { s with
      pool := { s.pool with remaining := s.pool.remaining + c, toppedUp := s.pool.toppedUp + c },
      meterDirty := true }
    meterBlock

/-- **topup** (R123, R124). -/
def topup (req : Req Half) (s : State) : State × Reply :=
  guarded s <| withFields req s fun x =>
    if x.toNat < 1 || 600 < x.toNat then (s, refuse .badArgument)
    else
      let c := s.pool.credit x.toNat
      let out := if 0 < c then (s.topUp c).settle s true else (s, 0)
      (out.1, ok (be2 c ++ be2 out.1.pool.remaining ++ be1 out.2 ++ be1 out.1.requests.length))

/-- TOPUP (R123). -/
def execTopup (req : Req Half) (s : State) : Host.Outcome State Fault Refusal :=
  .next (s.taken (.topup req) (State.command (.topup req) (topup req)))

/-! ## pool -/

/-- One request in **pool** (R136). -/
def requestPayload (counter : Nat) (r : Request) : List Byte :=
  be1 r.slot.val ++ be1 r.tier ++ be4 r.arrival ++ be2 (counter - r.arrival)

/-- **pool** (R136). -/
def poolRead (req : Req Unit) (s : State) : State × Reply :=
  withFields req s fun _ =>
    (s, ok (be2 s.settings.poolSize ++ be2 s.pool.sizeInForce ++ be2 s.pool.remaining ++ be2 s.pool.drawn
      ++ be2 s.pool.toppedUp ++ s.settings.tierOrder.flatMap be1 ++ be4 s.clock.counter
      ++ be1 s.requests.length ++ s.requests.flatMap (requestPayload s.clock.counter)))

/-- POOL (R136). -/
def execPool (req : Req Unit) (s : State) : Host.Outcome State Fault Refusal :=
  .next (s.taken (.pool req) (State.command (.pool req) (poolRead req)))

/-! ## The wait timeout -/

/-- Whether a request has waited 60 seconds (R131). -/
def timedOut (counter : Nat) (r : Request) : Bool := r.arrival + 60 ≤ counter

/-- The timeout check of one second (R131): the requests timed out leave the queue, their profiles are
handed the end of the wait in queue order, and one grant opportunity follows. -/
def State.timeoutCheck (s : State) : State :=
  let out := s.requests.filter (timedOut s.clock.counter)
  let removed := { s with
    requests := s.requests.filter fun r => !timedOut s.clock.counter r, due.timeout := false }
  (out.foldl (fun s r => s.endOfWait r.slot) removed).settled s (!out.isEmpty)

/-- Takes the timeout check that the last second event handed over. -/
def takePoolWaitTimeout (s : State) : State := if s.due.timeout then s.timeoutCheck else s

/-- POOL_WAIT_TIMEOUT (R131). -/
def execPoolWaitTimeout (s : State) : Host.Outcome State Fault Refusal :=
  .next (s.taken .poolWaitTimeout takePoolWaitTimeout)

end Sys2Proof.Machine
end

