-- ==== Sys2Proof/Machine/GrantTable.lean ====
section
/-! DEFINITION. The grant table (chapter 7): **gadd**, **grevoke**, **gread** and the expiry of grants. -/

namespace Sys2Proof.Machine

/-- Now, as the grant table reads it (7.1). -/
def State.now (s : State) : Moment := ⟨s.clock.day, s.clock.minute⟩

/-! ## gadd -/

/-- The fields of the kind given, when that kind exists and they are in its ranges (R137, R139); the fields
that the kind does not use are ignored. -/
def grantBody? (a : GaddArgs) (meterDay : Nat) : Option GrantBody :=
  let expiry : Moment := ⟨a.expiryDay.toNat, a.expiryMinute.toNat⟩
  if a.kind = 1 then
    if a.content ≠ 0 && a.metered.toNat ≤ 1 && expiry.minute ≤ 1439 then
      some (.titlePermit a.content (a.metered = 1) expiry)
    else none
  else if a.kind = 2 then
    if 1 ≤ a.minutes.toNat && a.minutes.toNat ≤ 720 then some (.extraTime a.minutes.toNat meterDay) else none
  else if a.kind = 3 then
    if expiry.minute ≤ 1439 then some (.windowWaiver expiry) else none
  else none

/-- An expiry that **gadd** admits: after now, its day index at most 7 above the clock's (R139). -/
def Moment.admitted (e now : Moment) : Bool := !e.reached now && e.day ≤ now.day + 7

/-- The live entry that a **gadd** must change (R140). -/
def State.matching? (s : State) (k : Fin 16) (b : GrantBody) : Option (Fin 16) :=
  (List.finRange 16).find? fun i => s.grants[i].any fun g => g.slot = k && g.body.sameKey b

/-- The lowest-numbered free entry (R138). -/
def State.freeEntry? (s : State) : Option (Fin 16) :=
  (List.finRange 16).find? fun i => s.grants[i].isNone

/-- An entry changed by a **gadd** of the same key (R141): a title permit and a waiver take the fields of the
command, and extra time adds its minutes up to 720 and keeps its meter day of creation. -/
def GrantBody.changedBy (old new : GrantBody) : GrantBody :=
  match old, new with
  | .extraTime m d, .extraTime m' _ => .extraTime (min 720 (m + m')) d
  | _, b => b

/-- The minutes of an extra time body, 0 for the other kinds. -/
def GrantBody.minutes : GrantBody → Nat
  | .extraTime m _ => m
  | _ => 0

/-- The fields at the end of a **gadd** response: credited minutes and minutes, or the expiry as stored
(R142). -/
def GrantBody.replyFields (b : GrantBody) (credited : Nat) : List Byte :=
  match b.expiry? with
  | some e => be2 e.day ++ be2 e.minute
  | none => be2 credited ++ be2 b.minutes

/-- The change in the table, the commit and the re-evaluation of the profile's entries (R142). -/
def State.putGrant (s : State) (i : Fin 16) (k : Fin 16) (b : GrantBody) : State :=
  let changed := { s with grants := s.grants.set i (some ⟨k, b⟩) }
  ((changed.commit grantBlock).reeval (ofProfile k)).settled s false

/-- A **gadd** that creates an entry (R140). -/
def State.createGrant (s : State) (i k : Fin 16) (b : GrantBody) : State × Reply :=
  (s.putGrant i k b,
    ok (be1 i.val ++ flagByte true ++ be1 (s.countEntries (ofProfile k)) ++ b.replyFields b.minutes))

/-- A **gadd** that changes an entry in place; an addition that credits nothing changes nothing (R141). -/
def State.changeGrant (s : State) (i k : Fin 16) (old new : GrantBody) : State × Reply :=
  let b := old.changedBy new
  let credited := b.minutes - old.minutes
  if b.isExtra && credited = 0 then
    (s, ok (be1 i.val ++ flagByte false ++ be1 0 ++ b.replyFields 0))
  else
    (s.putGrant i k b,
      ok (be1 i.val ++ flagByte false ++ be1 (s.countEntries (ofProfile k)) ++ b.replyFields credited))

/-- A **gadd** past the checks on its expiry (R139 check 6, R140). -/
def State.addGrant (s : State) (k : Fin 16) (b : GrantBody) : State × Reply :=
  match s.matching? k b with
  | some i =>
    match s.grants[i] with
    | some g => s.changeGrant i k g.body b
    | none => (s, refuse .full)
  | none =>
    match s.freeEntry? with
    | some i => s.createGrant i k b
    | none => (s, refuse .full)

/-- **gadd** (R139 to R142). -/
def gadd (req : Req GaddArgs) (s : State) : State × Reply :=
  guarded s <| withFields req s fun a =>
    match inRange 16 a.slot, grantBody? a s.clock.meterDay with
    | some k, some b =>
      if (s.rules? k).isNone then (s, refuse .noSuch)
      else
        match b.expiry? with
        | none => s.addGrant k b
        | some e =>
          if !s.clock.isSet then (s, refuse .state)
          else if !e.admitted s.now then (s, refuse .badArgument)
          else s.addGrant k b
    | _, _ => (s, refuse .badArgument)

/-- GADD (R139). -/
def execGadd (req : Req GaddArgs) (s : State) : Host.Outcome State Fault Refusal :=
  .next (s.taken (.gadd req) (State.command (.gadd req) (gadd req)))

/-! ## grevoke -/

/-- Retires the grant of one entry (R143, R144): the commit, the exhaustion event that a budget decrease
takes (R102), and then the re-evaluation. -/
def State.revoke (s : State) (i k : Fin 16) : State :=
  let freed := { s with grants := s.grants.set i none }
  (((freed.commit grantBlock).afterDecrease s k).reeval (ofProfile k)).settled s false

/-- **grevoke** (R143). -/
def grevoke (req : Req Byte) (s : State) : State × Reply :=
  guarded s <| withFields req s fun b =>
    match inRange 16 b with
    | none => (s, refuse .badArgument)
    | some i =>
      match s.grants[i] with
      | none => (s, refuse .noSuch)
      | some g =>
        (s.revoke i g.slot,
          ok (be1 g.slot.val ++ be1 g.body.code ++ be1 (s.countEntries (ofProfile g.slot))))

/-- GREVOKE (R143). -/
def execGrevoke (req : Req Byte) (s : State) : Host.Outcome State Fault Refusal :=
  .next (s.taken (.grevoke req) (State.command (.grevoke req) (grevoke req)))

/-! ## gread -/

/-- The fields of R137 that are present for a kind, in the order of its table. -/
def GrantBody.payload : GrantBody → List Byte
  | .titlePermit c m e => wordBytes c ++ flagByte m ++ be2 e.day ++ be2 e.minute
  | .extraTime m d => be2 m ++ be2 d
  | .windowWaiver e => be2 e.day ++ be2 e.minute

/-- One entry in **gread** (R145). -/
def State.grantPayload (s : State) (i : Fin 16) : List Byte :=
  match s.grants[i] with
  | some g => be1 i.val ++ be1 g.slot.val ++ be1 g.body.code ++ g.body.payload
  | none => []

/-- The entries that a selector names: 0xFF stands for all (R145, 11.6). -/
def State.selected (s : State) (sel : Byte) : List (Fin 16) :=
  (List.finRange 16).filter fun i =>
    s.grants[i].any fun g => sel = 0xFF || g.slot.val = sel.toNat

/-- The clock state and now; now is 0 while the clock is UNSET (R145). -/
def State.nowPayload (s : State) : List Byte :=
  flagByte s.clock.isSet ++
    if s.clock.isSet then be2 s.now.day ++ be2 s.now.minute else be2 0 ++ be2 0

/-- **gread** (R145). -/
def gread (req : Req Byte) (s : State) : State × Reply :=
  withFields req s fun sel =>
    if sel ≠ 0xFF && 15 < sel.toNat then (s, refuse .badArgument)
    else
      let found := s.selected sel
      (s, ok (s.nowPayload ++ be2 s.clock.meterDay ++ be1 found.length ++ found.flatMap s.grantPayload))

/-- GREAD (R145). -/
def execGread (req : Req Byte) (s : State) : Host.Outcome State Fault Refusal :=
  .next (s.taken (.gread req) (State.command (.gread req) (gread req)))

/-! ## Expiry -/

/-- A title permit or a waiver whose expiry is at or before now (R146). -/
def expiredAt (now : Moment) (g : Grant) : Bool := g.body.expiry?.any (·.reached now)

/-- The grant table's comparison with a time that the day clock hands over (R146, R147): every grant reached is
retired, the block is queued once, and the profiles that lost a grant are re-evaluated. -/
def State.expireGrants (s : State) (now : Moment) : State :=
  let sel := expiredAt now
  if s.losesAny sel then
    ((s.retireGrants sel).commit grantBlock).reeval fun e => s.losesGrant sel e.slot
  else s

/-- Takes the expiry comparison with the (day index, minute) that the last minute boundary handed over, whatever a
**clkset** has made of the clock since (R146, R157). -/
def takeGrantExpiry (s : State) : State :=
  match s.due.expiry with
  | some now =>
    let s' := { s with due.expiry := none }
    (s'.expireGrants now).settled s false
  | none => s

/-- GRANT_EXPIRY (R146). -/
def execGrantExpiry (s : State) : Host.Outcome State Fault Refusal :=
  .next (s.taken .grantExpiry takeGrantExpiry)

/-! ## The rollover's part -/

/-- The EXTRA_TIME grants that a rollover to the meter day in force retires: those made before it. One made since
carries the new meter day, and stays (R148, R149). -/
def State.outlived (s : State) (g : Grant) : Bool := g.body.isPastExtra s.clock.meterDay

/-- The grant table's part of a day rollover (R149): every EXTRA_TIME of the meter day left is retired, with the
commit, the exhaustion events of budgets that fall (R102, R113), profiles in ascending slot order (assumption 22),
and the re-evaluation of the profiles that lost one. -/
def State.retireExtra (s : State) : State :=
  if s.losesAny s.outlived then
    let retired := (s.retireGrants s.outlived).commit grantBlock
    let lost := (List.finRange 16).filter (s.losesGrant s.outlived)
    (lost.foldl (fun t k => t.afterDecrease s k) retired).reeval fun e => s.losesGrant s.outlived e.slot
  else s

end Sys2Proof.Machine
end

