-- ==== Sys2Proof/Machine/MeterUnit.lean ====
section
/-! DEFINITION. The meter unit's own steps (chapter 5): the metering second, wind-down ends, the end of the
commit interval, and **mread**. -/

namespace Sys2Proof.Machine

/-! ## Rates and debits -/

/-- The effective rate of a metering entry of a record, in ten-thousandths (R96); 0 without a programme. -/
def effectiveRate (r : Rules) (seat : Seat) (e : Entry) : Nat :=
  match seat.programme with
  | none => 0
  | some p =>
    if e.state.pass? = some (.grant false) then 0
    else if seat.guardianPresent then r.rates[p.category] * (100 - r.relief)
    else r.rates[p.category] * 100

/-- The largest effective rate among the metering entries of the profile on one seat. -/
def seatRate (k : Fin 16) (r : Rules) (seat : Seat) : Nat :=
  ((seat.entries.filter fun e => e.slot = k && meteringOn seat e).map (effectiveRate r seat)).foldl max 0

/-- The largest effective rate among the profile's metering entries (R97), 0 when it has none. -/
def State.rateOf (s : State) (k : Fin 16) : Nat :=
  match s.rules? k with
  | some r => (s.seats.toList.map (seatRate k r)).foldl max 0
  | none => 0

/-- The debit of one second at rate P: U rises, saturating, and the fraction is carried (R89, R97). -/
def Meter.debited (m : Meter) (rate : Nat) : Meter :=
  { m with
    used := min (m.used + (rate + m.residue) / 100) counterMax
    residue := (rate + m.residue) % 100 }

/-! ## The metering second -/

/-- Stage 1 (R98): every metered profile is debited, from the entries and seat states as they stand. -/
def State.debitAll (s : State) : State :=
  let meters := Vector.ofFn fun k : Fin 16 =>
    if s.isMetered k then s.meters[k].debited (s.rateOf k) else s.meters[k]
  { s with meters := meters, meterDirty := s.meterDirty || decide (meters ≠ s.meters) }

/-- Stage 2 (R98, R106): a WINDING entry whose end is reached becomes DENIED(TIME). -/
def State.endWindDowns (s : State) : State :=
  s.writeEntries fun _ e =>
    match e.state with
    | .winding _ ends => if ends ≤ s.clock.counter then .denied .time else e.state
    | st => st

/-- The threshold state of one entry (R100): kept for an entry that goes to the exhaustion check. -/
def State.thresholdState (s : State) (r : Rules) (e : Entry) : EntryState :=
  let why := e.state.kept
  if s.timeConsulted e && s.remaining e.slot = 0 then e.state
  else if lowAt r (s.remaining e.slot) then .low why else .clear why

/-- The threshold writes of one metered profile (R100). -/
def State.writeThresholds (s : State) (k : Fin 16) (r : Rules) : State :=
  s.writeEntries fun seat e =>
    if e.slot = k && meteringOn seat e && e.state.isClearOrLow then s.thresholdState r e else e.state

/-- Stage 3 for one profile that still has metering entries (R98, R100, R103). -/
def State.checkProfile (s : State) (k : Fin 16) : State :=
  match s.rules? k with
  | some r => if s.isMetered k then (s.writeThresholds k r).exhaustionCheck k else s
  | none => s

/-- The meter unit's second event: the three stages in order, profiles in ascending slot order in stage 3,
and then the seats and the pool (R98, R111). -/
def State.meterSecond (s : State) : State :=
  let checked := (List.finRange 16).foldl State.checkProfile s.debitAll.endWindDowns
  State.settled { checked with due.metering := false } s false

/-- Takes the metering second that the last second event handed over; there is one for each second. -/
def takeMeteringSecond (s : State) : State := if s.due.metering then s.meterSecond else s

/-- METERING_SECOND (R98). -/
def execMeteringSecond (s : State) : Host.Outcome State Fault Refusal :=
  .next (s.taken .meteringSecond takeMeteringSecond)

/-- Wind-down ends are stage 2 of the meter unit's second event, after its debits (R98, R106): while that
event is still to be taken it is taken whole, and otherwise the ends reached are written. -/
def takeWindDownEnd (s : State) : State :=
  if s.due.metering then s.meterSecond else s.endWindDowns.settled s false

/-- WIND_DOWN_END (R106). -/
def execWindDownEnd (s : State) : Host.Outcome State Fault Refusal :=
  .next (s.taken .windDownEnd takeWindDownEnd)

/-! ## The commit interval -/

/-- The commit interval count returns to 0, and a dirty meter block is queued (R115). -/
def takeCommitIntervalEnd (s : State) : State :=
  if s.due.interval then
    let s' := { s with interval := 0, due.interval := false }
    if s.meterDirty then s'.commit meterBlock else s'
  else s

/-- COMMIT_INTERVAL_END (R115). -/
def execCommitIntervalEnd (s : State) : Host.Outcome State Fault Refusal :=
  .next (s.taken .commitIntervalEnd takeCommitIntervalEnd)

/-! ## mread -/

/-- The kind and the metered flag of a LIVE slot as optional fields (R118, 11.6); a GUARDIAN's flag is free
(assumption 14). -/
def profileFlags (p : Option Profile) : List Byte :=
  optField be1 (p.map (·.kind.code))
    ++ flagByte p.isSome
    ++ flagByte (p.any fun p => (p.rules?.map (·.metered)).getD Config.guardianMeteredFlag)

/-- The number of metering entries of the profile (R118). -/
def State.meteringEntries (s : State) (k : Fin 16) : Nat :=
  (s.seats.toList.map fun seat =>
    (seat.entries.filter fun e => e.slot = k && meteringOn seat e).length).sum

/-- The payload of **mread** (R118); the residue is one byte (assumption 10). -/
def State.meterPayload (s : State) (k : Fin 16) : List Byte :=
  let m := s.meters[k]
  be1 s.slots[k].code ++ profileFlags (s.profile? k)
    ++ be4 m.used ++ be1 m.residue ++ be4 (s.budget k) ++ be4 (s.remaining k) ++ be2 (s.allowance k)
    ++ be2 (s.extra k) ++ be2 m.drawn ++ be1 m.draws ++ flagByte m.windUsed
    ++ be1 (s.entriesOf k) ++ be1 (s.meteringEntries k)
    ++ be4 (if s.isMetered k then s.rateOf k else 0)

/-- **mread** (R118). -/
def mread (req : Req Byte) (s : State) : State × Reply :=
  withFields req s fun b =>
    match inRange 16 b with
    | none => (s, refuse .badArgument)
    | some k => (s, ok (s.meterPayload k))

/-- MREAD (R118). -/
def execMread (req : Req Byte) (s : State) : Host.Outcome State Fault Refusal :=
  .next (s.taken (.mread req) (State.command (.mread req) (mread req)))

end Sys2Proof.Machine
end

