-- ==== Sys2Proof/Machine/DayClock.lean ====
section
/-! DEFINITION. The day clock (chapter 8): the parts that other blocks take of a minute boundary, a day
rollover and a clock set, **clkset** and **clkread**. -/

namespace Sys2Proof.Machine

/-! ## Day rollover -/

/-- The meter unit's part of a rollover (R112): every record is cleared, the block is queued, and the profiles
whose remaining time rises are re-evaluated: every metered one with an allowance above 0, or above what it had
left. -/
def State.rollMeters (s : State) : State :=
  let cleared := State.commit
    { s with meters := Vector.replicate 16 Meter.cleared, meterDirty := true } meterBlock
  cleared.reeval fun e =>
    ((s.rules? e.slot).any (·.metered) && decide (0 < s.allowance e.slot))
      || decide (s.remaining e.slot < cleared.remaining e.slot)

/-- The pool arbiter's part of a rollover (R133): the queue is emptied, the record starts anew, and each
profile that had a request is handed the end of its wait. -/
def State.rollPool (s : State) : State :=
  let emptied := { s with
    requests := [], pool := ⟨s.settings.poolSize, s.settings.poolSize, 0, 0⟩, meterDirty := true }
  s.requests.foldl (fun t r => t.endOfWait r.slot) emptied

/-- The four parts of a rollover, in the order of the table of R159. -/
def rolloverParts : List RollPart := [.meters, .pool, .grants, .seats]

/-- Takes one part of a rollover. -/
def State.takeRoll (s : State) : RollPart → State
  | .meters => s.rollMeters
  | .pool => s.rollPool
  | .grants => s.retireExtra
  | .seats => s.reeval everyEntry

/-! ## Minute boundaries -/

/-- What a second has handed to the seat table, and a midnight to the blocks of R159, that is not taken yet. -/
inductive Handed where
  | boundary
  | roll (part : RollPart)
deriving DecidableEq, Repr

/-- Takes the minute boundary: the seat table re-evaluates every entry of every seat with a programme (R157,
R58). -/
def State.takeBoundary (s : State) : State :=
  let s' := { s with due.minute := false }
  (s'.reeval everyEntry).settled s false

/-- Takes a part of a midnight's rollover, an event of its block (R156, R159). -/
def State.takeHandedRoll (s : State) (p : RollPart) : State :=
  let s' := { s with due.rollover := s.due.rollover.filter (· ≠ p) }
  (s'.takeRoll p).settled s false

/-- Takes one piece of what was handed over. -/
def State.takeHanded (s : State) : Handed → State
  | .boundary => s.takeBoundary
  | .roll p => s.takeHandedRoll p

/-- The pieces that are not taken yet. -/
def State.handed (s : State) : List Handed :=
  (if s.due.minute then [Handed.boundary] else []) ++ s.due.rollover.map Handed.roll

/-- Takes at least one of the pieces not taken yet, and as many in whatever order as the free choice says (R113,
R157, R162; assumption 6); without a rollover there is the boundary alone. -/
def takeMinuteBoundary (s : State) : State :=
  match s.handed with
  | [] => s
  | [w] => s.takeHanded w
  | work =>
    let plan := State.shuffle work.length work s
    let count := plan.2.draw work.length
    (plan.1.take (count.1 + 1)).foldl State.takeHanded count.2

/-- Takes every piece not taken yet, in whatever order (assumptions 4 and 6). -/
def takeEveryHanded (s : State) : State :=
  match s.handed with
  | [] => s
  | [w] => s.takeHanded w
  | work =>
    let plan := State.shuffle work.length work s
    plan.1.foldl State.takeHanded plan.2

/-- MINUTE_BOUNDARY (R157), at which a midnight's parts that were not taken with the second are taken as well
(R162). -/
def execMinuteBoundary (s : State) : Host.Outcome State Fault Refusal :=
  .next (s.taken .minuteBoundary takeMinuteBoundary)

/-! ## The test of a rollover -/

/-- The rollover's own step (R159): the meter day and weekday are installed, the meter dirty flag is set and
ROLLOVER is added. -/
def State.installMeterDay (s : State) : State :=
  let s' := { s with
    clock := { s.clock with meterDay := s.clock.day, meterWeekday := s.clock.weekday }, meterDirty := true }
  s'.addNotice .rollover

/-- Whether the test of R159 finds a rollover. -/
def State.rollsOver (s : State) : Bool := s.clock.meterDay < s.clock.day

/-! ## clkset -/

/-- The time given is installed; the second counter is not touched (R161). -/
def Clock.install (c : Clock) (day second : Nat) (weekday : Fin 7) : Clock :=
  { c with isSet := true, day := day, second := second, weekday := weekday }

/-- The work of other blocks within a **clkset** (R161): the parts of a rollover, and the grant table's comparison
with the clock. -/
inductive ClockWork where
  | roll (part : RollPart)
  | compare
deriving DecidableEq, Repr

/-- Takes one piece of a **clkset**'s work. -/
def State.takeClockWork (s : State) : ClockWork → State
  | .roll p => s.takeRoll p
  | .compare => s.expireGrants s.now

/-- Whether a piece of work has anything to do: one that has not is passed over. -/
def State.active (s : State) : ClockWork → Bool
  | .roll .meters => true
  | .roll .pool => true
  | .roll .grants => s.losesAny s.outlived
  | .roll .seats => s.anyJudged
  | .compare => s.losesAny (expiredAt s.now)

/-- The work of a **clkset** (R161 step 3), with the rollover's parts when there is one. -/
def clockWork (rolls : Bool) : List ClockWork :=
  (if rolls then rolloverParts.map ClockWork.roll else []) ++ [.compare, .roll .seats]

/-- The pieces that have something to do, in the order in which they are taken (assumption 6). The meter unit's
and the pool arbiter's parts of a rollover do not disturb each other while no seat has a programme with an entry,
so that no choice is drawn between those two alone. -/
def State.ordered (s : State) (work : List ClockWork) : List ClockWork × State :=
  let todo := work.filter s.active
  if todo.length ≤ 1 || todo = [.roll .meters, .roll .pool] then (todo, s)
  else State.shuffle todo.length todo s

/-- What a **clkset** does once its time is installed (R161 steps 2 and 3). The parts come in any order, as R113 and
R161 let them, and no re-evaluation closes the command: where the seat table's part comes before the meter unit's,
an entry of a profile with allowance 0 on the new day may keep a verdict made on the old meters, although R161 has
every entry end under the new ones (assumption 6). -/
def State.handOver (s before : State) : State :=
  let rolls := s.rollsOver
  let tested := if rolls then s.installMeterDay else s
  let plan := tested.ordered (clockWork rolls)
  (plan.1.foldl State.takeClockWork plan.2).settled before rolls

/-- **clkset** (R160, R161). -/
def clkset (req : Req ClksetArgs) (s : State) : State × Reply :=
  withFields req s fun a =>
    match inRange 7 a.weekday with
    | none => (s, refuse .badArgument)
    | some w =>
      if 86399 < a.second.toNat then (s, refuse .badArgument)
      else
        let installed := { s with clock := s.clock.install a.day.toNat a.second.toNat w }
        let s' := installed.handOver s
        (s', ok (flagByte s.clock.isSet ++ be2 a.day.toNat ++ be4 a.second.toNat ++ be1 w.val
          ++ flagByte installed.rollsOver ++ be2 s'.clock.meterDay ++ be1 s'.clock.meterWeekday.val
          ++ be1 (s.liveGrants - s'.liveGrants)))

/-- CLKSET (R161). -/
def execClkset (req : Req ClksetArgs) (s : State) : Host.Outcome State Fault Refusal :=
  .next (s.taken (.clkset req) (State.command (.clkset req) (clkset req)))

/-! ## clkread -/

/-- The wall clock in **clkread**: all 0 while it is UNSET (R163). -/
def Clock.wallPayload (c : Clock) : List Byte :=
  if c.isSet then be2 c.day ++ be4 c.second ++ be2 c.minute ++ be1 c.weekday.val
  else be2 0 ++ be4 0 ++ be2 0 ++ be1 0

/-- **clkread** (R163). -/
def clkread (req : Req Unit) (s : State) : State × Reply :=
  withFields req s fun _ =>
    let c := s.clock
    (s, ok (flagByte c.isSet ++ c.wallPayload ++ be2 c.meterDay ++ be1 c.meterWeekday.val ++ be4 c.counter
      ++ flagByte (c.counter = counterMax)))

/-- CLKREAD (R163). -/
def execClkread (req : Req Unit) (s : State) : Host.Outcome State Fault Refusal :=
  .next (s.taken (.clkread req) (State.command (.clkread req) (clkread req)))

end Sys2Proof.Machine
end

