-- ==== Sys2Proof/Machine/GuardianUnit.lean ====
section
/-! DEFINITION. The guardian unit (chapter 9): the PIN commands, the guardian window, the lockout and the
household settings. -/

namespace Sys2Proof.Machine

/-! ## pin -/

/-- A sequence that is not wrong: it equals the PIN, or the PIN is UNSET (R167). -/
def Settings.admits (h : Settings) (digits : List Nat) : Bool := h.pin.all (· = digits)

/-- A right sequence (R167 step 4, R168): the window opens or restarts, and f becomes 0. -/
def State.admitPin (s : State) : State :=
  let s' := s.openWindow
  { s' with authority.failures := 0 }

/-- The OK response of **pin** (R167). -/
def State.pinPayload (s : State) : List Byte :=
  let left := s.authority.window.getD 0
  be2 left ++ be4 (s.endSecond left) ++ flagByte s.settings.pin.isNone

/-- The lockout that a failure count begins (R169): 60 × 2^k seconds from the third failure on. -/
def lockoutFor (f : Nat) : Option Nat := if f < 3 then none else some (60 * 2 ^ min (f - 3) 6)

/-- A counted failure (R169). -/
def State.failPin (s : State) : State :=
  let f := min (s.authority.failures + 1) 255
  { s with authority := { s.authority with failures := f, lockout := lockoutFor f } }

/-- **pin** (R167, R168, R169). -/
def pin (req : Req PinArgs) (s : State) : State × Reply :=
  withFields req s fun a =>
    if !pinWellFormed a then (s, refuse .badArgument)
    else
      match s.authority.lockout with
      | some left => (s, ⟨.lockedOut, be2 left⟩)
      | none =>
        if s.settings.admits (pinSequence a) then
          let s' := s.admitPin
          (s', ok s'.pinPayload)
        else if s.authority.window.isSome then
          (s, ⟨.wrongPin, be1 s.authority.failures ++ optField be2 none⟩)
        else
          let s' := s.failPin
          (s', ⟨.wrongPin, be1 s'.authority.failures ++ optField be2 s'.authority.lockout⟩)

/-- PIN (R167). -/
def execPin (req : Req PinArgs) (s : State) : Host.Outcome State Fault Refusal :=
  .next (s.taken (.pin req) (State.command (.pin req) (pin req)))

/-! ## repin -/

/-- The PIN changes, and the household block is queued (R175). -/
def State.setPin (s : State) (p : Option (List Nat)) : State :=
  State.commit { s with settings.pin := p } householdBlock

/-- **repin** (R175): a digit count of 0 is the value UNSET (11.6). -/
def repin (req : Req PinArgs) (s : State) : State × Reply :=
  guarded s <| withFields req s fun a =>
    if a.count = 0 then (s.setPin none, ok (flagByte true))
    else if pinWellFormed a then (s.setPin (some (pinSequence a)), ok (flagByte false))
    else (s, refuse .badArgument)

/-- REPIN (R175). -/
def execRepin (req : Req PinArgs) (s : State) : Host.Outcome State Fault Refusal :=
  .next (s.taken (.repin req) (State.command (.repin req) (repin req)))

/-! ## close -/

/-- **close** (R172). -/
def close (req : Req Unit) (s : State) : State × Reply :=
  withFields req s fun _ =>
    let wasOpen := s.authority.window.isSome
    (s.closeWindow, ok (flagByte wasOpen ++ flagByte (wasOpen && s.edit.isSome)))

/-- CLOSE (R172). -/
def execClose (req : Req Unit) (s : State) : Host.Outcome State Fault Refusal :=
  .next (s.taken (.close req) (State.command (.close req) (close req)))

/-! ## hset -/

/-- The checks of **hset** past the window check (R176). -/
def hsetRefused (a : HsetArgs) : Bool :=
  a.mask &&& 0xF0 ≠ 0
    || (a.mask.getLsbD 0 && (groupOrder? a.groups).isNone)
    || (a.mask.getLsbD 1 && (tierOrder? a.tiers).isNone)
    || (a.mask.getLsbD 2 && decide (600 < a.poolSize.toNat))

/-- A window length after clamping (R176). -/
def clampLength (n : Nat) : Nat := max 60 (min n 900)

/-- The settings with every present one written (R177). -/
def Settings.updated (h : Settings) (a : HsetArgs) : Settings :=
  { h with
    groupOrder := if a.mask.getLsbD 0 then (groupOrder? a.groups).getD h.groupOrder else h.groupOrder
    tierOrder := if a.mask.getLsbD 1 then (tierOrder? a.tiers).getD h.tierOrder else h.tierOrder
    poolSize := if a.mask.getLsbD 2 then a.poolSize.toNat else h.poolSize
    windowLength := if a.mask.getLsbD 3 then clampLength a.windowLength.toNat else h.windowLength }

/-- The four settings of **hset** and **hread**, at their widths (11.6). -/
def Settings.payload (h : Settings) : List Byte :=
  h.groupOrder.flatMap (fun g => be1 g.code) ++ h.tierOrder.flatMap be1 ++ be2 h.poolSize
    ++ be2 h.windowLength

/-- Writes the settings and acts on what changed (R177). -/
def State.putSettings (s : State) (h : Settings) : State :=
  let written := { s with settings := h }
  let judged :=
    if h.groupOrder = s.settings.groupOrder then written
    else (written.reeval everyEntry).settled s false
  if h = s.settings then judged else judged.commit householdBlock

/-- **hset** (R176, R177). -/
def hset (req : Req HsetArgs) (s : State) : State × Reply :=
  guarded s <| withFields req s fun a =>
    if hsetRefused a then (s, refuse .badArgument)
    else
      let old := s.settings
      let h := old.updated a
      let n := a.windowLength.toNat
      (s.putSettings h,
        ok (h.payload
          ++ flagByte (h.groupOrder ≠ old.groupOrder) ++ flagByte (h.tierOrder ≠ old.tierOrder)
          ++ flagByte (h.poolSize ≠ old.poolSize) ++ flagByte (h.windowLength ≠ old.windowLength)
          ++ flagByte (a.mask.getLsbD 3 && decide (clampLength n ≠ n))
          ++ be1 (if h.groupOrder = old.groupOrder then 0 else s.countEntries everyEntry)))

/-- HSET (R177). -/
def execHset (req : Req HsetArgs) (s : State) : Host.Outcome State Fault Refusal :=
  .next (s.taken (.hset req) (State.command (.hset req) (hset req)))

/-! ## hread -/

/-- A countdown in **hread**: whether it runs, its seconds left and its end second, 0 when it does not
(R178). -/
def State.countdownPayload (s : State) (left : Option Nat) : List Byte :=
  flagByte left.isSome ++ be2 (left.getD 0) ++ be4 ((left.map s.endSecond).getD 0)

/-- **hread** (R178). -/
def hread (req : Req Unit) (s : State) : State × Reply :=
  withFields req s fun _ =>
    (s, ok (flagByte s.settings.pin.isSome ++ s.settings.payload
      ++ s.countdownPayload s.authority.window ++ be1 s.authority.failures
      ++ s.countdownPayload s.authority.lockout ++ be4 s.clock.counter ++ flagByte s.edit.isSome))

/-- HREAD (R178). -/
def execHread (req : Req Unit) (s : State) : Host.Outcome State Fault Refusal :=
  .next (s.taken (.hread req) (State.command (.hread req) (hread req)))

/-! ## The ends of the countdowns -/

/-- The second event that brings the window's seconds left to 0 is its expiry (R171, R172); a window that was
restarted or closed at that second does not expire (R174). -/
def takeWindowExpiry (s : State) : State := if s.due.window then s.closeWindow else s

/-- WINDOW_EXPIRY (R171). -/
def execWindowExpiry (s : State) : Host.Outcome State Fault Refusal :=
  .next (s.taken .windowExpiry takeWindowExpiry)

/-- The second event that brings the lockout's seconds left to 0 ends it; f stays as it is (R169). -/
def takeLockoutEnd (s : State) : State :=
  if s.due.lockout then { s with authority.lockout := none, due.lockout := false } else s

/-- LOCKOUT_END (R169). -/
def execLockoutEnd (s : State) : Host.Outcome State Fault Refusal :=
  .next (s.taken .lockoutEnd takeLockoutEnd)

end Sys2Proof.Machine
end

