-- ==== Sys2Proof/Machine/Seconds.lean ====
section
/-! DEFINITION. The second event (8.1, 8.2): the counter and the wall clock advance, the countdowns fall, and
the second is handed to the blocks. -/

namespace Sys2Proof.Machine

/-- Takes the events of the second before that are still to be taken: each block has its event once for every
second (R156; assumption 4). -/
def State.flushDue (s : State) : State :=
  takeLockoutEnd <| takeWindowExpiry <| takePoolWaitTimeout <| takeCommitIntervalEnd <|
    takeMeteringSecond <| takeGrantExpiry <| takeEveryHanded s

/-- Whether the next second is a midnight at which the day index rises (R156). -/
def Clock.atMidnight (c : Clock) : Bool := c.isSet && c.second = 86399 && c.day < 65535

/-- The advance of the counter and, while it is SET, of the wall clock (R154, R156). -/
def Clock.tick (c : Clock) : Clock :=
  let counted := { c with counter := min (c.counter + 1) counterMax }
  if !c.isSet then counted
  else if c.second < 86399 then { counted with second := c.second + 1 }
  else if c.day < 65535 then { counted with second := 0, day := c.day + 1, weekday := c.weekday + 1 }
  else { counted with second := 0 }

/-- A countdown of the guardian unit after one more second; its last second is left to the block's own event
(R169, R171, R174). -/
def countdown (left : Option Nat) : Option Nat := left.map fun n => if n ≤ 1 then n else n - 1

/-- Whether a countdown has one second left, which the second just begun brings to 0. -/
def ending (left : Option Nat) : Bool := left.any (· ≤ 1)

/-- The second handed to the blocks: the countdowns and the commit interval count move, and each block's own
event of this second is due; a minute boundary hands the grant table its (day index, minute) (R115, R156, R157,
R169, R171). -/
def State.handSecond (s : State) : State :=
  let clock := s.clock.tick
  let boundary := clock.isSet && decide (clock.second % 60 = 0)
  { s with
    clock := clock
    authority := { s.authority with
      window := countdown s.authority.window, lockout := countdown s.authority.lockout }
    interval := if s.interval < 299 then s.interval + 1 else s.interval
    due := {
      minute := boundary, expiry := if boundary then some ⟨clock.day, clock.minute⟩ else none
      metering := true, interval := decide (299 ≤ s.interval), timeout := true
      window := ending s.authority.window, lockout := ending s.authority.lockout
      rollover := [] } }

/-- A midnight at which the parts of a rollover have one outcome in every order: nobody watches, no request waits
and no extra time of the day left is live. -/
def State.quiet (s : State) : Bool :=
  !s.anyJudged && s.requests.isEmpty && !s.losesAny s.outlived

/-- The rollover that a midnight brings (R156, R159). The parts are handed over, and as many of them as the free
choice says are taken within the second, in whatever order; what is left waits for MINUTE_BOUNDARY rows or the next
second, and other rows may come before it (R162; assumption 6). A quiet midnight takes them all. -/
def State.rollAtMidnight (s before : State) : State :=
  let rolled := s.installMeterDay
  if rolled.quiet then rolled.rollMeters.rollPool.settled before false
  else
    let handed := { rolled with due.rollover := rolloverParts }
    let plan := State.shuffle rolloverParts.length rolloverParts handed
    let count := plan.2.draw (rolloverParts.length + 1)
    (plan.1.take count.1).foldl State.takeHandedRoll count.2

/-- A second event (R154, R156). -/
def takeSecond (s : State) : State :=
  let flushed := s.flushDue
  let ticked := flushed.handSecond
  if flushed.clock.atMidnight && ticked.rollsOver then ticked.rollAtMidnight flushed else ticked

/-- SECOND_EVENT (R156). -/
def execSecondEvent (s : State) : Host.Outcome State Fault Refusal :=
  .next (s.taken .secondEvent takeSecond)

end Sys2Proof.Machine
end

