-- ==== Sys2Proof/Machine/SupplyMonitor.lean ====
section
/-! DEFINITION. The supply monitor (10.5): the supply warning, held dips and the full reset. -/

namespace Sys2Proof.Machine

/-! ## Warning and clear -/

/-- The supply falls below the warning level (R190): nothing while the supply-low flag is set; otherwise the
flag, SUPPLY_LOW and an urgent save. -/
def takeSupplyWarning (s : State) : State :=
  if s.supply.low then s
  else
    let s' := { s with supply.low := true }
    (s'.addNotice .supplyLow).urgentSave

/-- SUPPLY_WARNING (R190). -/
def execSupplyWarning (s : State) : Host.Outcome State Fault Refusal :=
  .next (s.taken .supplyWarning takeSupplyWarning)

/-- The supply rises above the clear level (R190). -/
def takeSupplyClear (s : State) : State := { s with supply.low := false }

/-- SUPPLY_CLEAR (R190). -/
def execSupplyClear (s : State) : Host.Outcome State Fault Refusal :=
  .next (s.taken .supplyClear takeSupplyClear)

/-! ## The full reset -/

/-- A full reset begins and is held (R189, R192): everything but the store's blocks is lost. -/
def State.beginReset (s : State) (straps : BitVec 2) : State :=
  State.underReset s.store straps s.pending s.freeCount

/-- Whether a cause begins a full reset: a RESETN low shorter than 10 microseconds is ignored, and a dip
shorter than 400 is held through (R191, R192, R208). -/
def causeBegins : ResetCause → Bool
  | .powerOn => true
  | .resetnLow us => 10 ≤ us
  | .dip us => 400 ≤ us

/-- The straps as bits LVS1 and LVS0 (R189). -/
def strapBits (lvs1 lvs0 : Bool) : BitVec 2 := BitVec.ofBool lvs1 ++ BitVec.ofBool lvs0

/-- A full reset with its cause and the straps read while it is held. -/
def takeFullReset (cause : ResetCause) (lvs1 lvs0 : Bool) (s : State) : State :=
  if causeBegins cause then s.beginReset (strapBits lvs1 lvs0) else s

/-- FULL_RESET (R192). -/
def execFullReset (cause : ResetCause) (lvs1 lvs0 : Bool) (s : State) : Host.Outcome State Fault Refusal :=
  .next (takeFullReset cause lvs1 lvs0 s)

/-! ## Dips -/

/-- The supply falls below the hold level (R191). While a full reset is held, and in a dip that has begun,
there is no further dip. -/
def takeDipBegin (s : State) : State := if s.supply.held then s else { s with supply.dip := true }

/-- DIP_BEGIN (R191). -/
def execDipBegin (s : State) : Host.Outcome State Fault Refusal :=
  .next (takeDipBegin s)

/-- The effect of an event or transaction that a dip deferred. The rows that a dip does not defer have none
here. -/
def takeEvent : Instr → State → State
  | .writeTransaction frame => takeWrite frame
  | .fetchTransaction clocked => takeFetch clocked
  | .badTransaction sel => takeBad sel
  | .sload req => State.command (.sload req) (sload req)
  | .sclr req => State.command (.sclr req) (sclr req)
  | .slock req => State.command (.slock req) (slock req)
  | .sread req => State.command (.sread req) (sread req)
  | .eopen req => State.command (.eopen req) (eopen req)
  | .eset req => State.command (.eset req) (eset req)
  | .ecommit req => State.command (.ecommit req) (ecommit req)
  | .edrop req => State.command (.edrop req) (edrop req)
  | .pread req => State.command (.pread req) (pread req)
  | .retire req => State.command (.retire req) (retire req)
  | .lookup req => State.command (.lookup req) (lookup req)
  | .join req => State.command (.join req) (join req)
  | .leave req => State.command (.leave req) (leave req)
  | .vacate req => State.command (.vacate req) (vacate req)
  | .play req => State.command (.play req) (play req)
  | .endp req => State.command (.endp req) (endp req)
  | .sstat req => State.command (.sstat req) (sstat req)
  | .preview req => State.command (.preview req) (preview req)
  | .mread req => State.command (.mread req) (mread req)
  | .topup req => State.command (.topup req) (topup req)
  | .pool req => State.command (.pool req) (poolRead req)
  | .gadd req => State.command (.gadd req) (gadd req)
  | .grevoke req => State.command (.grevoke req) (grevoke req)
  | .gread req => State.command (.gread req) (gread req)
  | .clkset req => State.command (.clkset req) (clkset req)
  | .clkread req => State.command (.clkread req) (clkread req)
  | .pin req => State.command (.pin req) (pin req)
  | .repin req => State.command (.repin req) (repin req)
  | .close req => State.command (.close req) (close req)
  | .hset req => State.command (.hset req) (hset req)
  | .hread req => State.command (.hread req) (hread req)
  | .store req => State.command (.store req) (store req)
  | .retry req => State.command (.retry req) (retry req)
  | .describe req => State.command (.describe req) (describe req)
  | .notices req => State.command (.notices req) (notices req)
  | .restart req => State.command (.restart req) (restart req)
  | .secondEvent => takeSecond
  | .minuteBoundary => takeMinuteBoundary
  | .grantExpiry => takeGrantExpiry
  | .meteringSecond => takeMeteringSecond
  | .windDownEnd => takeWindDownEnd
  | .commitIntervalEnd => takeCommitIntervalEnd
  | .poolWaitTimeout => takePoolWaitTimeout
  | .windowExpiry => takeWindowExpiry
  | .lockoutEnd => takeLockoutEnd
  | .blockWriteBegin => State.takeNextWrite
  | .eraseComplete interrupted => takeEraseComplete interrupted
  | .programComplete interrupted => takeProgramComplete interrupted
  | .verifyComplete interrupted matched => takeVerifyComplete interrupted matched
  | .supplyWarning => takeSupplyWarning
  | .supplyClear => takeSupplyClear
  | .dipBegin => id
  | .dipEnd _ => id
  | .fullReset _ _ _ => id
  | .startUpLoad _ _ => id
  | .storeBlockRead => takeStoreBlockRead

/-- The work of a dip's end: the deferred events, and the restart of a write. -/
inductive DipWork where
  | event (i : Instr)
  | restartWrite
deriving DecidableEq, Repr

/-- A running write is restarted from ERASE with a fresh image, keeping its attempt number, and a suspended
write has its resumption phase set back to ERASE (R191). -/
def State.restartWrite (s : State) : State :=
  let s' := s.setSuspended (s.store.suspended.map fun w => { w with fresh := true })
  match s.store.running with
  | some w => s'.beginErase w
  | none => s'

/-- Takes one piece of a dip's work; the pins follow each. -/
def State.takeWork (s : State) : DipWork → State
  | .event i => (takeEvent i s).drivePins
  | .restartWrite => s.restartWrite

/-- The work that waits for a dip to end. -/
def State.dipWork (s : State) : List DipWork :=
  s.deferred.map DipWork.event
    ++ if s.store.running.isSome || s.store.suspended.isSome then [.restartWrite] else []

/-- The work of a dip's end in the order in which it is taken, any order being allowed (R191; assumption
6). -/
def State.orderedWork (s : State) : List DipWork × State :=
  if s.dipWork.length ≤ 1 then (s.dipWork, s) else State.shuffle s.dipWork.length s.dipWork s

/-- A dip that was held through ends: its work is taken, and the pins follow (R191). -/
def State.endDip (s : State) : State :=
  let plan := s.orderedWork
  let live := { plan.2 with deferred := [], supply.dip := false }
  (plan.1.foldl State.takeWork live).drivePins

/-- A dip ends (R191); one of 400 microseconds or more is a full reset (R192), which keeps the straps read
last. -/
def takeDipEnd (micros : Nat) (s : State) : State :=
  if s.supply.held || !s.supply.dip then s
  else if 400 ≤ micros then s.beginReset s.supply.straps
  else s.endDip

/-- DIP_END (R191). -/
def execDipEnd (micros : Nat) (s : State) : Host.Outcome State Fault Refusal :=
  .next (takeDipEnd micros s)

end Sys2Proof.Machine
end

