-- ==== Sys2Proof/Machine/Dispatch.lean ====
section
/-! DEFINITION. The command and event dispatch: one arm for each row of the opcode table. -/

namespace Sys2Proof.Machine

def exec (i : Instr) (s : State) : Host.Outcome State Fault Refusal :=
  match i with
  | .writeTransaction frame => Sys2Proof.Machine.execWriteTransaction frame s
  | .fetchTransaction clocked => Sys2Proof.Machine.execFetchTransaction clocked s
  | .badTransaction selector => Sys2Proof.Machine.execBadTransaction selector s
  | .sload req => Sys2Proof.Machine.execSload req s
  | .sclr req => Sys2Proof.Machine.execSclr req s
  | .slock req => Sys2Proof.Machine.execSlock req s
  | .sread req => Sys2Proof.Machine.execSread req s
  | .eopen req => Sys2Proof.Machine.execEopen req s
  | .eset req => Sys2Proof.Machine.execEset req s
  | .ecommit req => Sys2Proof.Machine.execEcommit req s
  | .edrop req => Sys2Proof.Machine.execEdrop req s
  | .pread req => Sys2Proof.Machine.execPread req s
  | .retire req => Sys2Proof.Machine.execRetire req s
  | .lookup req => Sys2Proof.Machine.execLookup req s
  | .join req => Sys2Proof.Machine.execJoin req s
  | .leave req => Sys2Proof.Machine.execLeave req s
  | .vacate req => Sys2Proof.Machine.execVacate req s
  | .play req => Sys2Proof.Machine.execPlay req s
  | .endp req => Sys2Proof.Machine.execEndp req s
  | .sstat req => Sys2Proof.Machine.execSstat req s
  | .preview req => Sys2Proof.Machine.execPreview req s
  | .mread req => Sys2Proof.Machine.execMread req s
  | .topup req => Sys2Proof.Machine.execTopup req s
  | .pool req => Sys2Proof.Machine.execPool req s
  | .gadd req => Sys2Proof.Machine.execGadd req s
  | .grevoke req => Sys2Proof.Machine.execGrevoke req s
  | .gread req => Sys2Proof.Machine.execGread req s
  | .clkset req => Sys2Proof.Machine.execClkset req s
  | .clkread req => Sys2Proof.Machine.execClkread req s
  | .pin req => Sys2Proof.Machine.execPin req s
  | .repin req => Sys2Proof.Machine.execRepin req s
  | .close req => Sys2Proof.Machine.execClose req s
  | .hset req => Sys2Proof.Machine.execHset req s
  | .hread req => Sys2Proof.Machine.execHread req s
  | .store req => Sys2Proof.Machine.execStore req s
  | .retry req => Sys2Proof.Machine.execRetry req s
  | .describe req => Sys2Proof.Machine.execDescribe req s
  | .notices req => Sys2Proof.Machine.execNotices req s
  | .restart req => Sys2Proof.Machine.execRestart req s
  | .secondEvent => Sys2Proof.Machine.execSecondEvent s
  | .minuteBoundary => Sys2Proof.Machine.execMinuteBoundary s
  | .grantExpiry => Sys2Proof.Machine.execGrantExpiry s
  | .meteringSecond => Sys2Proof.Machine.execMeteringSecond s
  | .windDownEnd => Sys2Proof.Machine.execWindDownEnd s
  | .commitIntervalEnd => Sys2Proof.Machine.execCommitIntervalEnd s
  | .poolWaitTimeout => Sys2Proof.Machine.execPoolWaitTimeout s
  | .windowExpiry => Sys2Proof.Machine.execWindowExpiry s
  | .lockoutEnd => Sys2Proof.Machine.execLockoutEnd s
  | .blockWriteBegin => Sys2Proof.Machine.execBlockWriteBegin s
  | .eraseComplete interrupted => Sys2Proof.Machine.execEraseComplete interrupted s
  | .programComplete interrupted => Sys2Proof.Machine.execProgramComplete interrupted s
  | .verifyComplete interrupted matched => Sys2Proof.Machine.execVerifyComplete interrupted matched s
  | .supplyWarning => Sys2Proof.Machine.execSupplyWarning s
  | .supplyClear => Sys2Proof.Machine.execSupplyClear s
  | .dipBegin => Sys2Proof.Machine.execDipBegin s
  | .dipEnd micros => Sys2Proof.Machine.execDipEnd micros s
  | .fullReset cause lvs1 lvs0 => Sys2Proof.Machine.execFullReset cause lvs1 lvs0 s
  | .startUpLoad h v => Sys2Proof.Machine.execStartUpLoad s h v
  | .storeBlockRead => Sys2Proof.Machine.execStoreBlockRead s

end Sys2Proof.Machine
end

