-- ==== Sys2Proof/Safety.lean ====
section
/-! DEFINITION. What claims about the AJ-640 are said in: when the part takes an event, what a command's response
leaves, what shared work of the seat table and the meter unit may touch and write, what the start-up load gives
each owner, and the laws that every step keeps. -/

namespace Sys2Proof.Machine

/-! ## Vocabulary -/

/-- No full reset is held and no dip has begun: the part takes events (R189, R191). -/
def State.Awake (s : State) : Prop := s.supply.held = false ∧ s.supply.dip = false

/-- The link port has handed the command to its owner (R199). -/
def State.Handed (s : State) (i : Instr) : Prop := s.Awake ∧ s.link.state = .executing i

/-- The state after a command's response is held: ANSWERED, and the pins follow (R199, R202). -/
def State.replied (s : State) (i : Instr) (status : Status) (payload : List Byte) : State :=
  State.drivePins { s with link := { s.link with
    state := .answered, buffer := some ⟨status, codeOf i, payload⟩ } }

/-- The state holds this response, and the link is ANSWERED. -/
def State.Holds (s : State) (i : Instr) (status : Status) (payload : List Byte) : Prop :=
  s.link.state = .answered ∧ s.link.buffer = some ⟨status, codeOf i, payload⟩

/-- The two states differ at most in what seats, waits and draws touch: the seats, the request queue, the
notice set, the meters with their dirty flag, and the pool. -/
def SeatWork (s t : State) : Prop :=
  t = { s with seats := t.seats, requests := t.requests, notices := t.notices, meters := t.meters,
               meterDirty := t.meterDirty, pool := t.pool }

/-- As `SeatWork`, and the link's state and buffer and the pins may differ as well: a command whose owner did
such work. -/
def CommandWork (s t : State) : Prop :=
  t = { s with seats := t.seats, requests := t.requests, notices := t.notices, meters := t.meters,
               meterDirty := t.meterDirty, pool := t.pool, pins := t.pins,
               link := { s.link with state := t.link.state, buffer := t.link.buffer } }

/-- The profiles on a seat, in join order (R42). -/
def State.viewers (s : State) (j : Fin 6) : List (Fin 16) := s.seats[j].entries.map (·.slot)

/-- A block waits in the commit queue (R181). -/
def State.queued (s : State) (b : BlockId) : Bool := s.store.queue.any (·.block = b)

/-- The commit queue after commit requests for these blocks, in order: one that waits already keeps its place and
its mark, and another joins at the back (R181). -/
def State.queueWith (s : State) (blocks : List BlockId) : List QueueItem :=
  s.store.queue ++ (blocks.filter fun b => !s.queued b).map fun b => ⟨b, false⟩

/-- The guarded commands (R173). -/
def isGuarded : Instr → Bool
  | .eopen _ => true
  | .retire _ => true
  | .topup _ => true
  | .gadd _ => true
  | .grevoke _ => true
  | .repin _ => true
  | .hset _ => true
  | _ => false

/-- The payload of a command does not fit its fields (R197). -/
def isMisfit (i : Instr) : Bool := (commandCode i).isSome && (encodePayload i).isNone

/-! ## The link's bytes -/

/-- A CRC of this generator polynomial after one more byte, bit by bit from the most significant (R179, R197). -/
def serialCrc {w : Nat} (polynomial crc : BitVec w) (b : Byte) : BitVec w :=
  (List.range 8).foldl
    (fun c k => if (c.msb ^^ b.getMsbD k) then (c <<< 1) ^^^ polynomial else c <<< 1) crc

/-- The command codes with the bytes that their fields take; those of **sload** (0x10) are followed by its map
levels (R197, 11.6). -/
def requestWidths : List (Nat × Nat) :=
  [(0x10, 4), (0x11, 1), (0x12, 1), (0x13, 1), (0x20, 3), (0x21, 7), (0x22, 0), (0x23, 0), (0x24, 1), (0x25, 1),
    (0x26, 4), (0x30, 5), (0x31, 6), (0x32, 1), (0x33, 11), (0x34, 1), (0x35, 1), (0x40, 16), (0x41, 1),
    (0x50, 2), (0x51, 0), (0x60, 13), (0x61, 1), (0x62, 1), (0x70, 7), (0x71, 0), (0x80, 9), (0x81, 9),
    (0x82, 0), (0x83, 13), (0x84, 0), (0x90, 0), (0x91, 0), (0xF0, 0), (0xF1, 0), (0xF2, 0)]

/-! ## Metering entries -/

/-- The entry is in a judged permitted state with this reason (R43). -/
def EntryState.PermittedFor (e : EntryState) (why : Pass) : Prop :=
  e = .clear why ∨ e = .low why ∨ e = .waiting why ∨ ∃ ends, e = .winding why ends

/-- The entry is a metering entry of the profile on the seat (R95). -/
def State.Meters (s : State) (k : Fin 16) (j : Fin 6) (e : Entry) : Prop :=
  e ∈ s.seats[j].entries ∧ e.slot = k ∧ (∃ why, e.state.PermittedFor why)
    ∧ s.seats[j].state ∈ [SeatState.permitted, .warned, .poolWait, .windDown]

/-! ## The end of a profile's time -/

/-- The state `u` is `s` with the end of a profile's time written: its entries concerned go to wind-down where their
seat's programme ends in time, when the cap is above 0, the used flag is clear and at least one of them does, and
the flag is then set; otherwise they are DENIED(TIME). The other entries take `rest` (R59, R105). -/
def WindsDownOrDenies (s u : State) (k : Fin 16) (sel : Fin 6 → Entry → Bool)
    (rest : Fin 6 → Entry → Entry) : Prop :=
  let cap := ((s.rules? k).map (·.windCap)).getD 0
  let ends := fun j : Fin 6 => (s.seats[j].programme.bind (·.ends)).filter fun e => decide (s.clock.counter < e)
  let writes := fun f : Fin 6 → Entry → EntryState => ∀ j : Fin 6,
    u.seats[j].entries = s.seats[j].entries.map fun e => if sel j e then ⟨e.slot, f j e⟩ else rest j e
  let available := 0 < cap ∧ s.meters[k].windUsed = false
    ∧ ∃ j : Fin 6, (ends j).isSome = true ∧ ∃ e ∈ s.seats[j].entries, sel j e = true
  u.requests = s.requests ∧ u.pool = s.pool
  ∧ (available → u.meters = s.meters.set k { s.meters[k] with windUsed := true }
      ∧ writes fun j e => match ends j with
        | some x => .winding e.state.kept (min x (s.clock.counter + 60 * cap))
        | none => .denied .time)
  ∧ (¬ available → u.meters = s.meters ∧ writes fun _ _ => .denied .time)

/-- The state `u` is `s` with every entry of a profile on a seat with a programme re-evaluated (R57), the profile
having time left, so that no request is raised. -/
def JudgesAnew (s u : State) (k : Fin 16) : Prop :=
  u.requests = s.requests ∧ u.pool = s.pool ∧ u.meters = s.meters
  ∧ ∀ r, s.rules? k = some r → ∀ j : Fin 6, u.seats[j].entries = s.seats[j].entries.map fun e =>
      match s.seats[j].programme with
      | some p =>
        if e.slot = k then ⟨k, (s.evaluate k r p s.seats[j].guardianPresent e.state.windEnd?).state⟩ else e
      | none => e

/-! ## Re-evaluation -/

/-- One entry after a re-evaluation that reads the tables of `s` (R57): a GUARDIAN is EXEMPT, and a CHILD or GUEST
takes its verdict, which finds it in wind-down where `winding` is an end. -/
def State.verdictOn (s : State) (p : Programme) (guardian : Bool) (winding : Option Nat) (e : Entry) : Entry :=
  if s.kind? e.slot = some .guardian then ⟨e.slot, .exempt⟩
  else
    match s.rules? e.slot with
    | some r => ⟨e.slot, (s.evaluate e.slot r p guardian winding).state⟩
    | none => e

/-- An event that found the seats of `before` re-evaluates the selected entries of `x` and leaves `u`, where no
request waits and none is asked for: those on a seat with a programme take their verdicts under the tables of `x`,
every other entry and every programme stands, and SEAT_CHANGED is added for exactly the seats whose state differs
from the one that the event found (R46, R57, R58). With `keepWind` an entry in wind-down is judged as one
(R79). -/
def Rejudges (before x u : State) (keepWind : Bool) (sel : Fin 6 → Entry → Bool) : Prop :=
  let winding := fun e : Entry => if keepWind then e.state.windEnd? else none
  x.requests = [] →
  (∀ (j : Fin 6) (p : Programme), x.seats[j].programme = some p → ∀ e ∈ x.seats[j].entries, sel j e = true →
    ∀ r, x.rules? e.slot = some r →
      (x.evaluate e.slot r p x.seats[j].guardianPresent (winding e)).asks = false) →
  u.requests = [] ∧ u.meters = x.meters ∧ u.meterDirty = x.meterDirty ∧ u.pool = x.pool
  ∧ (∀ j : Fin 6, u.seats[j].programme = x.seats[j].programme
      ∧ u.seats[j].entries = x.seats[j].entries.map fun e =>
        match x.seats[j].programme with
        | some p => if sel j e then x.verdictOn p x.seats[j].guardianPresent (winding e) e else e
        | none => e)
  ∧ ∀ b : Nat, u.notices.getLsbD b =
      (x.notices.getLsbD b || decide (∃ j : Fin 6, j.val = b ∧ u.seats[j].state ≠ before.seats[j].state))

/-- An exhaustion event of a profile, or none where no metering entry in CLEAR or LOW had its time group consulted
(R103, R104): those entries wait on the request that is pending, or on one raised now while the pool is possible,
and otherwise their time ends. -/
def ExhaustionTaken (x u : State) (k : Fin 16) : Prop :=
  let target := fun (j : Fin 6) (e : Entry) =>
    decide (e.slot = k) && x.seats[j].state.debits && e.state.isClearOrLow && x.timeConsulted e
  let some? := ∃ j : Fin 6, ∃ e ∈ x.seats[j].entries, target j e = true
  let possible := ∃ r, x.rules? k = some r ∧ r.tier.isSome = true ∧ x.meters[k].draws < r.drawsPerDay
  let waits := u.meters = x.meters ∧ u.pool = x.pool ∧ ∀ j : Fin 6, u.seats[j].entries =
    x.seats[j].entries.map fun e => if target j e then ⟨e.slot, .waiting e.state.kept⟩ else e
  SeatWork x u
  ∧ (¬ some? → u = x)
  ∧ (some? → x.hasRequest k = true → u.requests = x.requests ∧ waits)
  ∧ (some? → x.hasRequest k = false → possible →
      u.requests = x.requests ++ [⟨k, x.tierOf k, x.clock.counter⟩] ∧ waits)
  ∧ (some? → x.hasRequest k = false → ¬ possible → WindsDownOrDenies x u k target fun _ e => e)

/-- What the meter unit does at once when the tables of `s` become those of `x` (R102): a metered profile whose
remaining time falls to 0 has its exhaustion event, and nothing happens to any other. -/
def TimeFell (s x u : State) (k : Fin 16) : Prop :=
  let falls := 0 < s.remaining k ∧ x.remaining k = 0 ∧ x.isMetered k = true
  (¬ falls → u = x) ∧ (falls → ExhaustionTaken x u k)

/-! ## The parts of a rollover -/

/-- What each part of a rollover does once it is taken, and leaves alone until then: `u` is a state after `s`, in
which the parts `handed` were outstanding (R112, R133, R149). -/
def PartsTaken (s u : State) (handed : List RollPart) : Prop :=
  let taken := fun p : RollPart => p ∈ handed ∧ p ∉ u.due.rollover
  let past := fun g : Grant => match g.body with
    | .extraTime _ day => decide (day ≠ u.clock.meterDay)
    | _ => false
  u.due.rollover.Sublist handed
  ∧ (taken .meters → u.queued meterBlock = true ∧ ∀ k : Fin 16, u.meters[k].used = 0 ∧ u.meters[k].residue = 0)
  ∧ (¬ taken .meters → ∀ k : Fin 16, u.meters[k].used = s.meters[k].used ∧ u.meters[k].residue = s.meters[k].residue)
  ∧ (taken .pool → u.pool.sizeInForce = s.settings.poolSize ∧ u.pool.toppedUp = 0
      ∧ u.pool.remaining + u.pool.drawn = s.settings.poolSize)
  ∧ (¬ taken .pool → u.pool.sizeInForce = s.pool.sizeInForce ∧ u.pool.toppedUp = s.pool.toppedUp
      ∧ u.pool.remaining + u.pool.drawn = s.pool.remaining + s.pool.drawn)
  ∧ (taken .grants → (∀ i : Fin 16, u.grants[i] = s.grants[i].filter fun g => !past g)
      ∧ ((∃ i : Fin 16, s.grants[i].any past = true) → u.queued grantBlock = true))
  ∧ (¬ taken .grants → u.grants = s.grants)

/-! ## The start-up load -/

/-- What the store controller hands the owner of a block: BLANK, a failed CRC-16, or the contents (R179). What a
program that was cut reads as is free (assumption 8). -/
def State.Reads (s : State) (b : BlockId) : ReadResult → Prop
  | .blank => s.store.blocks[b] = ⟨false, .erased⟩
  | .failed => s.store.blocks[b].contents = .broken
      ∨ (∃ i, s.store.blocks[b].contents = .image i ∧ i.crc ≠ crc16 (Config.storedBytes i.data))
      ∨ s.store.blocks[b] = ⟨true, .erased⟩ ∨ (∃ c, s.store.blocks[b] = ⟨true, .partly c⟩)
      ∨ ∃ c, s.store.blocks[b] = ⟨false, .partly c⟩ ∧ Config.partialRead c = none
  | .passed d => s.store.blocks[b].contents = .image ⟨d, crc16 (Config.storedBytes d)⟩
      ∨ ∃ c, s.store.blocks[b] = ⟨false, .partly c⟩ ∧ Config.partialRead c = some d

/-- The state `t`, with a block's status settled and, where `commits` says so, its commit requested (R180, R181). -/
def State.settledBlock (s : State) (b : BlockId) (v : BlockStatus) (t : State) (commits : Prop)
    [Decidable commits] : State :=
  { t with store := { s.store with
      status := s.store.status.set b v
      queue := if commits ∧ s.queued b = false then s.store.queue ++ [⟨b, false⟩] else s.store.queue } }

/-- The settings that the household block gives, with its status (R166). -/
def HouseholdGives (r : ReadResult) (h : Settings) (v : BlockStatus) : Prop :=
  (r = .blank ∧ h = Settings.factory ∧ v = .blank)
    ∨ (r = .passed (.household h.image) ∧ h.valid = true ∧ v = .ok)
    ∨ ((r = .failed ∨ ∃ d, r = .passed d ∧ ∀ x : Settings, x.valid = true → d ≠ .household x.image)
        ∧ h = Settings.factory ∧ v = .damaged)

/-- The operator slot that a scheme block gives, with its status (R1, R3). -/
def SchemeGives (r : ReadResult) (c : SchemeSlot) (v : BlockStatus) : Prop :=
  let empty := fun i : SchemeImage => i.state = 0 ∧ i.locked = false
  let loaded := fun i : SchemeImage => i.state = 1 ∧ i.n = i.levels.length ∧ 1 ≤ i.n ∧ i.n ≤ 32
    ∧ ∀ l ∈ i.levels, l ≤ 31
  (r = .blank ∧ c = SchemeSlot.empty ∧ v = .blank)
    ∨ (∃ i, r = .passed (.scheme i) ∧ empty i ∧ c = SchemeSlot.empty ∧ v = .ok)
    ∨ (∃ i, r = .passed (.scheme i) ∧ loaded i ∧ c = ⟨i.locked, some ⟨i.tag, i.levels⟩⟩ ∧ v = .ok)
    ∨ ((r = .failed ∨ ∃ d, r = .passed d ∧ ∀ i, d = .scheme i → ¬ empty i ∧ ¬ loaded i)
        ∧ c = SchemeSlot.empty ∧ v = .damaged)

/-- The slot that a profile block gives, with its status: slot 0 takes the guest factory defaults where it gives no
record (R17, R39). -/
def ProfileGives (k : Fin 16) (r : ReadResult) (slot : Slot) (v : BlockStatus) : Prop :=
  let holds := fun (i : ProfileImage) (p : Profile) => i.state = 1 ∧ i.codesOk = true ∧ p.proper = true
    ∧ (p.kind = .guest ↔ k = 0)
    ∧ ((i.kind = 0 ∧ p = .guest i.who i.rules) ∨ (i.kind = 1 ∧ p = .child i.who i.rules)
      ∨ (i.kind = 2 ∧ p = .guardian i.who))
  let lost := fun x : Slot => if k = 0 then Slot.live Profile.factoryGuest else x
  (r = .blank ∧ slot = lost .free ∧ v = .blank)
    ∨ (∃ i p, r = .passed (.profile i) ∧ holds i p ∧ slot = .live p ∧ v = .ok)
    ∨ (∃ i, r = .passed (.profile i) ∧ i.state = 0 ∧ k ≠ 0 ∧ slot = .free ∧ v = .ok)
    ∨ ((r = .failed ∨ ∃ d, r = .passed d ∧ ∀ i, d = .profile i → (i.state = 0 → k = 0) ∧ ∀ p, ¬ holds i p)
        ∧ slot = lost .damaged ∧ v = .damaged)

/-- The token law of R40: in ascending order, a LIVE slot that shares a token with a lower slot still LIVE becomes
DAMAGED, and every other slot stays. -/
def TokenLawTaken (s u : State) : Prop :=
  u = { s with slots := u.slots, store := { s.store with status := u.store.status } }
  ∧ (∀ b : BlockId, 15 < b.val → u.store.status[b] = s.store.status[b])
  ∧ ∀ k : Fin 16,
      let shares := k ≠ 0 ∧ ∃ p, s.slots[k] = .live p ∧ ∃ j < k, ∃ q, u.slots[j] = .live q
        ∧ ∃ t, (p.who.primary = some t ∨ p.who.secondary = some t) ∧ q.holdsToken t = true
      (shares → u.slots[k] = .damaged ∧ u.store.status[profileBlock k] = .damaged)
      ∧ (¬ shares → u.slots[k] = s.slots[k]
          ∧ u.store.status[profileBlock k] = s.store.status[profileBlock k])

/-- The contents that the meter block gives, `none` where it gives none, with its status (R116, R122). -/
def MeterGives (r : ReadResult) (i : Option MeterImage) (v : BlockStatus) : Prop :=
  let valid := fun x : MeterImage => (∀ k : Fin 16, x.records[k].valid = true) ∧ x.flagsOk = true
    ∧ x.meterDay ≤ 65535 ∧ x.meterWeekday ≤ 6 ∧ x.pool.valid = true
  (r = .blank ∧ i = none ∧ v = .blank)
    ∨ (∃ x, r = .passed (.meter x) ∧ valid x ∧ i = some x ∧ v = .ok)
    ∨ ((r = .failed ∨ ∃ d, r = .passed d ∧ ∀ x, d = .meter x → ¬ valid x) ∧ i = none ∧ v = .damaged)

/-- The grant table that the grant block gives, with its status (R152). -/
def GrantGives (r : ReadResult) (table : Vector (Option Grant) 16) (v : BlockStatus) : Prop :=
  let image := fun x : Vector (Option Grant) 16 => BlockData.grants (x.map fun g => g.map Grant.image)
  let valid := fun x : Vector (Option Grant) 16 => (∀ e : Fin 16, ∀ g ∈ x[e], g.body.valid = true)
    ∧ ∀ d e : Fin 16, d ≠ e → ∀ g ∈ x[d], ∀ h ∈ x[e], g.clashes h = false
  (r = .blank ∧ table = Vector.replicate 16 none ∧ v = .blank)
    ∨ (r = .passed (image table) ∧ valid table ∧ v = .ok)
    ∨ ((r = .failed ∨ ∃ d, r = .passed d ∧ ∀ x, valid x → d ≠ image x)
        ∧ table = Vector.replicate 16 none ∧ v = .damaged)

/-! ## Laws that every step keeps -/

/-- The output pins show the seats and the response buffer (R47, R202). -/
def State.PinsFollow (s : State) : Prop := s.pins = s.pinsOf

/-- The pool law of R120 with the ranges of R119, and the range of the pool day size (R166). -/
def State.PoolLaw (s : State) : Prop := s.pool.valid = true ∧ s.settings.poolSize ≤ 600

/-- Every seat's state is the one that R46 gives its entries and programme, and it holds at most three
entries of different profiles (R42). -/
def State.SeatLaw (s : State) : Prop :=
  ∀ j : Fin 6, s.seats[j].state = seatStateOf s.seats[j].entries s.seats[j].programme
    ∧ s.seats[j].entries.length ≤ 3 ∧ (s.viewers j).Nodup

/-- The commit queue holds each block, and the request queue each profile, at most once (R125, R181). -/
def State.QueueLaw (s : State) : Prop :=
  (s.store.queue.map (·.block)).Nodup ∧ (s.requests.map (·.slot)).Nodup

/-- The guardian unit: settings in their ranges (R166), the edit buffer only under an OPEN window (R172), no
lockout while it is OPEN (R168), none of them while a full reset is held, and the ranges of the counts
(R167, R169, R171). -/
def State.GuardianLaw (s : State) : Prop :=
  s.settings.valid = true
    ∧ (s.edit.isSome = true → s.authority.window.isSome = true)
    ∧ (s.authority.window.isSome = true → s.authority.lockout = none)
    ∧ (s.supply.held = true → s.authority.window = none)
    ∧ s.authority.failures ≤ 255
    ∧ (∀ n ∈ s.authority.window, 1 ≤ n ∧ n ≤ 900)
    ∧ (∀ n ∈ s.authority.lockout, 1 ≤ n ∧ n ≤ 3840)

/-- The link port: a response is held in ANSWERED, and none in READY or EXECUTING (R198, R202); while the
link is LOADING no block is being written (R182). -/
def State.LinkLaw (s : State) : Prop :=
  (match s.link.state with
    | .loading => True
    | .ready => s.link.buffer = none
    | .executing _ => s.link.buffer = none
    | .answered => s.link.buffer.isSome = true)
    ∧ (s.link.state = .loading → s.store.running = none ∧ s.store.suspended = none)

/-- The day clock's ranges, with the fields at 0 while it is UNSET (R154, R155, R158), and the zero bits of the
notice set (11.6). -/
def State.ClockLaw (s : State) : Prop :=
  s.clock.counter ≤ counterMax ∧ s.clock.day ≤ 65535 ∧ s.clock.second ≤ 86399 ∧ s.clock.meterDay ≤ 65535
    ∧ (s.clock.isSet = false → s.clock.day = 0 ∧ s.clock.second = 0 ∧ s.clock.weekday = 0)
    ∧ s.interval ≤ 299 ∧ s.notices.toNat < 16384

/-- No two live grants share profile, kind and content id (R138), and every grant is in the ranges of
R137. -/
def State.GrantLaw (s : State) : Prop :=
  (∀ i j : Fin 16, i ≠ j → ∀ g ∈ s.grants[i], ∀ h ∈ s.grants[j], g.clashes h = false)
    ∧ (∀ i : Fin 16, ∀ g ∈ s.grants[i], g.body.valid = true)

/-- Every live EXTRA_TIME was made on the meter day in force, or the part of the rollover that retires it is still
to be taken (R148, R149, R152); until the load has ended the link is LOADING and no grant is live (R193). -/
def State.ExtraLaw (s : State) : Prop :=
  (∀ (e : Fin 16) (k : Fin 16) (m d : Nat), s.grants[e] = some ⟨k, .extraTime m d⟩ →
      d = s.clock.meterDay ∨ .grants ∈ s.due.rollover)
    ∧ (s.supply.held = true ∨ s.load.isSome = true →
        s.link.state = .loading ∧ s.grants = Vector.replicate 16 none)

/-- Slots 0 and 1 hold the factory schemes (R2). -/
def State.FactorySchemes (s : State) : Prop :=
  s.schemes[0] = directScheme ∧ s.schemes[1] = bandScheme

/-- A law is kept by every step. -/
def KeptByEveryStep (law : State → Prop) : Prop :=
  ∀ s t : State, law s → step s = .next t → law t

end Sys2Proof.Machine
end

