-- ==== Sys2Proof/Certificates/Slice0/Obligations.lean ====
section
/-! DEFINITION. The statements about the AJ-640. Each docstring names the rules it says. -/

open Sys2Proof Sys2Proof.Machine

/-! ## Taking commands and events -/

/-- A step takes the command at the front of the queue with the queue's rest, and no row touches the queue. The
queue is the model's own (assumption 3). -/
def Obligations.StepTakesTheFrontCommand : Prop :=
  (∀ (c : Instr) (rest : List Instr) (s : State),
    step { s with pending := c :: rest } = exec c { s with pending := rest })
  ∧ ∀ (c : Instr) (s t : State), exec c s = .next t → t.pending = s.pending

/-- While a full reset is held nothing is taken but a further reset and its end (R154, R189, R207); within a dip
every event waits for its end, except the completion of the phase that the dip interrupted, which is discarded
(R191). Which events a dip keeps, and that a reset loses them, is the model's reading (assumption 18). -/
def Obligations.HeldResetsAndDipsDelayEvents : Prop :=
  ∀ (i : Instr) (s : State), (∀ c a b, i ≠ .fullReset c a b) → (∀ h v, i ≠ .startUpLoad h v) →
    (s.supply.held = true → exec i s = .next s)
    ∧ (s.supply.held = false → s.supply.dip = true → i ≠ .dipBegin → (∀ us, i ≠ .dipEnd us) →
        exec i s = .next (if keptInDip i then { s with deferred := s.deferred ++ [i] } else s))

/-! ## The policy link -/

/-- The frame of every well-formed command passes the check of R197 and names that command again, with every field
at every value (11.6). A WRITE's frame is BAD_FRAME, with its first byte or 0x00, exactly where it has fewer than
two bytes, a length byte above 56, another count of bytes than the length plus 3, or another CRC-8;
UNKNOWN_COMMAND where it has none of these faults and a code that is not in 11.6; and otherwise the command of
that code, whose fields are the payload where it fits them and a misfit where it does not. The CRC-8 has the
polynomial x^8 + x^2 + x + 1, the initial value 0, and takes bytes most significant bit first (R197). MOSI carries
bytes most significant bit first; left-over bits are discarded, and the first complete byte says which transaction
it is: 0xA5 a WRITE of the rest, 0x5A a FETCH (R196). -/
def Obligations.CommandFramesDecode : Prop :=
  (∀ (i : Instr) (f : List Byte), i.wellFormed = true → encodeFrame i = some f → checkFrame f = .command i)
  ∧ (∀ (bytes : List Byte) (left : List Bool), left.length < 8 →
      let row := transactionOf (mosiBits bytes ++ left)
      (bytes = [] → row = .badTransaction none)
      ∧ (∀ rest, bytes = 0xA5 :: rest → row = .writeTransaction rest)
      ∧ (∀ rest, bytes = 0x5A :: rest → row = .fetchTransaction rest.length)
      ∧ ∀ sel rest, bytes = sel :: rest → sel ≠ 0xA5 → sel ≠ 0x5A → row = .badTransaction (some sel))
  ∧ (∀ f : List Byte,
      let code := f.headD 0
      let length := (f[1]?.getD 0).toNat
      let payload := (f.drop 2).take length
      let sound := 2 ≤ f.length ∧ length ≤ 56 ∧ f.length = length + 3 ∧ f.getLast? = some (crc8 f.dropLast)
      (¬ sound → checkFrame f = .badFrame code)
      ∧ (sound → (∀ width, (code.toNat, width) ∉ requestWidths) → checkFrame f = .unknown code)
      ∧ ∀ width, sound → (code.toNat, width) ∈ requestWidths →
          ∃ i, checkFrame f = .command i ∧ commandCode i = some code
            ∧ encodePayload i = (if length = width ∨ (code = 0x10 ∧ width ≤ length) then some payload else none))
  ∧ crc8 [] = 0
  ∧ ∀ (bytes : List Byte) (b : Byte), crc8 (bytes ++ [b]) = serialCrc 0x07 (crc8 bytes) b

/-- What a WRITE meets in each link state (R198, R201): dropped with COLLISION in EXECUTING; dispatched in READY
and ANSWERED, answered STARTING in LOADING; a bad or unknown frame refused; RESPONSE_LOST where a held response
is discarded. The driven bytes are the model's record (assumption 17). -/
def Obligations.WritesMeetTheLinkState : Prop :=
  ∀ (f : List Byte) (s : State), s.Awake →
    let lost : LinkFlags := { s.link.flags with
      responseLost := s.link.flags.responseLost || s.link.buffer.isSome }
    let out := fun (l : Link) => exec (.writeTransaction f) s = .next (State.drivePins { s with link := l })
    (∀ c, s.link.state = .executing c →
      out { s.link with miso := [], flags := { s.link.flags with collision := true } })
    ∧ (∀ i, checkFrame f = .command i →
        (s.link.state = .ready → out { s.link with miso := [], state := .executing i })
        ∧ (s.link.state = .answered → out ⟨.executing i, none, lost, []⟩)
        ∧ (s.link.state = .loading → out ⟨.loading, some ⟨.starting, codeOf i, []⟩, lost, []⟩))
    ∧ (∀ status code, (checkFrame f = .badFrame code ∧ status = Status.badFrame)
          ∨ (checkFrame f = .unknown code ∧ status = Status.unknownCommand) →
        (s.link.state = .ready → out ⟨.answered, some ⟨status, code, []⟩, s.link.flags, []⟩)
        ∧ (s.link.state = .answered → out ⟨.answered, some ⟨status, code, []⟩, lost, []⟩)
        ∧ (s.link.state = .loading → out ⟨.loading, some ⟨status, code, []⟩, lost, []⟩))

/-- A FETCH clocks out the held response, or NOTHING, with the flags; a complete delivery clears the flags,
empties the buffer and makes ANSWERED READY, and a cut one leaves all as it was (R196, R200, R201). The frame is
the status code, the echoed code, the flags byte, two length bytes, the payload, and the CRC-8 over all of these
(11.6). Another selector sets BAD_TRANSACTION, and a transaction with no complete byte sets nothing (R196). That a
FETCH is one row and reports the flags as they stand at it, and the record of the driven bytes, are the model's
choice (assumption 17). -/
def Obligations.FetchesDeliverTheFrame : Prop :=
  (∀ (n : Nat) (s : State), s.Awake →
    (∀ i, s.link.state = .executing i → s.fetched = ⟨.nothing, codeOf i, []⟩)
    ∧ ((∀ i, s.link.state ≠ .executing i) → s.fetched = s.link.buffer.getD ⟨.nothing, 0, []⟩)
    ∧ (let frame := responseFrame s.fetched s.link.flags
       let r := s.fetched
       let size := r.payload.length
       let flag := fun (set : Bool) (n : Nat) => if set then n else 0
       let body : List Byte := [r.status.code, r.code,
           BitVec.ofNat 8 (flag s.link.flags.responseLost 1 + flag s.link.flags.collision 2
             + flag s.link.flags.badTransaction 4),
           BitVec.ofNat 8 (size / 256), BitVec.ofNat 8 size] ++ r.payload
       frame = body ++ [crc8 body] ∧ frame.length = 6 + size
       ∧ (frame.length ≤ n → exec (.fetchTransaction n) s = .next (State.drivePins { s with link :=
            { state := if s.link.state = .answered then .ready else s.link.state
              buffer :=
                if s.link.state = .answered ∨ s.link.state = .loading then none else s.link.buffer
              flags := .clear
              miso := frame ++ List.replicate (n - frame.length) 0 } }))
       ∧ (n < frame.length → exec (.fetchTransaction n) s =
            .next (State.drivePins { s with link := { s.link with miso := frame.take n } }))))
  ∧ (∀ (sel : Byte) (s : State), s.Awake → sel ≠ 0xA5 → sel ≠ 0x5A →
      exec (.badTransaction (some sel)) s = .next (State.drivePins { s with link :=
        { s.link with miso := [], flags := { s.link.flags with badTransaction := true } } }))
  ∧ (∀ s : State, s.Awake → exec (.badTransaction none) s = .next s.drivePins)
  ∧ [Status.ok, .nothing, .starting, .badFrame, .unknownCommand, .badArgument, .notPermitted, .lockedOut, .wrongPin,
      .full, .conflict, .noSuch, .state, .locked, .invalidRecord].map Status.code
    = [0x00, 0x01, 0x02, 0x10, 0x11, 0x12, 0x20, 0x21, 0x22, 0x30, 0x31, 0x32, 0x33, 0x34, 0x35]

/-- While the link is LOADING every command is answered STARTING with its code, a held response is lost, and no
owner sees the command (R193, R198). The driven bytes are the model's record (assumption 17). -/
def Obligations.CommandsInTheLoadAnswerStarting : Prop :=
  ∀ (i : Instr) (code : Byte) (s : State), s.Awake → s.link.state = .loading → commandCode i = some code →
    exec i s = .next (State.drivePins { s with link := { s.link with
      buffer := some ⟨.starting, code, []⟩
      miso := []
      flags := { s.link.flags with
        responseLost := s.link.flags.responseLost || s.link.buffer.isSome } } })

/-- A guarded command taken while the window is CLOSED is refused NOT_PERMITTED, whatever its payload, and
changes nothing (R173). -/
def Obligations.GuardedCommandsNeedTheWindow : Prop :=
  ∀ (i : Instr) (s : State), isGuarded i = true → s.Handed i → s.authority.window = none →
    exec i s = .next (s.replied i .notPermitted [])

/-- A payload that does not fit the command's fields is refused BAD_ARGUMENT as the first argument check (R197):
behind the window check of a guarded command (R173), and, as the model reads R27 and R29, behind the buffer
check of **eset** and **ecommit** (assumption 11). -/
def Obligations.MisfitPayloadsAreRefused : Prop :=
  ∀ (i : Instr) (s : State), isMisfit i = true → s.Handed i →
    (isGuarded i = true → s.authority.window.isSome = true) →
    (i = .eset .misfit ∨ i = .ecommit .misfit → s.edit.isSome = true) →
    exec i s = .next (s.replied i .badArgument [])

/-- R205: **describe** answers OK with the capability record and changes nothing, and STARTING while the link is
LOADING. -/
def Obligations.DescribeAnswersTheRecord : Prop :=
  ∀ s : State,
    (s.Handed (.describe (.fields ())) → exec (.describe (.fields ())) s =
      .next (s.replied (.describe (.fields ())) .ok [16, 6, 3, 8, 16, 4, 8, 8, 31, 25, 1]))
    ∧ (s.Awake → s.link.state = .loading → ∃ t, exec (.describe (.fields ())) s = .next t
        ∧ t.link.buffer = some ⟨.starting, 0xF0, []⟩ ∧ t.link.state = .loading)

/-- R204: **notices** answers OK with the set in the layout of 11.6 and empties it within the same command; the
held response keeps ATTN low; while the link is LOADING it is answered STARTING and the set keeps its
members. -/
def Obligations.NoticesAnswersAndEmpties : Prop :=
  ∀ s : State,
    (s.Handed (.notices (.fields ())) → ∃ t, exec (.notices (.fields ())) s = .next t
      ∧ t = State.replied { s with notices := 0 } (.notices (.fields ())) .ok (be2 s.notices.toNat)
      ∧ t.pins.attn = true)
    ∧ (s.Awake → s.link.state = .loading → ∃ t, exec (.notices (.fields ())) s = .next t
        ∧ t.link.buffer = some ⟨.starting, 0xF1, []⟩ ∧ t.notices = s.notices)

/-- **restart** clears the link flags, empties the notice set, discards the edit buffer, vacates the seats, empties
the request queue and closes the window, whose GUARDIAN_CLOSED stays in the set; every other block keeps its
state (R62, R134, R172, R206). -/
def Obligations.RestartEmptiesTheBlocks : Prop :=
  ∀ s : State, s.Handed (.restart (.fields ())) →
    let wasOpen := s.authority.window.isSome
    let left : State := { s with
      link := { s.link with flags := .clear }
      notices := if wasOpen then 0x2000 else 0
      edit := none
      seats := Vector.replicate 6 Seat.vacant
      requests := []
      authority := { s.authority with window := none }
      due := if wasOpen then { s.due with window := false } else s.due }
    exec (.restart (.fields ())) s = .next (left.replied (.restart (.fields ())) .ok
      (flagByte wasOpen ++ flagByte s.edit.isSome
        ++ be1 (s.seats.toList.filter fun x => !x.entries.isEmpty || x.programme.isSome).length
        ++ be1 s.requests.length))

/-! ## Schemes -/

/-- **sload** replaces a slot whole and **sclr** empties it: seats whose programme names the slot take the new
maturity and keep their viewers, their entries take their verdicts under the new maturity, the block joins the
commit queue, and nothing else of the part changes (R7, R8, R11, R12, R181). Re-evaluated entries are stated for
an event at which no request waits and none is asked for (R80). On an EMPTY slot **sclr** changes nothing (R8).
Past the checks of the slot and the lock, **sload** is refused BAD_ARGUMENT for an n outside 1..32, another number
of levels than n, or a level above 31 (R6). -/
def Obligations.SchemeSlotsChange : Prop :=
  (∀ (s : State) (i : Instr) (k : Fin 8) (c : SchemeSlot), s.Handed i → 2 ≤ k.val →
    s.schemes[k].locked = false →
    ((∃ a : SloadArgs, i = .sload (.fields a) ∧ a.slot.toNat = k.val ∧ a.n.toNat = a.levels.length
        ∧ 1 ≤ a.levels.length ∧ a.levels.length ≤ 32 ∧ (∀ l ∈ a.levels, l.toNat ≤ 31)
        ∧ c = ⟨false, some ⟨a.tag, a.levels.map (·.toNat)⟩⟩)
      ∨ (∃ b : Byte, i = .sclr (.fields b) ∧ b.toNat = k.val ∧ s.schemes[k].scheme.isSome = true
        ∧ c = SchemeSlot.empty)) →
    ∃ t, exec i s = .next t
      ∧ t.Holds i .ok (be1 k.val ++ be1 (s.seats.toList.filter fun x =>
          x.programme.any fun p => p.scheme.toNat = k.val).length)
      ∧ t.schemes = s.schemes.set k c
      ∧ t.store.queue = s.queueWith [schemeBlock k]
      ∧ (∀ j, t.viewers j = s.viewers j)
      ∧ (∀ j : Fin 6, t.seats[j].programme = s.seats[j].programme.map fun p =>
          if p.scheme.toNat = k.val then
            { p with maturity := State.translate { s with schemes := s.schemes.set k c } p.scheme p.rating }
          else p)
      ∧ CommandWork { s with
          schemes := t.schemes, store := { s.store with queue := t.store.queue } } t
      ∧ (let names := fun j : Fin 6 => s.seats[j].programme.any fun p => decide (p.scheme.toNat = k.val)
         Rejudges s { s with
            schemes := s.schemes.set k c
            seats := Vector.ofFn fun j => if names j then { s.seats[j] with
              programme := t.seats[j].programme
              guardianPresent := (s.viewers j).any fun x => s.kind? x = some .guardian } else s.seats[j] } t
          true fun j _ => names j))
  ∧ (∀ (s : State) (b : Byte) (k : Fin 8), s.Handed (.sclr (.fields b)) → 2 ≤ k.val → b.toNat = k.val →
      s.schemes[k] = SchemeSlot.empty →
      exec (.sclr (.fields b)) s = .next (s.replied (.sclr (.fields b)) .ok (be1 k.val ++ be1 0)))
  ∧ ∀ (s : State) (a : SloadArgs) (k : Fin 8), s.Handed (.sload (.fields a)) → 2 ≤ k.val → a.slot.toNat = k.val →
      s.schemes[k].locked = false →
      a.n.toNat < 1 ∨ 32 < a.n.toNat ∨ a.levels.length ≠ a.n.toNat ∨ (∃ l ∈ a.levels, 31 < l.toNat) →
      exec (.sload (.fields a)) s = .next (s.replied (.sload (.fields a)) .badArgument [])

/-- **slock** locks a LOADED slot and queues its block, leaves a locked one, and refuses an EMPTY one; a slot
outside 2..7 is refused BAD_ARGUMENT, and a locked slot refuses **sload** and **sclr** with LOCKED whatever else
they carry (R2, R6, R8, R9). -/
def Obligations.LockedSlotsStand : Prop :=
  (∀ (s : State) (b : Byte) (k : Fin 8), s.Handed (.slock (.fields b)) → 2 ≤ k.val → b.toNat = k.val →
    let i : Instr := .slock (.fields b)
    (s.schemes[k].scheme.isSome = true → s.schemes[k].locked = false → exec i s = .next (State.replied
      (State.commit { s with schemes := s.schemes.set k { s.schemes[k] with locked := true } }
        (schemeBlock k)) i .ok []))
    ∧ (s.schemes[k].scheme.isSome = true → s.schemes[k].locked = true → exec i s = .next (s.replied i .ok []))
    ∧ (s.schemes[k].scheme = none → exec i s = .next (s.replied i .state [])))
  ∧ (∀ (s : State) (b : Byte) (a : SloadArgs) (i : Instr), (i = .sclr (.fields b) ∨ i = .slock (.fields b)
        ∨ (i = .sload (.fields a) ∧ a.slot = b)) → s.Handed i → b.toNat < 2 ∨ 7 < b.toNat →
      exec i s = .next (s.replied i .badArgument []))
  ∧ (∀ (s : State) (b : Byte) (a : SloadArgs) (i : Instr) (k : Fin 8), (i = .sclr (.fields b)
        ∨ (i = .sload (.fields a) ∧ a.slot = b)) → s.Handed i → 2 ≤ k.val → b.toNat = k.val →
      s.schemes[k].locked = true → exec i s = .next (s.replied i .locked []))

/-! ## Profiles -/

/-- **eopen** creates the edit buffer: a NEW CHILD from the column of R18, a NEW GUARDIAN from R19, a CHANGE from
the installed record (R26). Under an OPEN window it is refused in the order of R25: BAD_ARGUMENT for the slot,
mode or kind, STATE while a buffer exists, NO_SUCH for a slot that does not fit the mode. -/
def Obligations.EopenCreatesTheBuffer : Prop :=
  (∀ (s : State) (a : EopenArgs) (k : Fin 16), s.Handed (.eopen (.fields a)) →
    s.authority.window.isSome = true → a.slot.toNat = k.val → s.edit = none →
    let i : Instr := .eopen (.fields a)
    (∀ image : Profile, a.mode = 0 → k ≠ 0 → s.profile? k = none →
      (a.kind = 1 ∧ image = .child ⟨0, none, none⟩ Rules.newChild)
        ∨ (a.kind = 2 ∧ image = .guardian ⟨0, none, none⟩) →
      exec i s = .next (State.replied { s with edit := some ⟨k, true, image⟩ } i .ok
        (be1 k.val ++ be1 0 ++ be1 image.kind.code)))
    ∧ (∀ p, a.mode = 1 → s.profile? k = some p →
      exec i s = .next (State.replied { s with edit := some ⟨k, false, p⟩ } i .ok
        (be1 k.val ++ be1 1 ++ be1 p.kind.code))))
  ∧ ∀ (s : State) (a : EopenArgs), s.Handed (.eopen (.fields a)) → s.authority.window.isSome = true →
    let i : Instr := .eopen (.fields a)
    let bad := 15 < a.slot.toNat ∨ 1 < a.mode.toNat ∨ (a.mode = 0 ∧ a.kind ≠ 1 ∧ a.kind ≠ 2)
    (bad → exec i s = .next (s.replied i .badArgument []))
    ∧ (¬ bad → s.edit.isSome = true → exec i s = .next (s.replied i .state []))
    ∧ ∀ k : Fin 16, ¬ bad → s.edit = none → a.slot.toNat = k.val →
        (a.mode = 0 ∧ (k = 0 ∨ (s.profile? k).isSome = true)) ∨ (a.mode = 1 ∧ s.profile? k = none) →
        exec i s = .next (s.replied i .noSuch [])

/-- A CHILD's record, or a GUEST's. -/
def Sys2Proof.Machine.judgedRecord (guest : Bool) (w : Ident) (r : Rules) : Profile :=
  if guest then .guest w r else .child w r

/-- **eset** of field `id` with value `v` makes the buffer's image `p`, and echoes the field and the value
`echo`. -/
def Sys2Proof.Machine.SetsField (s : State) (b : EditBuffer) (id : Nat) (v echo : BitVec 48) (p : Profile) : Prop :=
  let i : Instr := .eset (.fields ⟨BitVec.ofNat 8 id, v⟩)
  s.Handed i → exec i s = .next (State.replied { s with edit := some { b with image := p } } i .ok
    (BitVec.ofNat 8 id :: valueBytes echo))

/-- **eset** of field `id` with value `v` is refused with this status and changes nothing. -/
def Sys2Proof.Machine.RefusesField (s : State) (id : Nat) (v : BitVec 48) (status : Status) : Prop :=
  let i : Instr := .eset (.fields ⟨BitVec.ofNat 8 id, v⟩)
  s.Handed i → exec i s = .next (s.replied i status [])

/-- The field ids of 11.6. -/
def Sys2Proof.Machine.KnownField (id : Nat) : Prop :=
  (0x01 ≤ id ∧ id ≤ 0x08) ∨ (0x10 ≤ id ∧ id ≤ 0x17) ∨ (0x20 ≤ id ∧ id ≤ 0x26)
    ∨ (0x28 ≤ id ∧ id ≤ 0x2A) ∨ (0x30 ≤ id ∧ id ≤ 0x33) ∨ (0x38 ≤ id ∧ id ≤ 0x3A)

/-- A value outside its field's range, or a malformed window (R18, R28). -/
def Sys2Proof.Machine.OutOfRange (id : Nat) (v : BitVec 48) : Prop :=
  let n := (v.extractLsb' 16 32).toNat
  let kind := (v.extractLsb' 40 8).toNat
  (id = 0x01 ∧ 65535 < n) ∨ ((id = 0x04 ∨ id = 0x05 ∨ id = 0x07) ∧ 31 < n) ∨ (id = 0x08 ∧ 100 < n)
    ∨ (0x10 ≤ id ∧ id ≤ 0x17 ∧ 400 < n) ∨ (0x20 ≤ id ∧ id ≤ 0x26 ∧ 1440 < n) ∨ (id = 0x28 ∧ 1 < n)
    ∨ ((id = 0x29 ∨ id = 0x2A) ∧ 30 < n) ∨ (id = 0x38 ∧ 3 < n ∧ n ≠ 255) ∨ (id = 0x39 ∧ (n < 5 ∨ 60 < n))
    ∨ (id = 0x3A ∧ 8 < n)
    ∨ (0x30 ≤ id ∧ id ≤ 0x33 ∧ kind ≠ 0 ∧ (2 < kind ∨ 1439 < (v.extractLsb' 24 16).toNat
        ∨ 1439 < (v.extractLsb' 8 16).toNat ∨ v.extractLsb' 0 8 = 0 ∨ (v.extractLsb' 0 8).msb = true))

/-- **eset** sets each field of a CHILD, GUEST or GUARDIAN buffer that its kind takes, within its range, from value
bytes 0..3 or from a window entry, and is refused in the order of R27: no buffer, an unknown field, a field that
the kind does not take, a value out of range (R18, R19, R20, R27, R28, 11.6). The echo of the six bytes, with those
of the blocked descriptors above bit 7 as 0, is the model's reading (assumption 12). -/
def Obligations.EsetSetsOneField : Prop :=
  (∀ (s : State) (k : Fin 16) (isNew guest : Bool) (w : Ident) (r : Rules) (v : BitVec 48),
    let b : EditBuffer := ⟨k, isNew, judgedRecord guest w r⟩
    s.edit = some b →
    let n := (v.extractLsb' 16 32).toNat
    let token : Option Word := if n = 0 then none else some (v.extractLsb' 16 32)
    let sets := fun (id : Nat) (w' : Ident) (r' : Rules) => SetsField s b id v v (judgedRecord guest w' r')
    let put := fun (q : Fin 4) (x : Option Window) => { r with windows := r.windows.set q x }
    (n ≤ 65535 → sets 0x01 { w with label := n } r)
    ∧ (guest = false → sets 0x02 { w with primary := token } r ∧ sets 0x03 { w with secondary := token } r)
    ∧ (n ≤ 31 → sets 0x04 w { r with ceiling := n } ∧ sets 0x05 w { r with unrated := n }
        ∧ sets 0x07 w { r with headroom := n })
    ∧ (n ≤ 255 → sets 0x06 w { r with blocked := BitVec.ofNat 8 n })
    ∧ (255 < n → SetsField s b 0x06 v (v &&& 0x000000FFFFFF)
        (judgedRecord guest w { r with blocked := BitVec.ofNat 8 (n % 256) }))
    ∧ (n ≤ 100 → sets 0x08 w { r with relief := n })
    ∧ (∀ c : Fin 8, n ≤ 400 → sets (0x10 + c.val) w { r with rates := r.rates.set c n })
    ∧ (∀ d : Fin 7, n ≤ 1440 → sets (0x20 + d.val) w { r with allowances := r.allowances.set d n })
    ∧ (n ≤ 1 → sets 0x28 w { r with metered := decide (n = 1) })
    ∧ (n ≤ 30 → sets 0x29 w { r with warning := n } ∧ sets 0x2A w { r with windCap := n })
    ∧ (∀ q : Fin 4, v.extractLsb' 40 8 = 0 → sets (0x30 + q.val) w (put q none))
    ∧ (∀ (q : Fin 4) (kind : WindowKind), v.extractLsb' 40 8 = (if kind = .allow then 1 else 2) →
        (v.extractLsb' 24 16).toNat ≤ 1439 → (v.extractLsb' 8 16).toNat ≤ 1439 →
        v.extractLsb' 0 8 ≠ 0 → (v.extractLsb' 0 8).msb = false →
        sets (0x30 + q.val) w (put q
          (some ⟨kind, (v.extractLsb' 24 16).toNat, (v.extractLsb' 8 16).toNat, v.extractLsb' 0 8⟩)))
    ∧ (n ≤ 3 → sets 0x38 w { r with tier := some n })
    ∧ (n = 255 → sets 0x38 w { r with tier := none })
    ∧ (5 ≤ n → n ≤ 60 → sets 0x39 w { r with drawSize := n })
    ∧ (n ≤ 8 → sets 0x3A w { r with drawsPerDay := n }))
  ∧ (∀ (s : State) (k : Fin 16) (isNew : Bool) (w : Ident) (v : BitVec 48),
    let b : EditBuffer := ⟨k, isNew, .guardian w⟩
    s.edit = some b →
    let n := (v.extractLsb' 16 32).toNat
    let token : Option Word := if n = 0 then none else some (v.extractLsb' 16 32)
    (n ≤ 65535 → SetsField s b 0x01 v v (.guardian { w with label := n }))
    ∧ SetsField s b 0x02 v v (.guardian { w with primary := token })
    ∧ SetsField s b 0x03 v v (.guardian { w with secondary := token }))
  ∧ ∀ (s : State) (id : Nat) (v : BitVec 48), id < 256 →
      (s.edit = none → RefusesField s id v .state)
      ∧ ∀ b, s.edit = some b →
        (¬ KnownField id → RefusesField s id v .badArgument)
        ∧ (KnownField id → (b.image.kind = .guardian ∧ 4 ≤ id) ∨ (b.image.kind = .guest ∧ (id = 2 ∨ id = 3)) →
            RefusesField s id v .state)
        ∧ (b.image.kind ≠ .guardian ∨ id = 1 → OutOfRange id v → RefusesField s id v .badArgument)

/-- What the commit of a record asks (R29): a primary token unless it is a GUEST's, a secondary that differs from
it, no token that another LIVE profile holds, and no window whose start is its end. -/
def Sys2Proof.Machine.MayCommit (s : State) (b : EditBuffer) : Prop :=
  (b.image.kind ≠ .guest → b.image.who.primary.isSome = true)
    ∧ (b.image.who.secondary.isSome = true → b.image.who.secondary ≠ b.image.who.primary)
    ∧ (∀ (j : Fin 16) (p : Profile) (t : Word), j ≠ b.slot → s.profile? j = some p →
        (b.image.who.primary = some t ∨ b.image.who.secondary = some t) → p.holdsToken t = false)
    ∧ (∀ r, b.image.rules? = some r → ∀ w ∈ r.windows.toList, ∀ x ∈ w, x.start ≠ x.stop)

/-- **ecommit** installs a record exactly when R29 admits it. A NEW record comes with a cleared meter and both
blocks queued (R30); a CHANGE replaces the record, keeps the used meters, takes the exhaustion event of a budget
that falls, re-evaluates the profile's entries and answers how many (R31, R32, R102); a refused commit changes
nothing, the buffer included, and answers the first refusal in the order of R29: no buffer, no primary token, two
equal tokens, a token that another LIVE slot holds, and the lowest window whose start is its end. Re-evaluated
entries are stated for an event at which no request waits and none is asked for (R80). That a guardian's entries
count as re-evaluated, and which of two holders CONFLICT names, are the model's readings (assumptions 13 and
16). -/
def Obligations.EcommitInstallsTheRecord : Prop :=
  (∀ s : State, s.Handed (.ecommit (.fields ())) → s.edit = none →
    exec (.ecommit (.fields ())) s = .next (s.replied (.ecommit (.fields ())) .state []))
  ∧ ∀ (s : State) (b : EditBuffer), s.Handed (.ecommit (.fields ())) → s.edit = some b →
    let i : Instr := .ecommit (.fields ())
    let who := b.image.who
    let tokenless := b.image.kind ≠ .guest ∧ who.primary = none
    let twins := who.secondary.isSome = true ∧ who.secondary = who.primary
    let holds := fun j : Fin 16 => j ≠ b.slot ∧ ∃ p t, s.profile? j = some p
      ∧ (who.primary = some t ∨ who.secondary = some t) ∧ p.holdsToken t = true
    let empty := fun q : Fin 4 => ∃ r x, b.image.rules? = some r ∧ r.windows[q] = some x ∧ x.start = x.stop
    let refused := fun (status : Status) (payload : List Byte) => exec i s = .next (s.replied i status payload)
    (MayCommit s b → b.isNew = true → exec i s = .next (State.replied
      (((State.commit { s with
          slots := s.slots.set b.slot (.live b.image), edit := none
          meters := s.meters.set b.slot Meter.cleared, meterDirty := true } (profileBlock b.slot)).commit
        meterBlock)) i .ok (be1 b.slot.val)))
    ∧ (MayCommit s b → b.isNew = false → ∃ t, exec i s = .next t
        ∧ t.Holds i .ok (be1 b.slot.val ++ be1 (s.countEntries (ofProfile b.slot)))
        ∧ t.slots = s.slots.set b.slot (.live b.image)
        ∧ t.store.queue = s.queueWith [profileBlock b.slot]
        ∧ (∀ k : Fin 16, t.meters[k].used = s.meters[k].used)
        ∧ (let x : State := { s with
             slots := s.slots.set b.slot (.live b.image), edit := none
             store := { s.store with queue := s.queueWith [profileBlock b.slot] } }
           CommandWork x t
            ∧ ∃ mid, TimeFell s x mid b.slot ∧ Rejudges s mid t true fun _ e => decide (e.slot = b.slot)))
    ∧ (¬ MayCommit s b → ∃ status payload, status ∈ [Status.invalidRecord, Status.conflict]
        ∧ refused status payload)
    ∧ (tokenless → refused .invalidRecord [0x02])
    ∧ (¬ tokenless → twins → refused .invalidRecord [0x03])
    ∧ (¬ tokenless → ¬ twins → (∃ j, holds j) → ∃ j, holds j ∧ refused .conflict (be1 j.val))
    ∧ (¬ tokenless → ¬ twins → (∀ j, ¬ holds j) → ∀ q, empty q → (∀ q' < q, ¬ empty q') →
        refused .invalidRecord (be1 q.val))

/-- R33: **edrop** discards the buffer if there is one, says so, and changes nothing else. -/
def Obligations.EdropDiscardsTheBuffer : Prop :=
  ∀ s : State, s.Handed (.edrop (.fields ())) →
    exec (.edrop (.fields ())) s = .next (State.replied { s with edit := none } (.edrop (.fields ())) .ok
      (flagByte s.edit.isSome))

/-- **retire** frees a slot: its entries leave every seat, its request and its grants go, its meter is cleared,
and the three blocks join the commit queue; a seat that its last guardian leaves has its CHILD and GUEST entries
re-evaluated; the answer counts entries and grants (R36, R45, R94, R150, R181). Re-evaluated entries are stated
for an event at which no request waits and none is asked for (R80). Under an OPEN window it is refused in the
order of R35: BAD_ARGUMENT for slot 0 or one above 15, NO_SUCH for a FREE slot, STATE for the slot of the edit
buffer. -/
def Obligations.RetireFreesTheSlot : Prop :=
  (∀ (s : State) (b : Byte) (k : Fin 16), s.Handed (.retire (.fields b)) →
    s.authority.window.isSome = true → b.toNat = k.val → k ≠ 0 → s.slots[k] ≠ .free →
    (∀ e, s.edit = some e → e.slot ≠ k) →
    ∃ t, exec (.retire (.fields b)) s = .next t
      ∧ t.Holds (.retire (.fields b)) .ok (be1 k.val
          ++ be1 ((s.seats.toList.map fun x => (x.entries.filter fun e => e.slot = k).length).sum)
          ++ be1 (s.grants.toList.filter fun g => g.any fun g => g.slot = k).length)
      ∧ t.slots = s.slots.set k .free
      ∧ (∀ j, t.viewers j = (s.viewers j).filter fun x => x ≠ k)
      ∧ (∀ r ∈ t.requests, r.slot ≠ k)
      ∧ (∀ i : Fin 16, t.grants[i] = s.grants[i].filter fun g => g.slot ≠ k)
      ∧ t.meters[k] = Meter.cleared
      ∧ t.store.queue = s.queueWith [profileBlock k, grantBlock, meterBlock]
      ∧ CommandWork { s with
          slots := t.slots, grants := t.grants, store := { s.store with queue := t.store.queue } } t
      ∧ (let left := fun j : Fin 6 => s.seats[j].entries.filter fun e => e.slot ≠ k
         let present := fun j : Fin 6 => (left j).any fun e => s.kind? e.slot = some .guardian
         let holds := fun j : Fin 6 => s.seats[j].entries.any fun e => e.slot = k
         Rejudges s { s with
            slots := t.slots, grants := t.grants, meters := s.meters.set k Meter.cleared, meterDirty := true
            seats := Vector.ofFn fun j => if holds j then { s.seats[j] with
              entries := left j, guardianPresent := present j } else s.seats[j] } t
          true fun j e => holds j && s.seats[j].guardianPresent && !present j
            && decide (s.kind? e.slot ≠ some .guardian)))
  ∧ ∀ (s : State) (b : Byte), s.Handed (.retire (.fields b)) → s.authority.window.isSome = true →
    let i : Instr := .retire (.fields b)
    (b = 0 ∨ 15 < b.toNat → exec i s = .next (s.replied i .badArgument []))
    ∧ ∀ k : Fin 16, b.toNat = k.val → k ≠ 0 →
      (s.slots[k] = .free → exec i s = .next (s.replied i .noSuch []))
      ∧ (s.slots[k] ≠ .free → (∃ e ∈ s.edit, e.slot = k) → exec i s = .next (s.replied i .state []))

/-- **sread**, **pread** and **lookup** answer from the working copy and change nothing; a slot that does not
exist is refused BAD_ARGUMENT. A token of 0 is ANONYMOUS, any other is a primary token, then a secondary one, of a
LIVE profile, and one that nobody holds is the UNKNOWN guest (R10, R21, R22, R23). The payload layouts are the
model's reading of 11.6 (assumption 10). -/
def Obligations.TableReadsAnswer : Prop :=
  (∀ (s : State) (b : Byte), s.Handed (.sread (.fields b)) →
    let i : Instr := .sread (.fields b)
    (7 < b.toNat → exec i s = .next (s.replied i .badArgument []))
    ∧ ∀ k : Fin 8, b.toNat = k.val →
      (s.schemes[k].scheme = none → exec i s = .next (s.replied i .ok
        (be1 0 ++ flagByte s.schemes[k].locked ++ be2 0 ++ be1 0)))
      ∧ ∀ c, s.schemes[k].scheme = some c → exec i s = .next (s.replied i .ok
        (be1 1 ++ flagByte s.schemes[k].locked ++ halfBytes c.tag ++ be1 c.levels.length
          ++ c.levels.map (BitVec.ofNat 8))))
  ∧ (∀ (s : State) (b : Byte), s.Handed (.pread (.fields b)) →
    let i : Instr := .pread (.fields b)
    (15 < b.toNat → exec i s = .next (s.replied i .badArgument []))
    ∧ ∀ k : Fin 16, b.toNat = k.val → exec i s = .next (s.replied i .ok
        (be1 s.slots[k].code ++ flagByte (s.edit.any (·.slot = k))
          ++ match s.profile? k with
            | some p => be1 p.kind.code ++ identPayload p.who ++ (p.rules?.map rulesPayload).getD []
            | none => [])))
  ∧ (∀ (s : State) (t : Word) (p : Profile), s.Handed (.lookup (.fields t)) →
      s.profile? (s.resolve t).1 = some p →
      exec (.lookup (.fields t)) s = .next (s.replied (.lookup (.fields t)) .ok
        (be1 (s.resolve t).1.val ++ be1 (s.resolve t).2.code ++ be1 p.kind.code ++ be2 p.who.label)))
  ∧ ∀ (s : State) (t : Word),
      let primary := fun k : Fin 16 => k ≠ 0 ∧ ∃ p, s.profile? k = some p ∧ p.who.primary = some t
      let secondary := fun k : Fin 16 => ∃ p, s.profile? k = some p ∧ p.who.secondary = some t
      (t = 0 → s.resolve t = (0, .anonymous))
      ∧ (t ≠ 0 → ∀ k, primary k → (∀ j, primary j → j = k) → s.resolve t = (k, .primary))
      ∧ (t ≠ 0 → (∀ k, ¬ primary k) →
          (∀ k, secondary k → (∀ j, secondary j → j = k) → s.resolve t = (k, .secondary))
          ∧ ((∀ k, ¬ secondary k) → s.resolve t = (0, .unknown)))

/-! ## Seats and verdicts -/

/-- **join** resolves the token and adds the profile at the end of the seat's list, leaving every other list and
every programme as it was; a profile already there changes nothing, a seat with three entries refuses FULL with
their slots, and a seat number above 5 is refused BAD_ARGUMENT. The new entry is IDLE without a programme, EXEMPT
for a GUARDIAN, and otherwise has its verdict under the guardian-present flag of the seat with the entry in it,
and so have the seat's CHILD and GUEST entries when the entry sets that flag; no other entry changes (R42, R45,
R48, R49). Re-evaluated entries are stated for an event at which no request waits and none is asked for (R80). The
verdict clause is for a **join** at which no request waits and no draw can be made. That FULL carries its slots
with no count is the model's reading (assumption 10). -/
def Obligations.JoinSeatsTheProfile : Prop :=
  (∀ (s : State) (a : JoinArgs), s.Handed (.join (.fields a)) → 5 < a.seat.toNat →
    exec (.join (.fields a)) s = .next (s.replied (.join (.fields a)) .badArgument []))
  ∧ ∀ (s : State) (a : JoinArgs) (j : Fin 6), s.Handed (.join (.fields a)) → a.seat.toNat = j.val →
    let i : Instr := .join (.fields a)
    let k := (s.resolve a.token).1
    let m := (s.resolve a.token).2
    (k ∈ s.viewers j → exec i s = .next (s.replied i .ok (flagByte true ++ be1 k.val ++ be1 m.code)))
    ∧ (k ∉ s.viewers j → 3 ≤ s.seats[j].entries.length →
        exec i s = .next (s.replied i .full ((s.viewers j).flatMap fun x => be1 x.val)))
    ∧ (k ∉ s.viewers j → s.seats[j].entries.length < 3 → ∃ t, exec i s = .next t
        ∧ t.Holds i .ok (be1 k.val ++ be1 m.code ++ be1 s.seats[j].entries.length
            ++ be1 (entryState t.seats[j] k).code ++ be1 (entryState t.seats[j] k).reasonCode
            ++ be1 t.seats[j].state.code)
        ∧ t.viewers j = s.viewers j ++ [k]
        ∧ (∀ j', j' ≠ j → t.viewers j' = s.viewers j')
        ∧ (∀ j' : Fin 6, t.seats[j'].programme = s.seats[j'].programme)
        ∧ t.seats[j].guardianPresent = (t.viewers j).any (fun x => s.kind? x = some .guardian)
        ∧ (s.seats[j].programme = none → entryState t.seats[j] k = .idle)
        ∧ (∀ p, s.seats[j].programme = some p →
            (s.kind? k = some .guardian → entryState t.seats[j] k = .exempt)
            ∧ ∀ r, s.rules? k = some r → s.requests = [] →
              let v := s.evaluate k r p ((s.viewers j).any fun x => s.kind? x = some .guardian) none
              (v.asks = true → s.pool.remaining = 0) → entryState t.seats[j] k = v.state)
        ∧ CommandWork s t
        ∧ (let seat := s.seats[j]
           let present := (s.viewers j ++ [k]).any fun x => s.kind? x = some .guardian
           Rejudges s { s with seats := s.seats.set j { seat with
              entries := seat.entries ++ [⟨k, .idle⟩], guardianPresent := present } } t
            true fun j' e => decide (j' = j) && (decide (e.slot = k)
              || (present && !seat.guardianPresent && decide (s.kind? e.slot ≠ some .guardian)))))

/-- **leave** removes one entry, **vacate** all entries and the programme, and **endp** the programme, after which
every entry is IDLE; no other seat loses an entry or its programme (R51, R52, R55). When the last guardian leaves
a seat its CHILD and GUEST entries are re-evaluated; no other entry changes (R45, R51, R58). Re-evaluated entries
are stated for an event at which no request waits and none is asked for (R80). A seat number above 5, a form byte
above 1 and, in the slot form, a slot above 15 are refused BAD_ARGUMENT (R50). -/
def Obligations.SeatsAreLeft : Prop :=
  (∀ (s : State) (a : LeaveArgs) (j : Fin 6) (k : Fin 16) (m : Nat), s.Handed (.leave (.fields a)) →
    a.seat.toNat = j.val → s.target? a.form a.target = some (k, m) →
    let i : Instr := .leave (.fields a)
    (k ∉ s.viewers j → exec i s = .next (s.replied i .noSuch []))
    ∧ (k ∈ s.viewers j → ∃ t, exec i s = .next t
        ∧ t.Holds i .ok (be1 k.val ++ be1 t.seats[j].state.code)
        ∧ t.viewers j = (s.viewers j).filter (fun x => x ≠ k)
        ∧ (∀ j', j' ≠ j → t.viewers j' = s.viewers j')
        ∧ (∀ j' : Fin 6, t.seats[j'].programme = s.seats[j'].programme)
        ∧ CommandWork s t
        ∧ (let seat := s.seats[j]
           let left := seat.entries.filter fun e => e.slot ≠ k
           let present := left.any fun e => s.kind? e.slot = some .guardian
           Rejudges s { s with seats := s.seats.set j { seat with entries := left, guardianPresent := present } } t
            true fun j' e => decide (j' = j) && seat.guardianPresent && !present
              && decide (s.kind? e.slot ≠ some .guardian))))
  ∧ (∀ (s : State) (a : LeaveArgs), s.Handed (.leave (.fields a)) →
    5 < a.seat.toNat ∨ 1 < a.form.toNat ∨ (a.form = 1 ∧ 15 < a.target.toNat) →
    exec (.leave (.fields a)) s = .next (s.replied (.leave (.fields a)) .badArgument []))
  ∧ (∀ (s : State) (b : Byte) (i : Instr), i = .vacate (.fields b) ∨ i = .endp (.fields b) → s.Handed i →
    5 < b.toNat → exec i s = .next (s.replied i .badArgument []))
  ∧ (∀ (s : State) (t : Word), s.target? 0 t = some ((s.resolve t).1, (s.resolve t).2.code)
    ∧ ∀ k : Fin 16, t.toNat = k.val → s.target? 1 t = some (k, 4))
  ∧ (∀ (s : State) (b : Byte) (j : Fin 6), s.Handed (.vacate (.fields b)) → b.toNat = j.val →
    ∃ t, exec (.vacate (.fields b)) s = .next t
      ∧ t.Holds (.vacate (.fields b)) .ok
          (be1 s.seats[j].entries.length ++ flagByte s.seats[j].programme.isSome)
      ∧ t.seats[j] = Seat.vacant
      ∧ (∀ j' : Fin 6, j' ≠ j →
          t.viewers j' = s.viewers j' ∧ t.seats[j'].programme = s.seats[j'].programme)
      ∧ CommandWork s t
      ∧ Rejudges s { s with seats := s.seats.set j Seat.vacant } t true fun _ _ => false)
  ∧ (∀ (s : State) (b : Byte) (j : Fin 6), s.Handed (.endp (.fields b)) → b.toNat = j.val →
    let i : Instr := .endp (.fields b)
    (s.seats[j].programme = none → exec i s = .next (s.replied i .ok (flagByte false)))
    ∧ (s.seats[j].programme.isSome = true → ∃ t, exec i s = .next t
        ∧ t.Holds i .ok (flagByte true)
        ∧ t.seats[j].programme = none
        ∧ t.seats[j].entries = s.seats[j].entries.map (fun e => ⟨e.slot, .idle⟩)
        ∧ (∀ j' : Fin 6, j' ≠ j →
            t.viewers j' = s.viewers j' ∧ t.seats[j'].programme = s.seats[j'].programme)
        ∧ CommandWork s t
        ∧ Rejudges s { s with seats := s.seats.set j { s.seats[j] with
            entries := t.seats[j].entries, programme := none } } t true fun _ _ => false))

/-- **play** sets the programme record, with the maturity of R4 (the map entry of a LOADED scheme 0..7 for a value
below its n, and UNRATED otherwise) and the end moment of R44, keeps the viewers, makes every guardian EXEMPT, and
gives every CHILD and GUEST entry of the seat its verdict on the new record, judged as in no wind-down, so that
none is left in one; no entry of another seat changes; it is refused for a seat above 5 or a category above 7
alone (R5, R53, R54, R66). Re-evaluated entries are stated for an event at which no request waits and none is
asked for (R80). That a guardian's entries count as evaluated is the model's reading (assumption 16). -/
def Obligations.PlaySetsTheProgramme : Prop :=
  (∀ (s : State) (scheme rating : Byte),
    (7 < scheme.toNat → s.translate scheme rating = none)
    ∧ ∀ k : Fin 8, scheme.toNat = k.val →
      (s.schemes[k].scheme = none → s.translate scheme rating = none)
      ∧ ∀ c, s.schemes[k].scheme = some c →
        (c.levels.length ≤ rating.toNat → s.translate scheme rating = none)
        ∧ ∀ below : rating.toNat < c.levels.length, s.translate scheme rating = some c.levels[rating.toNat])
  ∧ ∀ (s : State) (a : PlayArgs), s.Handed (.play (.fields a)) →
    let i : Instr := .play (.fields a)
    let d := a.programme
    (5 < a.seat.toNat ∨ 7 < d.category.toNat → exec i s = .next (s.replied i .badArgument []))
    ∧ ∀ (j : Fin 6) (c : Fin 8), a.seat.toNat = j.val → d.category.toNat = c.val →
      let ends : Option Nat :=
        if d.duration = 0 then none
        else some (min (s.clock.counter + 60 * min d.duration.toNat 720) 4294967295)
      let m := s.translate d.scheme d.rating
      ∃ t, exec i s = .next t
        ∧ t.Holds i .ok (be1 (m.getD 255) ++ flagByte ends.isSome ++ be4 (ends.getD 0)
            ++ be1 s.seats[j].entries.length ++ be1 t.seats[j].state.code)
        ∧ t.seats[j].programme = some ⟨d.scheme, d.rating, d.descriptors, c, d.content, ends, m⟩
        ∧ (∀ j' : Fin 6, t.viewers j' = s.viewers j')
        ∧ (∀ j' : Fin 6, j' ≠ j → t.seats[j'].programme = s.seats[j'].programme)
        ∧ (∀ e ∈ t.seats[j].entries, s.kind? e.slot = some .guardian → e.state = .exempt)
        ∧ CommandWork s t
        ∧ (let present := (s.viewers j).any fun x => s.kind? x = some .guardian
           let p : Programme := ⟨d.scheme, d.rating, d.descriptors, c, d.content, ends, m⟩
           Rejudges s { s with seats := s.seats.set j { s.seats[j] with
              programme := some p, guardianPresent := present } } t false (fun j' _ => decide (j' = j))
            ∧ (s.requests = [] →
                (∀ e ∈ s.seats[j].entries, ∀ r, s.rules? e.slot = some r →
                  (s.evaluate e.slot r p present none).asks = false) →
                ∀ e ∈ t.seats[j].entries, (s.kind? e.slot).isSome = true → e.state.windEnd? = none))

/-- A rule group passes for a profile and a programme (R64, R67). -/
def Sys2Proof.Machine.State.Passes (s : State) (k : Fin 16) (r : Rules) (p : Programme) (guardian : Bool)
    (winding : Option Nat) : RuleGroup → Prop
  | .grant => s.titlePermit? k p.content = none
  | .rating => ratingGroup r p guardian = none
  | .window => s.windowGroup k r = none
  | .time => (s.timeGroup k r winding).isSome = true

/-- An evaluation walks the household group order (R64). The first group that does not pass decides, and the
groups after it are not consulted: a denial gives its reason and raises no request, and a title permit gives a
permitted state with reason GRANT; when all pass, the entry is permitted with reason ALL_PASS and no group decides
(R67). A permitted entry takes the state that the time group's pass carried, and asks for a request exactly when
that pass raises one; where the time group was not consulted it is LOW or CLEAR by the remaining time alone and
asks for nothing (R68). The grant group finds the live permit of the content id (R69); the rating group compares
the level with the effective ceiling and then the descriptors (R70, R71, R72); the window group reads the clock,
the waiver and the windows (R74, R75, R76); the time group takes the first row of its table that holds (R78, R79),
with the remaining time that allowance, extra time, pool minutes and used time leave. -/
def Obligations.TheFirstGroupToDecideDecides : Prop :=
  (∀ (s : State) (k : Fin 16) (r : Rules) (p : Programme) (g : Bool) (w : Option Nat)
    (before after : List RuleGroup) (c : Option TimePass),
    (∀ x ∈ before, s.Passes k r p g w x) →
    let carried := if RuleGroup.time ∈ before then s.timeGroup k r w else c
    let low := r.metered && decide (0 < r.warning ∧ 0 < s.remaining k ∧ s.remaining k ≤ r.warning * 6000)
    let permitted := fun why : Pass => match carried with
      | none => if low then EntryState.low why else .clear why
      | some .clear => .clear why
      | some .low => .low why
      | some (.winding ends) => .winding why ends
      | some (.waiting _) => .waiting why
    let asks := decide (carried = some (.waiting true))
    (∀ d, ratingGroup r p g = some d →
      s.walk k r p g w (before ++ .rating :: after) c = ⟨.denied d, false, some .rating⟩)
    ∧ (∀ d, s.windowGroup k r = some d →
      s.walk k r p g w (before ++ .window :: after) c = ⟨.denied d, false, some .window⟩)
    ∧ (s.timeGroup k r w = none →
      s.walk k r p g w (before ++ .time :: after) c = ⟨.denied .time, false, some .time⟩)
    ∧ (∀ m, s.titlePermit? k p.content = some m →
      s.walk k r p g w (before ++ .grant :: after) c = ⟨permitted (.grant m), asks, some .grant⟩)
    ∧ s.walk k r p g w before c = ⟨permitted .allPass, asks, none⟩)
  ∧ (∀ (s : State) (k : Fin 16) (r : Rules) (p : Programme) (g : Bool) (w : Option Nat),
    s.evaluate k r p g w = s.walk k r p g w s.settings.groupOrder none)
  ∧ (∀ (s : State) (k : Fin 16) (content : Word),
    let permits := fun (e : Fin 16) (m : Bool) => ∃ x, s.grants[e] = some ⟨k, .titlePermit content m x⟩
    (content = 0 → s.titlePermit? k content = none)
    ∧ ((∀ e m, ¬ permits e m) → s.titlePermit? k content = none)
    ∧ (content ≠ 0 → ∀ e m, permits e m → (∀ e' m', permits e' m' → e' = e) →
        s.titlePermit? k content = some m))
  ∧ (∀ (r : Rules) (p : Programme) (g : Bool),
    let level := match p.maturity with
      | some m => m
      | none => r.unrated
    let ceiling := if g then min 31 (r.ceiling + r.headroom) else r.ceiling
    let meets := ∃ d : Fin 8, p.descriptors.getLsbD d = true ∧ r.blocked.getLsbD d = true
    (ceiling < level → ratingGroup r p g = some .ratingLevel)
    ∧ (level ≤ ceiling → meets → ratingGroup r p g = some .ratingDescriptor)
    ∧ (level ≤ ceiling → ¬ meets → ratingGroup r p g = none))
  ∧ (∀ (w : Window) (t : Nat) (d e : Fin 7), e.val = (d.val + 6) % 7 →
    (w.start < w.stop → (w.covers t d = true ↔
      w.days.getLsbD d = true ∧ w.start ≤ t ∧ t < w.stop))
    ∧ (w.stop < w.start → (w.covers t d = true ↔
      (w.days.getLsbD d = true ∧ w.start ≤ t) ∨ (w.days.getLsbD e = true ∧ t < w.stop))))
  ∧ (∀ (s : State) (k : Fin 16) (r : Rules),
    let has := fun w => ∃ q : Fin 4, r.windows[q] = some w
    let covers := fun w : Window => w.covers (s.clock.second / 60) s.clock.weekday = true
    let waived := ∃ (e : Fin 16) (x : Moment), s.grants[e] = some ⟨k, .windowWaiver x⟩
    let shut := (∃ w, has w ∧ w.kind = .deny ∧ covers w)
      ∨ ((∃ w, has w ∧ w.kind = .allow) ∧ ∀ w, has w → w.kind = .allow → ¬ covers w)
    (s.clock.isSet = false → (∃ w, has w) → s.windowGroup k r = some .clock)
    ∧ (s.clock.isSet = false → (∀ w, ¬ has w) → s.windowGroup k r = none)
    ∧ (s.clock.isSet = true → waived → s.windowGroup k r = none)
    ∧ (s.clock.isSet = true → ¬ waived → shut → s.windowGroup k r = some .window)
    ∧ (s.clock.isSet = true → ¬ waived → ¬ shut → s.windowGroup k r = none))
  ∧ (∀ (s : State) (k : Fin 16),
    let extras := fun (e : Fin 16) (m : Nat) => ∃ d, s.grants[e] = some ⟨k, .extraTime m d⟩
    ((∀ e m, ¬ extras e m) → s.extra k = 0)
    ∧ ∀ e m, extras e m → (∀ e' m', extras e' m' → e' = e) → s.extra k = m)
  ∧ ∀ (s : State) (k : Fin 16) (r : Rules) (w : Option Nat), s.rules? k = some r →
      let left := (r.allowances[s.clock.meterWeekday] + s.extra k + s.meters[k].drawn) * 6000 - s.meters[k].used
      let possible := r.tier.isSome = true ∧ s.meters[k].draws < r.drawsPerDay
      s.remaining k = left
      ∧ (r.metered = false → s.timeGroup k r w = some .clear)
      ∧ (r.metered = true → 0 < left →
          (0 < r.warning → left ≤ r.warning * 6000 → s.timeGroup k r w = some .low)
          ∧ (r.warning = 0 ∨ r.warning * 6000 < left → s.timeGroup k r w = some .clear))
      ∧ (r.metered = true → left = 0 →
          (∀ e, w = some e → s.timeGroup k r w = some (.winding e))
          ∧ (w = none → s.hasRequest k = true → s.timeGroup k r w = some (.waiting false))
          ∧ (w = none → s.hasRequest k = false → possible → s.timeGroup k r w = some (.waiting true))
          ∧ (w = none → s.hasRequest k = false → ¬ possible → s.timeGroup k r w = none))

/-- **preview** answers what an entry would be given and changes nothing: it raises no request and starts no
wind-down (R84, R85, R86); a slot that is not LIVE is refused NO_SUCH, and a form or co-view flag above 1, a slot
above 15 in the slot form, or a category above 7 BAD_ARGUMENT. The payload layout is the model's reading of 11.6
(assumption 10), and a GUARDIAN's metered flag is free (assumption 14). -/
def Obligations.PreviewAnswersTheVerdict : Prop :=
  (∀ (s : State) (a : PreviewArgs), s.Handed (.preview (.fields a)) →
    1 < a.form.toNat ∨ 1 < a.coview.toNat ∨ (a.form = 1 ∧ 15 < a.target.toNat) ∨ 7 < a.programme.category.toNat →
    exec (.preview (.fields a)) s = .next (s.replied (.preview (.fields a)) .badArgument []))
  ∧ ∀ (s : State) (a : PreviewArgs) (k : Fin 16) (m : Nat) (c : Fin 8), s.Handed (.preview (.fields a)) →
    s.target? a.form a.target = some (k, m) → a.programme.category.toNat = c.val →
    let i : Instr := .preview (.fields a)
    let p := s.programmeOf a.programme c
    (1 < a.coview.toNat → exec i s = .next (s.replied i .badArgument []))
    ∧ (a.coview.toNat ≤ 1 → s.profile? k = none → exec i s = .next (s.replied i .noSuch []))
    ∧ (a.coview.toNat ≤ 1 → ∀ who, s.profile? k = some (.guardian who) →
        exec i s = .next (s.replied i .ok (s.previewGuardian k m p)))
    ∧ (a.coview.toNat ≤ 1 → ∀ (profile : Profile) (r : Rules), s.profile? k = some profile →
        profile.rules? = some r →
        let v := s.evaluate k r p (a.coview = 1) none
        exec i s = .next (s.replied i .ok
          (be1 k.val ++ be1 m ++ be1 profile.kind.code ++ be1 (if v.state.isDenied then 1 else 0)
            ++ be1 ((v.decider.map RuleGroup.code).getD 255) ++ be1 v.state.code ++ be1 v.state.reasonCode
            ++ grantMeteredBytes v.state ++ be1 (p.maturity.getD r.unrated) ++ flagByte p.maturity.isNone
            ++ be1 (if a.coview = 1 then min 31 (r.ceiling + r.headroom) else r.ceiling)
            ++ be4 (s.remaining k) ++ flagByte r.metered ++ flagByte (s.hasRequest k)
            ++ flagByte v.asks)))

/-- **sstat** and **mread** report a seat and a meter as they stand and change nothing (R56, R118). The payload
layouts are the model's reading of 11.6 (assumption 10), and the metered flag of a GUARDIAN is free (assumption
14). -/
def Obligations.SeatAndMeterReadsAnswer : Prop :=
  (∀ (s : State) (b : Byte) (j : Fin 6), s.Handed (.sstat (.fields b)) → b.toNat = j.val →
    exec (.sstat (.fields b)) s = .next (s.replied (.sstat (.fields b)) .ok
      (be1 s.seats[j].state.code ++ flagByte s.seats[j].guardianPresent ++ be1 s.seats[j].entries.length
        ++ s.seats[j].entries.flatMap s.entryPayload
        ++ programmePayload s.clock.counter s.seats[j].programme)))
  ∧ (∀ (s : State) (b : Byte) (k : Fin 16), s.Handed (.mread (.fields b)) → b.toNat = k.val →
    exec (.mread (.fields b)) s = .next (s.replied (.mread (.fields b)) .ok
      (be1 s.slots[k].code ++ profileFlags (s.profile? k) ++ be4 s.meters[k].used ++ be1 s.meters[k].residue
        ++ be4 (s.budget k) ++ be4 (s.budget k - s.meters[k].used) ++ be2 (s.allowance k) ++ be2 (s.extra k)
        ++ be2 s.meters[k].drawn ++ be1 s.meters[k].draws ++ flagByte s.meters[k].windUsed
        ++ be1 (s.entriesOf k) ++ be1 (s.meteringEntries k)
        ++ be4 (if s.isMetered k then s.rateOf k else 0))))
  ∧ ∀ (s : State) (b : Byte) (i : Instr), s.Handed i →
      (i = .sstat (.fields b) ∧ 5 < b.toNat) ∨ (i = .mread (.fields b) ∧ 15 < b.toNat) →
      exec i s = .next (s.replied i .badArgument [])

/-! ## Metering -/

/-- The metering second debits every metered profile at its largest effective rate and carries the fraction; a
profile that is not metered is not debited (R89, R95, R97). An entry's rate is 0 under a permit that is not
metered, the category's rate times 100, or times 100 less the relief while a guardian is present (R96). Then the
wind-downs end, and then every profile in ascending slot order has its thresholds written and its exhaustion
checked (R98, R100): an exhausted one waits on its pending request, on a request raised now, winds down, or is
denied (R103, R104, R105). The third clause asks that the seat states be derived as R46 says. That the row does
its work once for each second is the model's choice (assumption 4), and what sets the dirty flag its reading
(assumption 19). -/
def Obligations.MeteringSecondDebits : Prop :=
  (∀ s : State, s.Awake → s.due.metering = true →
    ∃ u : State, exec .meteringSecond s = .next u.drivePins
      ∧ SeatWork { s with due := { s.due with metering := false } } u
      ∧ (∀ k : Fin 16, s.isMetered k = true →
          u.meters[k].used = min (s.meters[k].used + (s.rateOf k + s.meters[k].residue) / 100) 4294967295
          ∧ u.meters[k].residue = (s.rateOf k + s.meters[k].residue) % 100)
      ∧ (∀ k : Fin 16, s.isMetered k = false →
          u.meters[k].used = s.meters[k].used ∧ u.meters[k].residue = s.meters[k].residue))
  ∧ (∀ s : State, s.Awake → s.due.metering = true →
    ∃ debited ended checked : State,
      debited = { s with
          meters := debited.meters, meterDirty := s.meterDirty || decide (debited.meters ≠ s.meters) }
      ∧ (∀ k : Fin 16, debited.meters[k] = if s.isMetered k then { s.meters[k] with
            used := min (s.meters[k].used + (s.rateOf k + s.meters[k].residue) / 100) 4294967295
            residue := (s.rateOf k + s.meters[k].residue) % 100 }
          else s.meters[k])
      ∧ ended = { debited with seats := ended.seats }
      ∧ (∀ j : Fin 6, ended.seats[j].entries = s.seats[j].entries.map fun e =>
          match e.state with
          | .winding _ ends => if ends ≤ s.clock.counter then ⟨e.slot, .denied .time⟩ else e
          | _ => e)
      ∧ checked = (List.finRange 16).foldl State.checkProfile ended
      ∧ (∀ k : Fin 16, debited.meters[k].used = checked.meters[k].used)
      ∧ exec .meteringSecond s = .next (State.drivePins
          (State.settled { checked with due := { checked.due with metering := false } } s false)))
  ∧ (∀ (s : State) (k : Fin 16),
      s.isMetered k = true ↔ (∃ r, s.rules? k = some r ∧ r.metered = true) ∧ ∃ j e, s.Meters k j e)
  ∧ (∀ (s : State) (k : Fin 16) (r : Rules), s.rules? k = some r →
      let IsRate := fun (j : Fin 6) (e : Entry) (rate : Nat) => ∀ p, s.seats[j].programme = some p →
        (e.state.PermittedFor (.grant false) → rate = 0)
        ∧ (¬ e.state.PermittedFor (.grant false) →
            rate = r.rates[p.category] * (if s.seats[j].guardianPresent then 100 - r.relief else 100))
      (∀ j e rate, s.Meters k j e → s.seats[j].programme.isSome = true → IsRate j e rate → rate ≤ s.rateOf k)
      ∧ ((∃ j e, s.Meters k j e ∧ s.seats[j].programme.isSome = true) →
          ∃ j e, s.Meters k j e ∧ s.seats[j].programme.isSome = true ∧ IsRate j e (s.rateOf k)))
  ∧ ∀ (s : State) (k : Fin 16) (r : Rules), s.SeatLaw → s.rules? k = some r →
      let u := s.checkProfile k
      let left := (r.allowances[s.clock.meterWeekday] + s.extra k + s.meters[k].drawn) * 6000 - s.meters[k].used
      let passed := fun e : Entry => ∃ m, e.state.pass? = some (.grant m)
        ∧ s.settings.groupOrder.idxOf .grant < s.settings.groupOrder.idxOf .time
      let here := fun (j : Fin 6) (e : Entry) =>
        decide (e.slot = k) && s.seats[j].state.debits && e.state.isClearOrLow
      let target := fun (j : Fin 6) (e : Entry) => here j e && s.timeConsulted e
      let clears := fun (j : Fin 6) (e : Entry) => if here j e then ⟨e.slot, .clear e.state.kept⟩ else e
      let some? := ∃ j : Fin 6, ∃ e ∈ s.seats[j].entries, target j e = true
      let possible := r.tier.isSome = true ∧ s.meters[k].draws < r.drawsPerDay
      let waits := ∀ j : Fin 6, u.seats[j].entries = s.seats[j].entries.map fun e =>
        if target j e then ⟨e.slot, .waiting e.state.kept⟩ else clears j e
      (∀ e : Entry, e.state.pass?.isSome = true → (s.timeConsulted e = false ↔ passed e))
      ∧ (s.isMetered k = false → u = s)
      ∧ (s.isMetered k = true → 0 < left → u.requests = s.requests ∧ u.meters = s.meters ∧ u.pool = s.pool
          ∧ ∀ j : Fin 6, u.seats[j].entries = s.seats[j].entries.map fun e =>
            if here j e then
              ⟨e.slot, if 0 < r.warning ∧ left ≤ r.warning * 6000 then .low e.state.kept else .clear e.state.kept⟩
            else e)
      ∧ (s.isMetered k = true → left = 0 → s.hasRequest k = true →
          u.requests = s.requests ∧ u.meters = s.meters ∧ u.pool = s.pool ∧ waits)
      ∧ (s.isMetered k = true → left = 0 → s.hasRequest k = false → possible → some? →
          u.requests = s.requests ++ [⟨k, r.tier.getD 0, s.clock.counter⟩] ∧ u.meters = s.meters ∧ u.pool = s.pool
          ∧ waits ∧ (s.pool.remaining = 0 → u.hasNotice .poolWaiting = true))
      ∧ (s.isMetered k = true → left = 0 → s.hasRequest k = false → ¬ possible → some? →
          WindsDownOrDenies s u k target clears)
      ∧ (s.isMetered k = true → left = 0 → ¬ some? → u.requests = s.requests ∧ u.meters = s.meters
          ∧ ∀ j : Fin 6, u.seats[j].entries = s.seats[j].entries.map (clears j))

/-- A WINDING entry whose end is reached becomes DENIED(TIME), and every other entry stays (R106); within a second
whose metering is still to be taken, the ends come with it, after its debits (R98). At the end of the commit
interval the count returns to 0 and the meter block is queued when the dirty flag is set (R115). How the two rows
share a second is the model's choice (assumptions 4 and 5). -/
def Obligations.WindDownsAndIntervalsEnd : Prop :=
  (∀ s : State, s.Awake → s.due.metering = true → exec .windDownEnd s = exec .meteringSecond s)
  ∧ (∀ s : State, s.Awake → s.due.metering = false → s.requests = [] →
      ∃ u : State, exec .windDownEnd s = .next u.drivePins ∧ SeatWork s u ∧ u.requests = [] ∧ u.meters = s.meters
        ∧ u.pool = s.pool
        ∧ ∀ j : Fin 6, u.seats[j].entries = s.seats[j].entries.map fun e =>
            match e.state with
            | .winding _ ends => if ends ≤ s.clock.counter then ⟨e.slot, .denied .time⟩ else e
            | _ => e)
  ∧ (∀ s : State, s.Awake → s.due.interval = true →
      let begun : State := { s with interval := 0, due := { s.due with interval := false } }
      (s.meterDirty = true → exec .commitIntervalEnd s = .next (begun.commit meterBlock).drivePins)
      ∧ (s.meterDirty = false → exec .commitIntervalEnd s = .next begun.drivePins))

/-! ## The family pool -/

/-- **topup** credits the least of the minutes asked, the room below 1440 and the room below 65535; T rises by it,
P and D together rise by it whatever is drawn at once, the answer counts the draws made at once, and the meter
block joins the commit queue; with no request waiting no draw is made and no entry changes; a credit of 0 changes
nothing, and minutes outside 1..600 are refused (R108, R120, R123, R124, R181). -/
def Obligations.TopupCreditsThePool : Prop :=
  ∀ (s : State) (x : Half), s.Handed (.topup (.fields x)) → s.authority.window.isSome = true →
    let i : Instr := .topup (.fields x)
    let c := min x.toNat (min (1440 - s.pool.remaining) (65535 - s.pool.sizeInForce - s.pool.toppedUp))
    (x.toNat < 1 ∨ 600 < x.toNat → exec i s = .next (s.replied i .badArgument []))
    ∧ (1 ≤ x.toNat → x.toNat ≤ 600 → c = 0 → exec i s = .next (s.replied i .ok
        (be2 0 ++ be2 s.pool.remaining ++ be1 0 ++ be1 s.requests.length)))
    ∧ (1 ≤ x.toNat → x.toNat ≤ 600 → 0 < c → ∃ t draws, exec i s = .next t
        ∧ t.Holds i .ok (be2 c ++ be2 t.pool.remaining ++ be1 draws ++ be1 t.requests.length)
        ∧ t.pool.sizeInForce = s.pool.sizeInForce ∧ t.pool.toppedUp = s.pool.toppedUp + c
        ∧ t.pool.remaining + t.pool.drawn = s.pool.remaining + s.pool.drawn + c
        ∧ (t.meters.toList.map (·.draws)).sum = (s.meters.toList.map (·.draws)).sum + draws
        ∧ t.store.queue = s.queueWith [meterBlock]
        ∧ CommandWork { s with store := { s.store with queue := t.store.queue } } t
        ∧ (s.requests = [] → draws = 0)
        ∧ Rejudges s { s with
            pool := { s.pool with remaining := s.pool.remaining + c, toppedUp := s.pool.toppedUp + c }
            meterDirty := true } t true fun _ _ => false)

/-- At the timeout check every request that has waited 60 seconds leaves the queue, its profile is handed the end of
the wait in queue order, and a grant opportunity follows when one left; the requests that have waited less stay in
their order, which is stated for a pool with no minutes left and requests whose profiles wait (R131); a check that
is not due does nothing. The end of a wait re-evaluates a profile with time left, and otherwise its WAITING entries
go to wind-down or to DENIED(TIME) (R105, R110). That the row does its work once for each second is the model's
choice (assumption 4). -/
def Obligations.WaitsTimeOut : Prop :=
  (∀ s : State, s.Awake →
    let late := fun r : Request => decide (r.arrival + 60 ≤ s.clock.counter)
    (s.due.timeout = true → ∃ u : State, exec .poolWaitTimeout s = .next u.drivePins
      ∧ SeatWork { s with due := { s.due with timeout := false } } u
      ∧ (∀ r ∈ u.requests, s.clock.counter < r.arrival + 60)
      ∧ (s.pool.remaining = 0 → (s.requests.map (·.slot)).Nodup → (∀ r ∈ s.requests, s.hasWaiting r.slot = true) →
          u.requests = s.requests.filter fun r => !late r)
      ∧ u = (((s.requests.filter late).foldl (fun (t : State) r => t.endOfWait r.slot)
          { s with
            requests := s.requests.filter fun r => !late r
            due := { s.due with timeout := false } }).settled s (s.requests.any late)))
    ∧ (s.due.timeout = false → exec .poolWaitTimeout s = .next s.drivePins))
  ∧ ∀ (s : State) (k : Fin 16),
      let waits := fun (_ : Fin 6) (e : Entry) => decide (e.slot = k) && e.state.isWaiting
      let waiting := ∃ j : Fin 6, ∃ e ∈ s.seats[j].entries, waits j e = true
      (¬ waiting → s.endOfWait k = s)
      ∧ (waiting → 0 < s.remaining k → JudgesAnew s (s.endOfWait k) k)
      ∧ (waiting → s.remaining k = 0 → WindsDownOrDenies s (s.endOfWait k) k waits fun _ e => e)

/-- A draw goes to the oldest request of the first tier of the order that has one, and moves the lesser of its
draw size and P from P to D and to the profile (R127, R129). A grant opportunity follows when an event offers one
or leaves the queue changed, ends only with P at 0 or an empty queue, and adds POOL_WAITING when it made a draw
and requests are left (R126, R128). A draw that leaves time re-evaluates the profile's entries (R108); one that
leaves none raises a new request while the pool is possible, and otherwise the WAITING entries go to wind-down or
to DENIED(TIME) (R105, R109). That an event which leaves the queue changed offers an opportunity is the model's
reading (assumption 15). -/
def Obligations.DrawsGoToTheRankedWinner : Prop :=
  (∀ (order : List Nat) (q : List Request) (r : Request), winner? order q = some r →
    ∃ ahead behind, order = ahead ++ r.tier :: behind ∧ (∀ x ∈ q, x.tier ∉ ahead)
      ∧ q.find? (fun x => x.tier = r.tier) = some r)
  ∧ (∀ (order : List Nat) (q : List Request), winner? order q = none → ∀ x ∈ q, x.tier ∉ order)
  ∧ (∀ s : State, (∀ t ≤ 3, t ∈ s.settings.tierOrder) → (∀ x ∈ s.requests, x.tier ≤ 3) →
      (∀ k r t, s.rules? k = some r → r.tier = some t → t ≤ 3) →
      let out := s.opportunity
      SeatWork s out.1 ∧ (out.1.pool.remaining = 0 ∨ out.1.requests = [])
      ∧ (out.1.meters.toList.map (·.draws)).sum = (s.meters.toList.map (·.draws)).sum + out.2
      ∧ (out.2 = 0 → out.1 = s)
      ∧ (0 < out.2 → out.1.requests ≠ [] → out.1.hasNotice .poolWaiting = true))
  ∧ (∀ (s before : State) (offered : Bool),
      let released : State := { s with requests := s.requests.filter fun r => s.hasWaiting r.slot }
      s.settleWaits before offered =
        if offered = true ∨ released.requests ≠ before.requests then released.opportunity else (released, 0))
  ∧ ∀ (s : State) (r : Request) (rules : Rules), s.rules? r.slot = some rules → 1 ≤ rules.drawSize →
      let g := min rules.drawSize s.pool.remaining
      (s.drawFor r).pool = ⟨s.pool.sizeInForce, s.pool.remaining - g, s.pool.drawn + g, s.pool.toppedUp⟩
      ∧ (s.drawFor r).meters[r.slot].drawn = s.meters[r.slot].drawn + g
      ∧ (s.drawFor r).meters[r.slot].draws = s.meters[r.slot].draws + 1
      ∧ (∀ k : Fin 16, (s.drawFor r).meters[k].used = s.meters[k].used)
      ∧ (let k := r.slot
         let m : Meter := { s.meters[k] with drawn := s.meters[k].drawn + g, draws := s.meters[k].draws + 1 }
         let credited : State := { s with
           requests := s.requests.filter fun x => x.slot ≠ k
           pool := ⟨s.pool.sizeInForce, s.pool.remaining - g, s.pool.drawn + g, s.pool.toppedUp⟩
           meters := s.meters.set k m, meterDirty := true }
         let left := (rules.allowances[s.clock.meterWeekday] + s.extra k + m.drawn) * 6000 - m.used
         let possible := rules.tier.isSome = true ∧ m.draws < rules.drawsPerDay
         let waits := fun (_ : Fin 6) (e : Entry) => decide (e.slot = k) && e.state.isWaiting
         (0 < left → JudgesAnew credited (s.drawFor r) k)
         ∧ (left = 0 → possible → (s.drawFor r).seats = s.seats
             ∧ (s.drawFor r).requests = credited.requests ++ [⟨k, rules.tier.getD 0, s.clock.counter⟩])
         ∧ (left = 0 → ¬ possible → WindsDownOrDenies credited (s.drawFor r) k waits fun _ e => e))

/-! ## Grants -/

/-- The grant that the fields of a **gadd** give, kind by kind, within the ranges of R137; a title permit and a
waiver only while the clock is SET, with an expiry after now and at most 7 days ahead (R139). -/
def Sys2Proof.Machine.GivesGrant (s : State) (a : GaddArgs) (b : GrantBody) : Prop :=
  let e : Moment := ⟨a.expiryDay.toNat, a.expiryMinute.toNat⟩
  let inTime := s.clock.isSet = true ∧ e.minute ≤ 1439 ∧ e.day ≤ s.clock.day + 7
    ∧ (s.clock.day < e.day ∨ (s.clock.day = e.day ∧ s.clock.second / 60 < e.minute))
  (a.kind = 1 ∧ a.content ≠ 0 ∧ a.metered.toNat ≤ 1 ∧ inTime ∧ b = .titlePermit a.content (a.metered = 1) e)
    ∨ (a.kind = 2 ∧ 1 ≤ a.minutes.toNat ∧ a.minutes.toNat ≤ 720
        ∧ b = .extraTime a.minutes.toNat s.clock.meterDay)
    ∨ (a.kind = 3 ∧ inTime ∧ b = .windowWaiver e)

/-- **gadd** creates a grant in the lowest free entry, or changes the entry of the same profile, kind and content
id in place, where extra time adds up to 720 minutes and a permit or waiver takes the new fields; the block joins
the commit queue, and the profile's entries are re-evaluated under the new table (R142, R181). Under an OPEN
window it is refused in the order of R139: BAD_ARGUMENT for a slot, a kind or a field of that kind out of range,
NO_SUCH for a profile without judged fields, STATE for an expiry while the clock is UNSET, BAD_ARGUMENT for an
expiry that is not after now or more than 7 days ahead, and FULL with no entry to change and none free (R138 to
R142). Re-evaluated entries are stated for an event at which no request waits and none is asked for (R80). The
created mark and the count with a guardian's entries are the model's readings (assumptions 10 and 16). -/
def Obligations.GaddPutsTheGrant : Prop :=
  (∀ (s : State) (a : GaddArgs), s.Handed (.gadd (.fields a)) → s.authority.window.isSome = true →
    let i : Instr := .gadd (.fields a)
    let day := a.expiryDay.toNat
    let minute := a.expiryMinute.toNat
    let bad := 15 < a.slot.toNat ∨ a.kind = 0 ∨ 3 < a.kind.toNat
      ∨ (a.kind = 1 ∧ (a.content = 0 ∨ 1 < a.metered.toNat ∨ 1439 < minute))
      ∨ (a.kind = 2 ∧ (a.minutes.toNat < 1 ∨ 720 < a.minutes.toNat)) ∨ (a.kind = 3 ∧ 1439 < minute)
    let late := day < s.clock.day ∨ (day = s.clock.day ∧ minute ≤ s.clock.second / 60) ∨ s.clock.day + 7 < day
    (bad → exec i s = .next (s.replied i .badArgument []))
    ∧ ∀ k : Fin 16, ¬ bad → a.slot.toNat = k.val →
      (s.rules? k = none → exec i s = .next (s.replied i .noSuch []))
      ∧ ((s.rules? k).isSome = true → a.kind ≠ 2 → s.clock.isSet = false →
          exec i s = .next (s.replied i .state []))
      ∧ ((s.rules? k).isSome = true → a.kind ≠ 2 → s.clock.isSet = true → late →
          exec i s = .next (s.replied i .badArgument [])))
  ∧ ∀ (s : State) (a : GaddArgs) (k : Fin 16) (b : GrantBody), s.Handed (.gadd (.fields a)) →
    s.authority.window.isSome = true → a.slot.toNat = k.val → (s.rules? k).isSome = true →
    GivesGrant s a b →
    let i : Instr := .gadd (.fields a)
    let none? := ∀ (e : Fin 16), ∀ g ∈ s.grants[e], ¬ (g.slot = k ∧ g.body.sameKey b = true)
    let put := fun (t : State) (e : Fin 16) (x : GrantBody) =>
      let y : State := { s with
        grants := s.grants.set e (some ⟨k, x⟩), store := { s.store with queue := s.queueWith [grantBlock] } }
      t.grants = s.grants.set e (some ⟨k, x⟩) ∧ t.store.queue = s.queueWith [grantBlock]
      ∧ CommandWork y t ∧ Rejudges s y t true fun _ e => decide (e.slot = k)
    (∀ e : Fin 16, none? → s.grants[e] = none → (∀ e' < e, s.grants[e'].isSome = true) →
      ∃ t, exec i s = .next t ∧ put t e b
        ∧ t.Holds i .ok (be1 e.val ++ flagByte true ++ be1 (s.countEntries (ofProfile k))
            ++ b.replyFields b.minutes))
    ∧ (none? → (∀ e : Fin 16, s.grants[e].isSome = true) → exec i s = .next (s.replied i .full []))
    ∧ (∀ (e : Fin 16) (m d : Nat), s.grants[e] = some ⟨k, .extraTime m d⟩ → b.isExtra = true →
        (∀ e' < e, ∀ g ∈ s.grants[e'], ¬ (g.slot = k ∧ g.body.sameKey b = true)) →
        (m < 720 → ∃ t, exec i s = .next t ∧ put t e (.extraTime (min 720 (m + b.minutes)) d)
          ∧ t.Holds i .ok (be1 e.val ++ flagByte false ++ be1 (s.countEntries (ofProfile k))
              ++ be2 (min 720 (m + b.minutes) - m) ++ be2 (min 720 (m + b.minutes))))
        ∧ (m = 720 → exec i s = .next (s.replied i .ok
            (be1 e.val ++ flagByte false ++ be1 0 ++ be2 0 ++ be2 720))))
    ∧ (∀ (e : Fin 16) (g : Grant), s.grants[e] = some g → g.slot = k → g.body.sameKey b = true →
        b.isExtra = false →
        (∀ e' < e, ∀ g ∈ s.grants[e'], ¬ (g.slot = k ∧ g.body.sameKey b = true)) →
        ∃ t, exec i s = .next t ∧ put t e b
          ∧ t.Holds i .ok (be1 e.val ++ flagByte false ++ be1 (s.countEntries (ofProfile k))
              ++ b.replyFields 0))

/-- **grevoke** frees a live entry, its block joins the commit queue, and every other grant stays; where the
profile's remaining time falls to 0 with the grant, its exhaustion event comes first, and then its entries are
re-evaluated under the new table (R102, R143, R144, R181). A free entry is refused NO_SUCH and an entry above 15
BAD_ARGUMENT (R143). Re-evaluated entries are stated for an event at which no request waits and none is asked for
(R80). -/
def Obligations.GrevokeRetiresTheGrant : Prop :=
  ∀ (s : State) (b : Byte), s.Handed (.grevoke (.fields b)) → s.authority.window.isSome = true →
    let i : Instr := .grevoke (.fields b)
    (15 < b.toNat → exec i s = .next (s.replied i .badArgument []))
    ∧ ∀ e : Fin 16, b.toNat = e.val →
      (s.grants[e] = none → exec i s = .next (s.replied i .noSuch []))
      ∧ ∀ g, s.grants[e] = some g → ∃ t, exec i s = .next t
        ∧ t.Holds i .ok (be1 g.slot.val ++ be1 g.body.code ++ be1 (s.countEntries (ofProfile g.slot)))
        ∧ t.grants = s.grants.set e none ∧ t.store.queue = s.queueWith [grantBlock]
        ∧ (∀ k : Fin 16, t.meters[k].used = s.meters[k].used)
        ∧ (let x : State := { s with
             grants := s.grants.set e none, store := { s.store with queue := s.queueWith [grantBlock] } }
           CommandWork x t
            ∧ ∃ mid, TimeFell s x mid g.slot ∧ Rejudges s mid t true fun _ e => decide (e.slot = g.slot))

/-- GRANT_EXPIRY retires exactly the title permits and waivers whose expiry is at or before the (day index,
minute) that the minute boundary handed over, whatever the clock shows by then, and does nothing when none was; it
queues its block and re-evaluates the profiles that lost one when there is one (R146, R181), and the seat table
re-evaluates every entry of every seat with a programme, a GUARDIAN to EXEMPT and a CHILD or GUEST to its verdict
(R57, R58, R157). An entry whose evaluation asks for a request raises it, unless one is pending (R80).
Re-evaluations at an expiry are stated where no request waits and none is asked for. The last clause is for a
boundary that raises no pool request and at which no part of a midnight's rollover is outstanding. That a row does
its work once for each second is the model's choice (assumption 4). -/
def Obligations.BoundariesExpireAndJudge : Prop :=
  (∀ (s : State) (now : Moment), s.Awake → s.due.expiry = some now →
    let gone := fun g : Grant => g.body.expiry?.any fun e =>
      decide (e.day < now.day ∨ (e.day = now.day ∧ e.minute ≤ now.minute))
    ∃ u : State, exec .grantExpiry s = .next u.drivePins
      ∧ (∀ i : Fin 16, u.grants[i] = s.grants[i].filter fun g => !gone g)
      ∧ u.store.queue = (if s.grants.toList.any fun g => g.any gone then s.queueWith [grantBlock] else s.store.queue)
      ∧ (let x : State := { s with
           due := { s.due with expiry := none }, grants := u.grants
           store := { s.store with queue := u.store.queue } }
         SeatWork x u ∧ Rejudges s x u true fun _ e =>
          s.grants.toList.any fun g => g.any fun g => decide (g.slot = e.slot) && gone g))
  ∧ (∀ s : State, s.Awake → s.due.expiry = none → exec .grantExpiry s = .next s.drivePins)
  ∧ (∀ s : State, s.Awake → s.due.minute = false → s.due.rollover = [] →
      exec .minuteBoundary s = .next s.drivePins)
  ∧ (∀ (s : State) (p : Programme) (g : Bool) (e : Entry) (r : Rules), s.rules? e.slot = some r →
      let v := s.evaluate e.slot r p g e.state.windEnd?
      (s.judge p g true e).2 = ⟨e.slot, v.state⟩
      ∧ (s.judge p g true e).1.requests = (if v.asks = true ∧ s.hasRequest e.slot = false then
          s.requests ++ [⟨e.slot, r.tier.getD 0, s.clock.counter⟩] else s.requests))
  ∧ ∀ s : State, s.Awake → s.due.minute = true → s.due.rollover = [] → s.requests = [] →
      let verdict := fun (j : Fin 6) (p : Programme) (e : Entry) (r : Rules) =>
        s.evaluate e.slot r p s.seats[j].guardianPresent e.state.windEnd?
      (∀ (j : Fin 6) (p : Programme), s.seats[j].programme = some p → ∀ e ∈ s.seats[j].entries, ∀ r,
        s.rules? e.slot = some r → (verdict j p e r).asks = false) →
      ∃ u : State, exec .minuteBoundary s = .next u.drivePins
        ∧ SeatWork { s with due := { s.due with minute := false } } u ∧ u.meters = s.meters
        ∧ ∀ j : Fin 6,
          (s.seats[j].programme = none → u.seats[j] = s.seats[j])
          ∧ ∀ p, s.seats[j].programme = some p → u.seats[j].programme = some p
            ∧ u.seats[j].entries = s.seats[j].entries.map fun e =>
                if s.kind? e.slot = some .guardian then ⟨e.slot, .exempt⟩
                else match s.rules? e.slot with
                  | some r => ⟨e.slot, (verdict j p e r).state⟩
                  | none => e

/-! ## Reads of the pool, the grants, the settings and the store -/

/-- **pool**, **gread**, **hread** and **store** report their blocks as they stand and change nothing (R136, R145,
R178, R186). The payload layouts are the model's reading of 11.6 (assumption 10), and the byte of the warning
level is free (assumption 14). -/
def Obligations.BlockReadsAnswer : Prop :=
  (∀ s : State, s.Handed (.pool (.fields ())) →
    exec (.pool (.fields ())) s = .next (s.replied (.pool (.fields ())) .ok
      (be2 s.settings.poolSize ++ be2 s.pool.sizeInForce ++ be2 s.pool.remaining ++ be2 s.pool.drawn
        ++ be2 s.pool.toppedUp ++ s.settings.tierOrder.flatMap be1 ++ be4 s.clock.counter
        ++ be1 s.requests.length ++ s.requests.flatMap fun r =>
          be1 r.slot.val ++ be1 r.tier ++ be4 r.arrival ++ be2 (s.clock.counter - r.arrival))))
  ∧ (∀ (s : State) (b : Byte), s.Handed (.gread (.fields b)) →
    let i : Instr := .gread (.fields b)
    let found := (List.finRange 16).filter fun e =>
      s.grants[e].any fun g => b = 0xFF || g.slot.val = b.toNat
    (15 < b.toNat → b ≠ 0xFF → exec i s = .next (s.replied i .badArgument []))
    ∧ (b.toNat ≤ 15 ∨ b = 0xFF → exec i s = .next (s.replied i .ok
        (flagByte s.clock.isSet ++ be2 (if s.clock.isSet then s.clock.day else 0)
          ++ be2 (if s.clock.isSet then s.clock.second / 60 else 0) ++ be2 s.clock.meterDay
          ++ be1 found.length ++ found.flatMap s.grantPayload))))
  ∧ (∀ s : State, s.Handed (.hread (.fields ())) →
    exec (.hread (.fields ())) s = .next (s.replied (.hread (.fields ())) .ok
      (flagByte s.settings.pin.isSome ++ s.settings.groupOrder.flatMap (fun g => be1 g.code)
        ++ s.settings.tierOrder.flatMap be1 ++ be2 s.settings.poolSize ++ be2 s.settings.windowLength
        ++ s.countdownPayload s.authority.window ++ be1 s.authority.failures
        ++ s.countdownPayload s.authority.lockout ++ be4 s.clock.counter ++ flagByte s.edit.isSome)))
  ∧ ∀ s : State, s.Handed (.store (.fields ())) →
      exec (.store (.fields ())) s = .next (s.replied (.store (.fields ())) .ok
        (s.store.status.toList.flatMap (fun v => be1 v.code) ++ be1 s.store.queue.length
          ++ s.store.queue.flatMap (fun q => be1 q.block.val ++ flagByte q.urgent)
          ++ runningPayload s.store.running ++ suspendedPayload s.store.suspended
          ++ flagByte s.store.faultLatch ++ [Config.warningLevelCode s.supply.straps]
          ++ flagByte s.supply.low))

/-! ## The day clock -/

/-- **clkset** installs the time and makes the clock SET, without touching the second counter; the permits and
waivers it reaches are retired; a day index above the meter day makes one rollover, which installs the meter day,
clears the meters, starts the pool anew, retires the extra time of earlier meter days and adds ROLLOVER, in
whatever order the blocks take their parts; without a rollover every entry is re-evaluated under the new time,
which is stated where no grant is reached, no request waits and none is asked for (R112, R133, R147, R149, R159,
R160, R161). That the parts come within the command is the model's choice (assumption 6). -/
def Obligations.ClksetInstallsTheTime : Prop :=
  ∀ (s : State) (a : ClksetArgs), s.Handed (.clkset (.fields a)) →
    let i : Instr := .clkset (.fields a)
    (86399 < a.second.toNat ∨ 6 < a.weekday.toNat → exec i s = .next (s.replied i .badArgument []))
    ∧ ∀ w : Fin 7, a.second.toNat ≤ 86399 → a.weekday.toNat = w.val →
      let rolls := decide (s.clock.meterDay < a.day.toNat)
      let past := fun g : Grant => match g.body with
        | .extraTime _ day => decide (day ≠ a.day.toNat)
        | _ => false
      let gone := fun g : Grant => (rolls && past g) || g.body.expiry?.any fun e =>
        decide (e.day < a.day.toNat ∨ (e.day = a.day.toNat ∧ e.minute ≤ a.second.toNat / 60))
      ∃ t, exec i s = .next t
        ∧ t.clock = { counter := s.clock.counter, isSet := true, day := a.day.toNat, second := a.second.toNat,
                      weekday := w, meterDay := if rolls then a.day.toNat else s.clock.meterDay,
                      meterWeekday := if rolls then w else s.clock.meterWeekday }
        ∧ (∀ e : Fin 16, t.grants[e] = s.grants[e].filter fun g => !gone g)
        ∧ (rolls = true → t.hasNotice .rollover = true ∧ t.queued meterBlock = true
            ∧ (∀ k : Fin 16, t.meters[k].used = 0 ∧ t.meters[k].residue = 0)
            ∧ t.pool.sizeInForce = s.settings.poolSize ∧ t.pool.toppedUp = 0
            ∧ t.pool.remaining + t.pool.drawn = s.settings.poolSize)
        ∧ (rolls = false → t.pool.toppedUp = s.pool.toppedUp
            ∧ ∀ k : Fin 16, t.meters[k].used = s.meters[k].used)
        ∧ (rolls = false → (∀ e : Fin 16, s.grants[e].any gone = false) →
            t.store = s.store ∧ Rejudges s { s with clock := t.clock } t true fun _ _ => true)
        ∧ (rolls = false → t.store.queue =
            if s.grants.toList.any fun g => g.any gone then s.queueWith [grantBlock] else s.store.queue)
        ∧ t.Holds i .ok (flagByte s.clock.isSet ++ be2 a.day.toNat ++ be4 a.second.toNat ++ be1 w.val
            ++ flagByte rolls ++ be2 t.clock.meterDay ++ be1 t.clock.meterWeekday.val
            ++ be1 (s.liveGrants - t.liveGrants))
        ∧ t.slots = s.slots ∧ t.schemes = s.schemes ∧ t.settings = s.settings ∧ t.authority = s.authority
        ∧ t.edit = s.edit ∧ t.due = s.due ∧ (∀ j, t.viewers j = s.viewers j)

/-- R163: **clkread** answers the clock, all 0 while it is UNSET, and changes nothing; while the link is LOADING it
is answered STARTING. -/
def Obligations.ClkreadAnswersTheClock : Prop :=
  ∀ s : State,
    let c := s.clock
    let i : Instr := .clkread (.fields ())
    (s.Handed i → c.isSet = true → exec i s = .next (s.replied i .ok
      (be1 1 ++ be2 c.day ++ be4 c.second ++ be2 (c.second / 60) ++ be1 c.weekday.val ++ be2 c.meterDay
        ++ be1 c.meterWeekday.val ++ be4 c.counter ++ flagByte (c.counter = 4294967295))))
    ∧ (s.Handed i → c.isSet = false → exec i s = .next (s.replied i .ok
      (be1 0 ++ be2 0 ++ be4 0 ++ be2 0 ++ be1 0 ++ be2 c.meterDay ++ be1 c.meterWeekday.val
        ++ be4 c.counter ++ flagByte (c.counter = 4294967295))))
    ∧ (s.Awake → s.link.state = .loading → ∃ t, exec i s = .next t
        ∧ t.link.buffer = some ⟨.starting, 0x71, []⟩ ∧ t.notices = s.notices)

/-- A second event that brings no rollover: the counter rises and holds at its largest value, the SET wall clock
advances with the midnight and the hold of R156, the countdowns fall, the commit interval count rises, and each
block's own event of the second is handed over, a minute boundary with its (day index, minute) (R115, R154, R155,
R156, R157, R169, R171). A countdown's last second and the 300th second of the interval are left to their own rows
(assumption 4). -/
def Obligations.SecondEventAdvances : Prop :=
  ∀ s : State, s.Awake → s.due = Due.none →
    (s.clock.isSet = true → s.clock.second = 86399 → s.clock.day < 65535 →
      s.clock.day + 1 ≤ s.clock.meterDay) →
    ∃ u : State, exec .secondEvent s = .next u.drivePins
      ∧ u = { s with clock := u.clock, authority := u.authority, interval := u.interval, due := u.due }
      ∧ u.clock.counter = min (s.clock.counter + 1) 4294967295
      ∧ u.clock.isSet = s.clock.isSet ∧ u.clock.meterDay = s.clock.meterDay
      ∧ u.clock.meterWeekday = s.clock.meterWeekday
      ∧ (s.clock.isSet = false →
          u.clock.day = s.clock.day ∧ u.clock.second = s.clock.second ∧ u.clock.weekday = s.clock.weekday)
      ∧ (s.clock.isSet = true → s.clock.second < 86399 →
          u.clock.day = s.clock.day ∧ u.clock.second = s.clock.second + 1 ∧ u.clock.weekday = s.clock.weekday)
      ∧ (s.clock.isSet = true → s.clock.second = 86399 → s.clock.day < 65535 →
          u.clock.day = s.clock.day + 1 ∧ u.clock.second = 0 ∧ u.clock.weekday = s.clock.weekday + 1)
      ∧ (s.clock.isSet = true → s.clock.second = 86399 → s.clock.day = 65535 →
          u.clock.day = 65535 ∧ u.clock.second = 0 ∧ u.clock.weekday = s.clock.weekday)
      ∧ (u.due.minute = true ↔ s.clock.isSet = true ∧ u.clock.second % 60 = 0)
      ∧ u.due.expiry = (if u.due.minute then some ⟨u.clock.day, u.clock.second / 60⟩ else none)
      ∧ u.due.metering = true ∧ u.due.timeout = true
      ∧ (s.interval < 299 → u.interval = s.interval + 1 ∧ u.due.interval = false)
      ∧ (s.interval = 299 → u.due.interval = true)
      ∧ u.authority.failures = s.authority.failures
      ∧ (∀ n, s.authority.window = some (n + 2) → u.authority.window = some (n + 1) ∧ u.due.window = false)
      ∧ (s.authority.window = some 1 → u.due.window = true)
      ∧ (∀ n, s.authority.lockout = some (n + 2) →
          u.authority.lockout = some (n + 1) ∧ u.due.lockout = false)
      ∧ (s.authority.lockout = some 1 → u.due.lockout = true)

/-- A midnight at which the day index passes the meter day rolls the day over: the meter day and weekday are
installed, the dirty flag is set, ROLLOVER is added, and the parts of R159 are handed over; the meters are
cleared, the pool starts anew and the extra time of the day left ends as each part is taken, within the second or
after it; extra time made on the new meter day stays (R112, R133, R148, R149, R156, R159, R162). A midnight at
which nobody watches, no request waits and no extra time is live takes the meters' and the pool's parts at once. A
MINUTE_BOUNDARY takes at least one of what is outstanding, and the next second the rest. How many parts a row
takes, and in what order, is the model's free choice (assumption 6). -/
def Obligations.MidnightRollsTheDayOver : Prop :=
  (∀ s : State, s.Awake → s.due = Due.none → s.clock.isSet = true → s.clock.second = 86399 →
    s.clock.day < 65535 → s.clock.meterDay ≤ s.clock.day → s.requests = [] →
    (∀ j : Fin 6, s.seats[j].programme = none ∨ s.seats[j].entries = []) →
    (∀ i : Fin 16, ∀ g ∈ s.grants[i], g.body.isExtra = false
      ∧ ∀ e ∈ g.body.expiry?, s.clock.day + 1 < e.day ∨ (s.clock.day + 1 = e.day ∧ 0 < e.minute)) →
    ∃ u : State, exec .secondEvent s = .next u.drivePins
      ∧ u.clock = { counter := min (s.clock.counter + 1) 4294967295, isSet := true, day := s.clock.day + 1,
                    second := 0, weekday := s.clock.weekday + 1, meterDay := s.clock.day + 1,
                    meterWeekday := s.clock.weekday + 1 }
      ∧ u.meters = Vector.replicate 16 Meter.cleared ∧ u.meterDirty = true
      ∧ u.pool = ⟨s.settings.poolSize, s.settings.poolSize, 0, 0⟩
      ∧ u.requests = [] ∧ u.grants = s.grants ∧ u.hasNotice .rollover = true ∧ u.queued meterBlock = true
      ∧ u.slots = s.slots ∧ u.settings = s.settings)
  ∧ (∀ s : State, s.Awake → s.due = Due.none → s.clock.isSet = true → s.clock.second = 86399 →
    s.clock.day < 65535 → s.clock.meterDay ≤ s.clock.day →
    ∃ u : State, exec .secondEvent s = .next u.drivePins
      ∧ u.clock = { counter := min (s.clock.counter + 1) 4294967295, isSet := true, day := s.clock.day + 1,
                    second := 0, weekday := s.clock.weekday + 1, meterDay := s.clock.day + 1,
                    meterWeekday := s.clock.weekday + 1 }
      ∧ u.meterDirty = true ∧ u.hasNotice .rollover = true ∧ u.due.minute = true ∧ u.due.metering = true
      ∧ u.due.expiry = some ⟨s.clock.day + 1, 0⟩
      ∧ PartsTaken s u [.meters, .pool, .grants, .seats]
      ∧ (∀ j : Fin 6, u.viewers j = s.viewers j ∧ u.seats[j].programme = s.seats[j].programme)
      ∧ u = { s with clock := u.clock, authority := u.authority, interval := u.interval, due := u.due
                     seats := u.seats, requests := u.requests, notices := u.notices, meters := u.meters
                     meterDirty := true, pool := u.pool, grants := u.grants, freeCount := u.freeCount
                     store := { s.store with queue := u.store.queue } })
  ∧ (∀ s : State, s.Awake → s.due.rollover ≠ [] →
    ∃ u : State, exec .minuteBoundary s = .next u.drivePins
      ∧ PartsTaken s u s.due.rollover
      ∧ (u.due.rollover.length < s.due.rollover.length ∨ (s.due.minute = true ∧ u.due.minute = false))
      ∧ (∀ j : Fin 6, u.viewers j = s.viewers j ∧ u.seats[j].programme = s.seats[j].programme)
      ∧ u = { s with due := { s.due with minute := u.due.minute, rollover := u.due.rollover }
                     seats := u.seats, requests := u.requests, notices := u.notices, meters := u.meters
                     meterDirty := u.meterDirty, pool := u.pool, grants := u.grants, freeCount := u.freeCount
                     store := { s.store with queue := u.store.queue } })
  ∧ ∀ s : State, s.Awake →
      (s.clock.isSet = true → s.clock.second = 86399 → s.clock.day < 65535 → s.clock.day + 1 ≤ s.clock.meterDay) →
      ∃ u : State, exec .secondEvent s = .next u.drivePins ∧ u.due.rollover = []
        ∧ (.pool ∈ s.due.rollover → u.pool.sizeInForce = s.settings.poolSize ∧ u.pool.toppedUp = 0)
        ∧ (.grants ∈ s.due.rollover → ∀ (i k : Fin 16) (m day : Nat),
            u.grants[i] = some ⟨k, .extraTime m day⟩ → day = s.clock.meterDay)

/-! ## The guardian unit -/

/-- **pin** in the order of R167: a malformed sequence is refused and not counted; under a lockout every sequence
is refused LOCKED_OUT with the seconds left; a right one, or any while the PIN is UNSET, opens or restarts the
window for the length in force and clears f; a wrong one under an OPEN window is refused and not counted, and
under a CLOSED one raises f, up to 255, and from the third failure on begins a lockout of 60 doubled each time up
to 3840 seconds (R167, R168, R169, R171). An absent lockout is sent as an absent optional field (assumption 10). -/
def Obligations.PinOutcomes : Prop :=
  ∀ (s : State) (a : PinArgs), s.Handed (.pin (.fields a)) →
    let i : Instr := .pin (.fields a)
    let digits := (a.digits.take a.count.toNat).map (·.toNat)
    let formed := a.count.toNat ≤ 8 ∧ 4 ≤ a.count.toNat ∧ a.digits.length = 8 ∧ ∀ d ∈ digits, d ≤ 9
    let right := s.settings.pin = none ∨ s.settings.pin = some digits
    let len := s.settings.windowLength
    ((a.count.toNat < 4 ∨ 8 < a.count.toNat ∨ ∃ d ∈ digits, 9 < d) →
      exec i s = .next (s.replied i .badArgument []))
    ∧ (formed → ∀ left, s.authority.lockout = some left →
        exec i s = .next (s.replied i .lockedOut (be2 left)))
    ∧ (formed → s.authority.lockout = none → right →
        exec i s = .next (State.replied { s with
            authority := ⟨some len, 0, none⟩, due := { s.due with window := false } } i .ok
          (be2 len ++ be4 (min (s.clock.counter + len) 4294967295) ++ flagByte s.settings.pin.isNone)))
    ∧ (formed → s.authority.lockout = none → ¬ right → s.authority.window.isSome = true →
        exec i s = .next (s.replied i .wrongPin (be1 s.authority.failures ++ be1 0 ++ be2 0)))
    ∧ (formed → s.authority.lockout = none → ¬ right → s.authority.window = none →
        let f := min (s.authority.failures + 1) 255
        let length := 60 * 2 ^ min (f - 3) 6
        exec i s = .next (State.replied { s with
            authority := ⟨none, f, if f < 3 then none else some length⟩ } i .wrongPin
          (be1 f ++ if f < 3 then be1 0 ++ be2 0 else be1 1 ++ be2 length)))

/-- **repin** replaces the PIN or makes it UNSET, queues the household block, and leaves the window, the buffer and
f (R175). **close** ends an OPEN window with its edit buffer and adds GUARDIAN_CLOSED, and changes nothing when
the window is CLOSED (R172). -/
def Obligations.RepinAndClose : Prop :=
  (∀ (s : State) (a : PinArgs), s.Handed (.repin (.fields a)) → s.authority.window.isSome = true →
    a.digits.length = 8 →
    let i : Instr := .repin (.fields a)
    let digits := (a.digits.take a.count.toNat).map (·.toNat)
    let set := fun p => State.commit { s with settings := { s.settings with pin := p } } householdBlock
    (a.count = 0 → exec i s = .next ((set none).replied i .ok (flagByte true)))
    ∧ (4 ≤ a.count.toNat → a.count.toNat ≤ 8 → (∀ d ∈ digits, d ≤ 9) →
        exec i s = .next ((set (some digits)).replied i .ok (flagByte false)))
    ∧ (a.count ≠ 0 → a.count.toNat < 4 ∨ 8 < a.count.toNat ∨ (∃ d ∈ digits, 9 < d) →
        exec i s = .next (s.replied i .badArgument [])))
  ∧ ∀ s : State, s.Handed (.close (.fields ())) →
      let i : Instr := .close (.fields ())
      (s.authority.window = none → exec i s = .next (s.replied i .ok (flagByte false ++ flagByte false)))
      ∧ (s.authority.window.isSome = true → exec i s = .next (State.replied { s with
            authority := { s.authority with window := none }, edit := none
            due := { s.due with window := false }, notices := s.notices ||| 0x2000 } i .ok
          (flagByte true ++ flagByte s.edit.isSome)))

/-- **hset** writes every present setting at once, the window length clamped to 60..900, and answers the four
settings with a mark for each that changed; a present order that does not name each group or tier once, a pool day
size above 600 or a bit of 4..7 in the mask is refused and changes no setting; an **hset** that changes nothing
queues no commit, and one that changes the group order re-evaluates every entry (R176, R177, R181). Re-evaluated
entries are stated for an event at which no request waits and none is asked for (R80). The payload layout is the
model's reading of 11.6 (assumption 10), and so is the count with a guardian's entries (assumption 16). -/
def Obligations.HsetWritesTheSettings : Prop :=
  ∀ (s : State) (a : HsetArgs), s.Handed (.hset (.fields a)) → s.authority.window.isSome = true →
    let i : Instr := .hset (.fields a)
    let old := s.settings
    let n := a.windowLength.toNat
    let bad := a.mask &&& 0xF0 ≠ 0 ∨ (a.mask.getLsbD 0 = true ∧ groupOrder? a.groups = none)
      ∨ (a.mask.getLsbD 1 = true ∧ tierOrder? a.tiers = none)
      ∨ (a.mask.getLsbD 2 = true ∧ 600 < a.poolSize.toNat)
    (bad → exec i s = .next (s.replied i .badArgument []))
    ∧ (¬ bad → ∃ t, exec i s = .next t
        ∧ t.settings.pin = old.pin
        ∧ (if a.mask.getLsbD 0 then groupOrder? a.groups = some t.settings.groupOrder
            else t.settings.groupOrder = old.groupOrder)
        ∧ (if a.mask.getLsbD 1 then tierOrder? a.tiers = some t.settings.tierOrder
            else t.settings.tierOrder = old.tierOrder)
        ∧ t.settings.poolSize = (if a.mask.getLsbD 2 then a.poolSize.toNat else old.poolSize)
        ∧ t.settings.windowLength = (if a.mask.getLsbD 3 then max 60 (min n 900) else old.windowLength)
        ∧ t.store.queue = (if t.settings = old then s.store.queue else s.queueWith [householdBlock])
        ∧ (t.settings = old → t = s.replied i .ok (t.link.buffer.elim [] (·.payload)))
        ∧ t.Holds i .ok (t.settings.groupOrder.flatMap (fun g => be1 g.code)
            ++ t.settings.tierOrder.flatMap be1 ++ be2 t.settings.poolSize ++ be2 t.settings.windowLength
            ++ flagByte (t.settings.groupOrder ≠ old.groupOrder)
            ++ flagByte (t.settings.tierOrder ≠ old.tierOrder)
            ++ flagByte (t.settings.poolSize ≠ old.poolSize)
            ++ flagByte (t.settings.windowLength ≠ old.windowLength)
            ++ flagByte (a.mask.getLsbD 3 && decide (n < 60 ∨ 900 < n))
            ++ be1 (if t.settings.groupOrder = old.groupOrder then 0 else s.countEntries everyEntry))
        ∧ CommandWork { s with
            settings := t.settings, store := { s.store with queue := t.store.queue } } t
        ∧ (t.settings.groupOrder = old.groupOrder → t.seats = s.seats ∧ t.requests = s.requests
            ∧ t.notices = s.notices ∧ t.meters = s.meters ∧ t.pool = s.pool)
        ∧ (t.settings.groupOrder ≠ old.groupOrder →
            Rejudges s { s with settings := t.settings } t true fun _ _ => true))

/-- The window's expiry closes it, discards the edit buffer and adds GUARDIAN_CLOSED; a lockout's end leaves f; a
countdown that is not at its end is untouched (R34, R169, R171, R172). That a row does its work at its countdown's
end alone is the model's choice (assumption 4). -/
def Obligations.CountdownsEnd : Prop :=
  ∀ s : State, s.Awake →
    (s.due.window = true → s.authority.window.isSome = true →
      exec .windowExpiry s = .next (State.drivePins { s with
        authority := { s.authority with window := none }, edit := none
        due := { s.due with window := false }, notices := s.notices ||| 0x2000 }))
    ∧ (s.due.window = false → exec .windowExpiry s = .next s.drivePins)
    ∧ (s.due.lockout = true → exec .lockoutEnd s = .next (State.drivePins { s with
        authority := { s.authority with lockout := none }, due := { s.due with lockout := false } }))
    ∧ (s.due.lockout = false → exec .lockoutEnd s = .next s.drivePins)

/-! ## The store -/

/-- With no write running and the link not LOADING, an urgent head begins first, then a suspended write resumes
with the image it holds (or erases anew with a fresh one after a dip), and otherwise the head of the queue begins
at attempt 1 in ERASE with the image of the working copy, off the queue; a meter write clears the meter dirty flag
(R182, R183, R188, R191). An image is the contents with their CRC-16, of generator polynomial x^16 + x^12 + x^5 +
1 and initial value 0xFFFF over the contents in stored order (R179), whose layout is free; that it takes the bits
of a byte from the most significant and is not inverted at the end is the model's reading (assumption 8). That the
block is erased from the moment its write begins, so that the earlier contents do not come back, is the model's
choice of R192 over R12, R38, R116, R151 and R166 (assumption 21). That BLOCK_WRITE_BEGIN is the row at which a
write begins is the model's choice (assumption 7). -/
def Obligations.WritesBeginInOrder : Prop :=
  (∀ s : State, s.Awake →
    (s.store.running.isSome = true ∨ s.link.state = .loading → exec .blockWriteBegin s = .next s.drivePins)
    ∧ (s.store.running = none → s.link.state ≠ .loading → ∀ item rest, s.store.queue = item :: rest →
        (item.urgent = true ∨ s.store.suspended = none) →
        exec .blockWriteBegin s = .next (State.drivePins { s with
          meterDirty := s.meterDirty && decide (item.block ≠ meterBlock)
          store := { s.store with
            queue := rest
            running := some ⟨item.block, .erase, 1, s.imageOf item.block, s.store.blocks[item.block].contents⟩
            blocks := s.store.blocks.set item.block
              { s.store.blocks[item.block] with contents := .erased } } }))
    ∧ (s.store.running = none → s.link.state ≠ .loading →
        (∀ item rest, s.store.queue = item :: rest → item.urgent = false) →
        ∀ w, s.store.suspended = some w →
          (w.fresh = false → exec .blockWriteBegin s = .next (State.drivePins { s with
            store := { s.store with suspended := none, running := some w.write } }))
          ∧ (w.fresh = true → exec .blockWriteBegin s = .next (State.drivePins { s with
            meterDirty := s.meterDirty && decide (w.write.block ≠ meterBlock)
            store := { s.store with
              suspended := none
              running := some { w.write with phase := .erase, image := s.imageOf w.write.block }
              blocks := s.store.blocks.set w.write.block
                { s.store.blocks[w.write.block] with contents := .erased } } }))))
  ∧ (∀ (s : State) (b : BlockId), s.imageOf b = ⟨s.dataOf b, crc16 (Config.storedBytes (s.dataOf b))⟩)
  ∧ crc16 [] = 0xFFFF
  ∧ ∀ (bytes : List Byte) (b : Byte), crc16 (bytes ++ [b]) = serialCrc 0x1021 (crc16 bytes) b

/-- ERASE is followed by PROGRAM and PROGRAM by VERIFY, with the new contents in the block; a matching verify
makes the status OK and sets the mark; a first mismatch begins attempt 2 with a fresh image; a second makes the
status FAILED, sets the fault latch and adds STORE_FAULT, and leaves in the block what it held before or contents
that fail their CRC-16 (10.7); no completion touches another block's status, mark or contents, but for the write
that begins next, or any owner's working copy; the completion of an interrupted phase is discarded (R180, R183,
R184, R188). What the block holds in each phase of a write, attempt 2's erased contents among it, is the model's
choice of R192 over R12, R38, R116, R151 and R166 (assumption 21). That the next write begins within the
completion, and the free values of what a program that is cut and a write that fails leave, are the model's
choices (assumptions 7 and 8). -/
def Obligations.WritePhasesAdvance : Prop :=
  ∀ (s : State) (w : WriteRecord), s.Awake → s.store.running = some w →
    let b := w.block
    (w.phase = .erase → exec (.eraseComplete false) s = .next (State.drivePins { s with
      freeCount := s.freeCount + 1
      store := { s.store with
        running := some { w with phase := .program }
        blocks := s.store.blocks.set b { s.store.blocks[b] with contents := .partly s.freeCount } } }))
    ∧ (w.phase = .program → exec (.programComplete false) s = .next (State.drivePins { s with
      store := { s.store with
        running := some { w with phase := .verify }
        blocks := s.store.blocks.set b { s.store.blocks[b] with contents := .image w.image } } }))
    ∧ (let others := fun u : State => ∀ b' : BlockId, b' ≠ b → (∀ x, u.store.running = some x → x.block ≠ b') →
         u.store.blocks[b'].contents = s.store.blocks[b'].contents
       (w.phase = .verify → ∃ u : State, exec (.verifyComplete false true) s = .next u.drivePins
          ∧ u = { s with store := u.store, meterDirty := u.meterDirty }
          ∧ u.store.status = s.store.status.set b .ok ∧ u.store.faultLatch = s.store.faultLatch
          ∧ (∀ b' : BlockId, u.store.blocks[b'].written = (s.store.blocks[b'].written || decide (b' = b)))
          ∧ others u
          ∧ ((∀ x, u.store.running = some x → x.block ≠ b) →
              u.store.blocks[b].contents = s.store.blocks[b].contents)
          ∧ (s.store.queue = [] → s.store.suspended = none → u.store.running = none))
       ∧ (w.phase = .verify → w.attempt = 1 → exec (.verifyComplete false false) s = .next (State.drivePins { s with
          meterDirty := s.meterDirty && decide (b ≠ meterBlock)
          store := { s.store with
            running := some { w with phase := .erase, attempt := 2, image := s.imageOf b }
            blocks := s.store.blocks.set b { s.store.blocks[b] with contents := .erased } } }))
       ∧ (w.phase = .verify → w.attempt ≠ 1 → ∃ u : State, exec (.verifyComplete false false) s = .next u.drivePins
          ∧ u = { s with store := u.store, meterDirty := u.meterDirty, notices := s.notices ||| 0x0400
                         freeCount := u.freeCount }
          ∧ u.store.status = s.store.status.set b .failed ∧ u.store.faultLatch = true
          ∧ (∀ b' : BlockId, u.store.blocks[b'].written = s.store.blocks[b'].written) ∧ others u
          ∧ ((∀ x, u.store.running = some x → x.block ≠ b) →
              u.store.blocks[b].contents = w.before ∨ u.store.blocks[b].contents = .broken)))
    ∧ ∀ m, exec (.eraseComplete true) s = .next s.drivePins
        ∧ exec (.programComplete true) s = .next s.drivePins
        ∧ exec (.verifyComplete true m) s = .next s.drivePins

/-- **retry** clears the fault latch, queues every FAILED block behind what waits, in ascending order, answers the
latch before and the count, and changes nothing else (R181, R185). -/
def Obligations.RetryQueuesFailedBlocks : Prop :=
  ∀ s : State, s.Handed (.retry (.fields ())) →
    let failed := (List.finRange 25).filter fun b => decide (s.store.status[b] = .failed)
    exec (.retry (.fields ())) s = .next (State.replied
      { s with store := { s.store with faultLatch := false, queue := s.queueWith failed } }
      (.retry (.fields ())) .ok (flagByte s.store.faultLatch ++ be1 failed.length))

/-! ## The supply -/

/-- A supply warning sets the supply-low flag, adds SUPPLY_LOW and saves the meters: the meter write begins at
once when no write runs, suspends a write of another block, and is queued at the head behind a running meter
write; while the flag is set there is no new warning; above the clear level the flag clears (R187, R188, R190). A
movement of the supply crosses the warning level that the straps select, the clear level 0.1 V above it and the
hold level of 2.6 V (R189, R191). That crossings are rows, and levels their operands, is the model's choice
(assumption 18). -/
def Obligations.SupplyWarningSavesTheMeters : Prop :=
  ∀ s : State, s.Awake →
    (s.supply.low = true → exec .supplyWarning s = .next s.drivePins)
    ∧ (s.supply.low = false → ∃ u : State, exec .supplyWarning s = .next u.drivePins
        ∧ u.supply.low = true ∧ u.hasNotice .supplyLow = true
        ∧ u = { s with supply := u.supply, notices := u.notices, store := u.store, meterDirty := u.meterDirty }
        ∧ (s.store.running = none → s.link.state ≠ .loading →
            u.store.running = some ⟨meterBlock, .erase, 1, s.imageOf meterBlock,
              s.store.blocks[meterBlock].contents⟩
            ∧ u.meterDirty = false ∧ u.store.suspended = s.store.suspended
            ∧ u.store.queue = s.store.queue.filter (·.block ≠ meterBlock))
        ∧ (s.store.running = none → s.link.state = .loading →
            u.store.running = none
            ∧ u.store.queue = ⟨meterBlock, true⟩ :: s.store.queue.filter (·.block ≠ meterBlock))
        ∧ (∀ w, s.store.running = some w → w.block ≠ meterBlock →
            u.store.suspended = some ⟨w, false⟩
            ∧ u.store.running = some ⟨meterBlock, .erase, 1, s.imageOf meterBlock,
                s.store.blocks[meterBlock].contents⟩
            ∧ u.store.queue = s.store.queue.filter (·.block ≠ meterBlock))
        ∧ (∀ w, s.store.running = some w → w.block = meterBlock →
            u.store.running = some w
            ∧ u.store.queue = ⟨meterBlock, true⟩ :: s.store.queue.filter (·.block ≠ meterBlock)))
    ∧ exec .supplyClear s =
        .next (State.drivePins { s with supply := { s.supply with low := false } })
    ∧ (let straps := s.supply.straps
       let warning := if straps = 0 then 2900 else if straps = 1 then 3000 else if straps = 2 then 3100 else 3200
       ∀ was now us : Nat,
        (.supplyWarning ∈ supplyRows straps was now us ↔ warning ≤ was ∧ now < warning)
        ∧ (.dipBegin ∈ supplyRows straps was now us ↔ 2600 ≤ was ∧ now < 2600)
        ∧ (.dipEnd us ∈ supplyRows straps was now us ↔ was ≤ 2600 ∧ 2600 < now)
        ∧ (.supplyClear ∈ supplyRows straps was now us ↔ was ≤ warning + 100 ∧ warning + 100 < now))

/-- A row that a dip can defer: every row but the dip's own, a full reset and its end (R191). -/
def Sys2Proof.Instr.Deferrable (i : Instr) : Prop :=
  i ≠ .dipBegin ∧ (∀ us, i ≠ .dipEnd us) ∧ (∀ c a b, i ≠ .fullReset c a b) ∧ ∀ h v, i ≠ .startUpLoad h v

/-- A dip begins; one shorter than 400 microseconds is held through: a running write restarts from ERASE with a
fresh image and its attempt number, a suspended one is set back to ERASE, and the deferred events are taken, each
as the row it is, and in any order among themselves and with the write's restart; one of 400 or more is a full
reset (R191, R192). That a write erases its block as it begins anew, and that a full reset leaves the blocks as
the cut left them, is the model's choice of R192 over R12, R38, R116, R151 and R166 (assumption 21). That the
dip's length is an operand of its end, and the order, are the model's choices (assumptions 6 and 18). -/
def Obligations.DipsAreHeldThrough : Prop :=
  (∀ s : State, s.Awake →
    exec .dipBegin s = .next { s with supply := { s.supply with dip := true } })
  ∧ (∀ (s : State) (us : Nat), s.supply.held = false → s.supply.dip = true → us < 400 →
      let ended : State := { s with deferred := [], supply := { s.supply with dip := false } }
      let work := s.deferred.map DipWork.event
        ++ if s.store.running.isSome || s.store.suspended.isSome then [DipWork.restartWrite] else []
      (s.deferred = [] → s.store.running = none → s.store.suspended = none →
        exec (.dipEnd us) s = .next ended.drivePins)
      ∧ (∀ i, s.deferred = [i] → s.store.running = none → s.store.suspended = none → i.Deferrable →
        exec (.dipEnd us) s = exec i ended)
      ∧ (∀ w, s.deferred = [] → s.store.running = some w →
        exec (.dipEnd us) s = .next (State.drivePins { ended with
          meterDirty := s.meterDirty && decide (w.block ≠ meterBlock)
          store := { s.store with
            suspended := s.store.suspended.map fun x => { x with fresh := true }
            running := some { w with phase := .erase, image := s.imageOf w.block }
            blocks := s.store.blocks.set w.block
              { s.store.blocks[w.block] with contents := .erased } } }))
      ∧ (∀ x, s.deferred = [] → s.store.running = none → s.store.suspended = some x →
        exec (.dipEnd us) s = .next (State.drivePins { ended with
          store := { s.store with suspended := some { x with fresh := true } } }))
      ∧ ∃ (order : List DipWork) (n : Nat), order.Perm work ∧ exec (.dipEnd us) s =
          .next (State.drivePins (order.foldl State.takeWork { ended with freeCount := n })))
  ∧ (∀ (s : State) (i : Instr), s.Awake → i.Deferrable → exec i s = .next (s.takeWork (.event i)))
  ∧ (∀ s : State, s.takeWork .restartWrite = match s.store.running with
      | some w => { s with
          meterDirty := s.meterDirty && decide (w.block ≠ meterBlock)
          store := { s.store with
            suspended := s.store.suspended.map fun x => { x with fresh := true }
            running := some { w with phase := .erase, image := s.imageOf w.block }
            blocks := s.store.blocks.set w.block { s.store.blocks[w.block] with contents := .erased } } }
      | none => { s with
          store := { s.store with suspended := s.store.suspended.map fun x => { x with fresh := true } } })
  ∧ ∀ (s : State) (us : Nat), s.supply.held = false → s.supply.dip = true → 400 ≤ us →
      ∃ t, exec (.dipEnd us) s = .next t ∧ t.supply.held = true ∧ t.store.blocks = s.store.blocks
        ∧ t.store.running = none ∧ t.clock.counter = 0

/-- A full reset, by power-on, a RESETN low of 10 microseconds or more or a dip of 400 or more, keeps what the
store's blocks hold and loses everything else: it is held, the link is LOADING with nothing held, the clock is
UNSET at counter 0, the seats are VACANT and both gates blank, the straps are read, and whatever the working
copies were, two states with equal blocks are reset to equal states (R189, R192, R195, R207, R208). A shorter low
is ignored (R208). That a block whose write is cut stays as the cut left it is the model's choice of R192 over
R12, R38, R116, R151 and R166 (assumption 21). That deferred events are lost (assumption 18), and what the working
copies and statuses hold until the load settles them (assumption 9), are the model's readings; `pending` and
`freeCount` are the model's own fields. -/
def Obligations.FullResetKeepsTheStoreAlone : Prop :=
  ∀ (s : State) (cause : ResetCause) (lvs1 lvs0 : Bool),
    let begins := match cause with
      | .powerOn => True
      | .resetnLow us => 10 ≤ us
      | .dip us => 400 ≤ us
    (¬ begins → exec (.fullReset cause lvs1 lvs0) s = .next s)
    ∧ (begins → ∃ t, exec (.fullReset cause lvs1 lvs0) s = .next t
        ∧ t.store.blocks = s.store.blocks ∧ t.store.queue = [] ∧ t.store.running = none
        ∧ t.store.suspended = none ∧ t.store.faultLatch = false
        ∧ t.store.status = Vector.replicate 25 .blank
        ∧ t.supply.held = true ∧ t.supply.low = false ∧ t.supply.dip = false
        ∧ t.supply.straps.getLsbD 1 = lvs1 ∧ t.supply.straps.getLsbD 0 = lvs0
        ∧ t.link.state = .loading ∧ t.link.buffer = none ∧ t.link.flags = .clear ∧ t.notices = 0
        ∧ t.clock.counter = 0 ∧ t.clock.isSet = false ∧ t.clock.day = 0 ∧ t.clock.second = 0
        ∧ t.clock.weekday = 0 ∧ t.clock.meterDay = 0 ∧ t.clock.meterWeekday = 0
        ∧ t.seats = Vector.replicate 6 Seat.vacant ∧ t.requests = [] ∧ t.edit = none
        ∧ t.authority.window = none ∧ t.authority.failures = 0 ∧ t.authority.lockout = none
        ∧ t.slots[0] = .live Profile.factoryGuest ∧ (∀ k : Fin 16, k ≠ 0 → t.slots[k] = .free)
        ∧ t.schemes[0] = directScheme ∧ t.schemes[1] = bandScheme
        ∧ (∀ k : Fin 8, 2 ≤ k.val → t.schemes[k] = SchemeSlot.empty)
        ∧ t.settings = Settings.factory ∧ t.meters = Vector.replicate 16 Meter.cleared ∧ t.meterDirty = false
        ∧ t.interval = 0 ∧ t.pool = ⟨0, 0, 0, 0⟩ ∧ t.grants = Vector.replicate 16 none ∧ t.due = Due.none
        ∧ t.load = none ∧ t.pins = ⟨false, false, false⟩ ∧ t.deferred = [])
    ∧ ∀ s' : State, s'.store.blocks = s.store.blocks → s'.pending = s.pending → s'.freeCount = s.freeCount →
        begins → exec (.fullReset cause lvs1 lvs0) s' = exec (.fullReset cause lvs1 lvs0) s

/-- A held reset ends when RESETN is high and the supply above the clear level, and the load begins, with a start-up
lockout of 60 seconds (R170, R189, R193). Each step of the load reads one block, in the order of R193, and leaves
what the blocks hold; its owner settles its working copy and the block's status from what it is handed: the
household (R166), the operator slots (R3), the profiles with the token law after the last of them (R39, R40), the
meters (R116, R122) and the grants (R152). After the last block the link is READY, or ANSWERED while a response is
held, the notices are added and the first write begins (R194). The free value of a cut program is assumption 8; that
a write begins within the last read is the model's choice (assumption 7), and the levels as operands (assumption
18). -/
def Obligations.TheLoadReadsTheStore : Prop :=
  (∀ (s : State) (high : Bool) (millivolts : Nat),
    let ends := s.supply.held = true ∧ high = true ∧ 3000 + 100 * s.supply.straps.toNat < millivolts
    (ends → exec (.startUpLoad high millivolts) s = .next (State.drivePins { s with
      supply := { s.supply with held := false }, load := some 0
      authority := { s.authority with lockout := some 60 } }))
    ∧ (¬ ends → exec (.startUpLoad high millivolts) s = .next s))
  ∧ (∀ s : State, s.Awake → s.load = none → exec .storeBlockRead s = .next s.drivePins)
  ∧ (∀ (s : State) (n : Nat), s.Awake → s.load = some n → n < 24 →
      ∃ u : State, exec .storeBlockRead s = .next u.drivePins ∧ u.load = some (n + 1)
        ∧ u.store.blocks = s.store.blocks ∧ u.link = s.link ∧ u.seats = s.seats ∧ u.notices = s.notices)
  ∧ (∀ (s : State) (n : Nat) (b : BlockId) (r : ReadResult), s.Awake → s.load = some n →
      [22, 16, 17, 18, 19, 20, 21, 0, 1, 2, 3, 4, 5, 6, 7, 8, 9, 10, 11, 12, 13, 14, 15, 24][n]? = some b →
      s.Reads b r →
      let settles := fun t : State => exec .storeBlockRead s = .next (State.drivePins t)
      let left : State := { s with load := some (n + 1) }
      (b = 22 → ∀ h v, HouseholdGives r h v → settles (left.settledBlock b v { left with settings := h } (v = .damaged)))
      ∧ (∀ k : Fin 8, 2 ≤ k.val → b.val = 14 + k.val → ∀ c v, SchemeGives r c v →
          settles (left.settledBlock b v { left with schemes := s.schemes.set k c } False))
      ∧ (∀ k : Fin 16, b.val = k.val → ∀ slot v, ProfileGives k r slot v →
          let put := left.settledBlock b v { left with slots := s.slots.set k slot } (k = 0 ∧ v ≠ .ok)
          (k ≠ 15 → settles put) ∧ (k = 15 → ∃ u, settles u ∧ TokenLawTaken put u))
      ∧ (b = 24 → ∀ i v, MeterGives r i v →
          ∃ u, settles u ∧ (∀ k : Fin 16, u.meters[k] =
              match i, s.rules? k with
              | some x, some _ => x.records[k]
              | _, _ => Meter.cleared)
            ∧ (u.meterDirty = false ↔ ∃ x, i = some x ∧ u.meters = x.records)
            ∧ u = left.settledBlock b v { left with
                meters := u.meters, meterDirty := u.meterDirty
                clock := { s.clock with
                  meterDay := (i.map (·.meterDay)).getD 0
                  meterWeekday := Fin.ofNat 7 ((i.map (·.meterWeekday)).getD 0) }
                pool := (i.map (·.pool)).getD ⟨s.settings.poolSize, s.settings.poolSize, 0, 0⟩ } False))
  ∧ ∀ s : State, s.Awake → s.load = some 24 →
      ∃ u : State, exec .storeBlockRead s = .next u.drivePins ∧ u.load = none
        ∧ u.link.state = (if s.link.buffer.isSome then .answered else .ready)
        ∧ u.link.buffer = s.link.buffer ∧ u.seats = s.seats
        ∧ u.hasNotice .started = true ∧ u.hasNotice .clockNeeded = true
        ∧ u.notices = s.notices ||| 0x00C0 ||| (if .damaged ∈ u.store.status.toList then 0x0800 else 0)
        ∧ ∀ r, s.Reads 23 r → ∀ table v, GrantGives r table v →
          let kept := fun g : Grant => (s.rules? g.slot).isSome && match g.body with
            | .extraTime _ d => d = s.clock.meterDay
            | _ => true
          let queue := if (v = .damaged ∨ ∃ e : Fin 16, ∃ g ∈ table[e], kept g = false) ∧ s.queued 23 = false then
            s.store.queue ++ [⟨23, false⟩] else s.store.queue
          (∀ e : Fin 16, u.grants[e] = table[e].filter kept) ∧ u.store.status = s.store.status.set 23 v
          ∧ (s.store.running = none → s.store.suspended = none →
              (queue = [] → u.store.running = none ∧ u.store.queue = [])
              ∧ ∀ item rest, queue = item :: rest → u.store.queue = rest
                ∧ ∃ w, u.store.running = some w ∧ w.block = item.block ∧ w.phase = .erase ∧ w.attempt = 1)

/-! ## Laws that every step keeps -/

/-- The gates show their seats' states and ATTN the buffer and the notice set, after every step from any state in
which they do: a gate is at the permit level exactly in BROWSING, PERMITTED, WARNED, POOL_WAIT and WIND_DOWN, and
ATTN is low exactly while a response is held or the set is not empty and no full reset is held (R47, R202,
R208). -/
def Obligations.EveryStepKeepsThePinsFollowing : Prop :=
  KeptByEveryStep State.PinsFollow
  ∧ ∀ s : State,
      let opens := fun j : Fin 6 =>
        s.seats[j].state ∈ [SeatState.browsing, .permitted, .warned, .poolWait, .windDown]
      s.PinsFollow ↔ (s.pins.gate0 = true ↔ opens 0) ∧ (s.pins.gate1 = true ↔ opens 1)
        ∧ (s.pins.attn = true ↔ s.supply.held = false ∧ (s.link.buffer.isSome = true ∨ s.notices ≠ 0))

/-- P + D = S_r + T, within the ranges of R119, and the pool day size stays within 0..600 (R119, R120, R122,
R166). -/
def Obligations.EveryStepKeepsThePoolLaw : Prop := KeptByEveryStep State.PoolLaw

/-- Every seat's state is the one its entries and programme give, in the order of the table of R46, with at most
three entries of different profiles (R42, R46, R48). -/
def Obligations.EveryStepKeepsTheSeatLaw : Prop :=
  KeptByEveryStep State.SeatLaw
  ∧ ∀ (es : List Entry) (programme : Option Programme),
      let state := seatStateOf es programme
      let denied := ∃ e ∈ es, ∃ why, e.state = .denied why
      let winding := ∃ e ∈ es, ∃ why ends, e.state = .winding why ends
      let waiting := ∃ e ∈ es, ∃ why, e.state = .waiting why
      let low := ∃ e ∈ es, ∃ why, e.state = .low why
      (es = [] → state = .vacant)
      ∧ (es ≠ [] → programme = none → state = .browsing)
      ∧ (es ≠ [] → programme.isSome = true →
          (denied → state = .blocked)
          ∧ (¬ denied → winding → state = .windDown)
          ∧ (¬ denied → ¬ winding → waiting → state = .poolWait)
          ∧ (¬ denied → ¬ winding → ¬ waiting → low → state = .warned)
          ∧ (¬ denied → ¬ winding → ¬ waiting → ¬ low → state = .permitted))

/-- The commit queue holds a block at most once (R181) and the request queue a profile at most once (R125). -/
def Obligations.EveryStepKeepsTheQueueLaw : Prop := KeptByEveryStep State.QueueLaw

/-- The settings stay in range, the edit buffer exists only under an OPEN window, and no lockout is in force while
the window is OPEN (R166 to R172). -/
def Obligations.EveryStepKeepsTheGuardianLaw : Prop := KeptByEveryStep State.GuardianLaw

/-- A response is held exactly where the link state says, and no block is written while the link is LOADING (R182,
R198, R202). -/
def Obligations.EveryStepKeepsTheLinkLaw : Prop := KeptByEveryStep State.LinkLaw

/-- The clocks stay in range, the wall clock stays at 0 while it is UNSET, and bits 14 and 15 of the notice set stay
0 (R154, R155, R158, 11.6). -/
def Obligations.EveryStepKeepsTheClockLaw : Prop := KeptByEveryStep State.ClockLaw

/-- No two live grants share profile, kind and content id (R138), grants stay within R137, every live EXTRA_TIME
was made on the meter day in force unless the rollover's part that retires it is outstanding (R149), and the
factory schemes stand (R2). The premise on the clock is a law of its own. -/
def Obligations.EveryStepKeepsTheTables : Prop :=
  ∀ s t : State, s.ClockLaw → s.GrantLaw ∧ s.ExtraLaw ∧ s.FactorySchemes → step s = .next t →
    t.GrantLaw ∧ t.ExtraLaw ∧ t.FactorySchemes

/-- The machine after reset meets every law. The state after reset rests on the model's choices (assumptions 1 and
9). -/
def Obligations.ResetMeetsTheLaws : Prop :=
  State.reset.PinsFollow ∧ State.reset.PoolLaw ∧ State.reset.SeatLaw ∧ State.reset.QueueLaw
    ∧ State.reset.GuardianLaw ∧ State.reset.LinkLaw ∧ State.reset.ClockLaw ∧ State.reset.GrantLaw ∧ State.reset.ExtraLaw
    ∧ State.reset.FactorySchemes

/-- A written mark is never cleared (R179), and no command and no transaction sets, clears or adjusts the second
counter (R154). -/
def Obligations.MarksAndCounterStand : Prop :=
  (∀ (s t : State) (b : BlockId), step s = .next t → s.store.blocks[b].written = true →
    t.store.blocks[b].written = true)
  ∧ (∀ (i : Instr) (s t : State), (commandCode i).isSome = true → exec i s = .next t →
      t.clock.counter = s.clock.counter)
  ∧ ∀ (i : Instr) (s t : State), (∃ f, i = .writeTransaction f) ∨ (∃ n, i = .fetchTransaction n)
        ∨ (∃ b, i = .badTransaction b) → exec i s = .next t → t.clock.counter = s.clock.counter

/-- Without the guardian window nothing of the household's rules moves: no command changes a setting or a profile,
credits the pool, opens an edit buffer or adds a grant; a grant entry either stands or becomes free (R29, R172,
R173). -/
def Obligations.NothingIsGrantedWithoutTheWindow : Prop :=
  ∀ (i : Instr) (s t : State), s.GuardianLaw → s.authority.window = none → (commandCode i).isSome = true →
    exec i s = .next t →
    t.settings = s.settings ∧ t.slots = s.slots ∧ t.edit = none ∧ t.pool.toppedUp ≤ s.pool.toppedUp
      ∧ ∀ e : Fin 16, t.grants[e] = s.grants[e] ∨ t.grants[e] = none
end

