-- ==== Sys2Proof/Laws/State.lean ====
section
/-! SUPPORT. The field lemmas of the updates of `State`: what an update leaves as it was, one lemma for each
field, so that no later proof unfolds an update. -/

namespace Sys2Proof.Machine

variable (s : State)

@[simp] theorem State.drivePins_pending : s.drivePins.pending = s.pending := rfl
@[simp] theorem State.drivePins_deferred : s.drivePins.deferred = s.deferred := rfl
@[simp] theorem State.drivePins_link : s.drivePins.link = s.link := rfl
@[simp] theorem State.drivePins_notices : s.drivePins.notices = s.notices := rfl
@[simp] theorem State.drivePins_schemes : s.drivePins.schemes = s.schemes := rfl
@[simp] theorem State.drivePins_slots : s.drivePins.slots = s.slots := rfl
@[simp] theorem State.drivePins_edit : s.drivePins.edit = s.edit := rfl
@[simp] theorem State.drivePins_seats : s.drivePins.seats = s.seats := rfl
@[simp] theorem State.drivePins_meters : s.drivePins.meters = s.meters := rfl
@[simp] theorem State.drivePins_meterDirty : s.drivePins.meterDirty = s.meterDirty := rfl
@[simp] theorem State.drivePins_interval : s.drivePins.interval = s.interval := rfl
@[simp] theorem State.drivePins_pool : s.drivePins.pool = s.pool := rfl
@[simp] theorem State.drivePins_requests : s.drivePins.requests = s.requests := rfl
@[simp] theorem State.drivePins_grants : s.drivePins.grants = s.grants := rfl
@[simp] theorem State.drivePins_clock : s.drivePins.clock = s.clock := rfl
@[simp] theorem State.drivePins_settings : s.drivePins.settings = s.settings := rfl
@[simp] theorem State.drivePins_authority : s.drivePins.authority = s.authority := rfl
@[simp] theorem State.drivePins_store : s.drivePins.store = s.store := rfl
@[simp] theorem State.drivePins_load : s.drivePins.load = s.load := rfl
@[simp] theorem State.drivePins_supply : s.drivePins.supply = s.supply := rfl
@[simp] theorem State.drivePins_due : s.drivePins.due = s.due := rfl
@[simp] theorem State.drivePins_freeCount : s.drivePins.freeCount = s.freeCount := rfl

@[simp] theorem State.addNotice_pending (n : Notice) : (s.addNotice n).pending = s.pending := rfl
@[simp] theorem State.addNotice_deferred (n : Notice) : (s.addNotice n).deferred = s.deferred := rfl
@[simp] theorem State.addNotice_link (n : Notice) : (s.addNotice n).link = s.link := rfl
@[simp] theorem State.addNotice_pins (n : Notice) : (s.addNotice n).pins = s.pins := rfl
@[simp] theorem State.addNotice_schemes (n : Notice) : (s.addNotice n).schemes = s.schemes := rfl
@[simp] theorem State.addNotice_slots (n : Notice) : (s.addNotice n).slots = s.slots := rfl
@[simp] theorem State.addNotice_edit (n : Notice) : (s.addNotice n).edit = s.edit := rfl
@[simp] theorem State.addNotice_seats (n : Notice) : (s.addNotice n).seats = s.seats := rfl
@[simp] theorem State.addNotice_meters (n : Notice) : (s.addNotice n).meters = s.meters := rfl
@[simp] theorem State.addNotice_meterDirty (n : Notice) : (s.addNotice n).meterDirty = s.meterDirty := rfl
@[simp] theorem State.addNotice_interval (n : Notice) : (s.addNotice n).interval = s.interval := rfl
@[simp] theorem State.addNotice_pool (n : Notice) : (s.addNotice n).pool = s.pool := rfl
@[simp] theorem State.addNotice_requests (n : Notice) : (s.addNotice n).requests = s.requests := rfl
@[simp] theorem State.addNotice_grants (n : Notice) : (s.addNotice n).grants = s.grants := rfl
@[simp] theorem State.addNotice_clock (n : Notice) : (s.addNotice n).clock = s.clock := rfl
@[simp] theorem State.addNotice_settings (n : Notice) : (s.addNotice n).settings = s.settings := rfl
@[simp] theorem State.addNotice_authority (n : Notice) : (s.addNotice n).authority = s.authority := rfl
@[simp] theorem State.addNotice_store (n : Notice) : (s.addNotice n).store = s.store := rfl
@[simp] theorem State.addNotice_load (n : Notice) : (s.addNotice n).load = s.load := rfl
@[simp] theorem State.addNotice_supply (n : Notice) : (s.addNotice n).supply = s.supply := rfl
@[simp] theorem State.addNotice_due (n : Notice) : (s.addNotice n).due = s.due := rfl
@[simp] theorem State.addNotice_freeCount (n : Notice) : (s.addNotice n).freeCount = s.freeCount := rfl

@[simp] theorem State.hold_pending (r : Response) : (s.hold r).pending = s.pending := rfl
@[simp] theorem State.hold_deferred (r : Response) : (s.hold r).deferred = s.deferred := rfl
@[simp] theorem State.hold_notices (r : Response) : (s.hold r).notices = s.notices := rfl
@[simp] theorem State.hold_pins (r : Response) : (s.hold r).pins = s.pins := rfl
@[simp] theorem State.hold_schemes (r : Response) : (s.hold r).schemes = s.schemes := rfl
@[simp] theorem State.hold_slots (r : Response) : (s.hold r).slots = s.slots := rfl
@[simp] theorem State.hold_edit (r : Response) : (s.hold r).edit = s.edit := rfl
@[simp] theorem State.hold_seats (r : Response) : (s.hold r).seats = s.seats := rfl
@[simp] theorem State.hold_meters (r : Response) : (s.hold r).meters = s.meters := rfl
@[simp] theorem State.hold_meterDirty (r : Response) : (s.hold r).meterDirty = s.meterDirty := rfl
@[simp] theorem State.hold_interval (r : Response) : (s.hold r).interval = s.interval := rfl
@[simp] theorem State.hold_pool (r : Response) : (s.hold r).pool = s.pool := rfl
@[simp] theorem State.hold_requests (r : Response) : (s.hold r).requests = s.requests := rfl
@[simp] theorem State.hold_grants (r : Response) : (s.hold r).grants = s.grants := rfl
@[simp] theorem State.hold_clock (r : Response) : (s.hold r).clock = s.clock := rfl
@[simp] theorem State.hold_settings (r : Response) : (s.hold r).settings = s.settings := rfl
@[simp] theorem State.hold_authority (r : Response) : (s.hold r).authority = s.authority := rfl
@[simp] theorem State.hold_store (r : Response) : (s.hold r).store = s.store := rfl
@[simp] theorem State.hold_load (r : Response) : (s.hold r).load = s.load := rfl
@[simp] theorem State.hold_supply (r : Response) : (s.hold r).supply = s.supply := rfl
@[simp] theorem State.hold_due (r : Response) : (s.hold r).due = s.due := rfl
@[simp] theorem State.hold_freeCount (r : Response) : (s.hold r).freeCount = s.freeCount := rfl

@[simp] theorem State.putSeat_pending (k : Fin 6) (es : List Entry) (p : Option Programme) : (s.putSeat k es p).pending = s.pending := rfl
@[simp] theorem State.putSeat_deferred (k : Fin 6) (es : List Entry) (p : Option Programme) : (s.putSeat k es p).deferred = s.deferred := rfl
@[simp] theorem State.putSeat_link (k : Fin 6) (es : List Entry) (p : Option Programme) : (s.putSeat k es p).link = s.link := rfl
@[simp] theorem State.putSeat_notices (k : Fin 6) (es : List Entry) (p : Option Programme) : (s.putSeat k es p).notices = s.notices := rfl
@[simp] theorem State.putSeat_pins (k : Fin 6) (es : List Entry) (p : Option Programme) : (s.putSeat k es p).pins = s.pins := rfl
@[simp] theorem State.putSeat_schemes (k : Fin 6) (es : List Entry) (p : Option Programme) : (s.putSeat k es p).schemes = s.schemes := rfl
@[simp] theorem State.putSeat_slots (k : Fin 6) (es : List Entry) (p : Option Programme) : (s.putSeat k es p).slots = s.slots := rfl
@[simp] theorem State.putSeat_edit (k : Fin 6) (es : List Entry) (p : Option Programme) : (s.putSeat k es p).edit = s.edit := rfl
@[simp] theorem State.putSeat_meters (k : Fin 6) (es : List Entry) (p : Option Programme) : (s.putSeat k es p).meters = s.meters := rfl
@[simp] theorem State.putSeat_meterDirty (k : Fin 6) (es : List Entry) (p : Option Programme) : (s.putSeat k es p).meterDirty = s.meterDirty := rfl
@[simp] theorem State.putSeat_interval (k : Fin 6) (es : List Entry) (p : Option Programme) : (s.putSeat k es p).interval = s.interval := rfl
@[simp] theorem State.putSeat_pool (k : Fin 6) (es : List Entry) (p : Option Programme) : (s.putSeat k es p).pool = s.pool := rfl
@[simp] theorem State.putSeat_requests (k : Fin 6) (es : List Entry) (p : Option Programme) : (s.putSeat k es p).requests = s.requests := rfl
@[simp] theorem State.putSeat_grants (k : Fin 6) (es : List Entry) (p : Option Programme) : (s.putSeat k es p).grants = s.grants := rfl
@[simp] theorem State.putSeat_clock (k : Fin 6) (es : List Entry) (p : Option Programme) : (s.putSeat k es p).clock = s.clock := rfl
@[simp] theorem State.putSeat_settings (k : Fin 6) (es : List Entry) (p : Option Programme) : (s.putSeat k es p).settings = s.settings := rfl
@[simp] theorem State.putSeat_authority (k : Fin 6) (es : List Entry) (p : Option Programme) : (s.putSeat k es p).authority = s.authority := rfl
@[simp] theorem State.putSeat_store (k : Fin 6) (es : List Entry) (p : Option Programme) : (s.putSeat k es p).store = s.store := rfl
@[simp] theorem State.putSeat_load (k : Fin 6) (es : List Entry) (p : Option Programme) : (s.putSeat k es p).load = s.load := rfl
@[simp] theorem State.putSeat_supply (k : Fin 6) (es : List Entry) (p : Option Programme) : (s.putSeat k es p).supply = s.supply := rfl
@[simp] theorem State.putSeat_due (k : Fin 6) (es : List Entry) (p : Option Programme) : (s.putSeat k es p).due = s.due := rfl
@[simp] theorem State.putSeat_freeCount (k : Fin 6) (es : List Entry) (p : Option Programme) : (s.putSeat k es p).freeCount = s.freeCount := rfl

@[simp] theorem State.writeEntries_pending (f : Seat → Entry → EntryState) : (s.writeEntries f).pending = s.pending := rfl
@[simp] theorem State.writeEntries_deferred (f : Seat → Entry → EntryState) : (s.writeEntries f).deferred = s.deferred := rfl
@[simp] theorem State.writeEntries_link (f : Seat → Entry → EntryState) : (s.writeEntries f).link = s.link := rfl
@[simp] theorem State.writeEntries_notices (f : Seat → Entry → EntryState) : (s.writeEntries f).notices = s.notices := rfl
@[simp] theorem State.writeEntries_pins (f : Seat → Entry → EntryState) : (s.writeEntries f).pins = s.pins := rfl
@[simp] theorem State.writeEntries_schemes (f : Seat → Entry → EntryState) : (s.writeEntries f).schemes = s.schemes := rfl
@[simp] theorem State.writeEntries_slots (f : Seat → Entry → EntryState) : (s.writeEntries f).slots = s.slots := rfl
@[simp] theorem State.writeEntries_edit (f : Seat → Entry → EntryState) : (s.writeEntries f).edit = s.edit := rfl
@[simp] theorem State.writeEntries_meters (f : Seat → Entry → EntryState) : (s.writeEntries f).meters = s.meters := rfl
@[simp] theorem State.writeEntries_meterDirty (f : Seat → Entry → EntryState) : (s.writeEntries f).meterDirty = s.meterDirty := rfl
@[simp] theorem State.writeEntries_interval (f : Seat → Entry → EntryState) : (s.writeEntries f).interval = s.interval := rfl
@[simp] theorem State.writeEntries_pool (f : Seat → Entry → EntryState) : (s.writeEntries f).pool = s.pool := rfl
@[simp] theorem State.writeEntries_requests (f : Seat → Entry → EntryState) : (s.writeEntries f).requests = s.requests := rfl
@[simp] theorem State.writeEntries_grants (f : Seat → Entry → EntryState) : (s.writeEntries f).grants = s.grants := rfl
@[simp] theorem State.writeEntries_clock (f : Seat → Entry → EntryState) : (s.writeEntries f).clock = s.clock := rfl
@[simp] theorem State.writeEntries_settings (f : Seat → Entry → EntryState) : (s.writeEntries f).settings = s.settings := rfl
@[simp] theorem State.writeEntries_authority (f : Seat → Entry → EntryState) : (s.writeEntries f).authority = s.authority := rfl
@[simp] theorem State.writeEntries_store (f : Seat → Entry → EntryState) : (s.writeEntries f).store = s.store := rfl
@[simp] theorem State.writeEntries_load (f : Seat → Entry → EntryState) : (s.writeEntries f).load = s.load := rfl
@[simp] theorem State.writeEntries_supply (f : Seat → Entry → EntryState) : (s.writeEntries f).supply = s.supply := rfl
@[simp] theorem State.writeEntries_due (f : Seat → Entry → EntryState) : (s.writeEntries f).due = s.due := rfl
@[simp] theorem State.writeEntries_freeCount (f : Seat → Entry → EntryState) : (s.writeEntries f).freeCount = s.freeCount := rfl

@[simp] theorem State.dropRequest_pending (k : Fin 16) : (s.dropRequest k).pending = s.pending := rfl
@[simp] theorem State.dropRequest_deferred (k : Fin 16) : (s.dropRequest k).deferred = s.deferred := rfl
@[simp] theorem State.dropRequest_link (k : Fin 16) : (s.dropRequest k).link = s.link := rfl
@[simp] theorem State.dropRequest_notices (k : Fin 16) : (s.dropRequest k).notices = s.notices := rfl
@[simp] theorem State.dropRequest_pins (k : Fin 16) : (s.dropRequest k).pins = s.pins := rfl
@[simp] theorem State.dropRequest_schemes (k : Fin 16) : (s.dropRequest k).schemes = s.schemes := rfl
@[simp] theorem State.dropRequest_slots (k : Fin 16) : (s.dropRequest k).slots = s.slots := rfl
@[simp] theorem State.dropRequest_edit (k : Fin 16) : (s.dropRequest k).edit = s.edit := rfl
@[simp] theorem State.dropRequest_seats (k : Fin 16) : (s.dropRequest k).seats = s.seats := rfl
@[simp] theorem State.dropRequest_meters (k : Fin 16) : (s.dropRequest k).meters = s.meters := rfl
@[simp] theorem State.dropRequest_meterDirty (k : Fin 16) : (s.dropRequest k).meterDirty = s.meterDirty := rfl
@[simp] theorem State.dropRequest_interval (k : Fin 16) : (s.dropRequest k).interval = s.interval := rfl
@[simp] theorem State.dropRequest_pool (k : Fin 16) : (s.dropRequest k).pool = s.pool := rfl
@[simp] theorem State.dropRequest_grants (k : Fin 16) : (s.dropRequest k).grants = s.grants := rfl
@[simp] theorem State.dropRequest_clock (k : Fin 16) : (s.dropRequest k).clock = s.clock := rfl
@[simp] theorem State.dropRequest_settings (k : Fin 16) : (s.dropRequest k).settings = s.settings := rfl
@[simp] theorem State.dropRequest_authority (k : Fin 16) : (s.dropRequest k).authority = s.authority := rfl
@[simp] theorem State.dropRequest_store (k : Fin 16) : (s.dropRequest k).store = s.store := rfl
@[simp] theorem State.dropRequest_load (k : Fin 16) : (s.dropRequest k).load = s.load := rfl
@[simp] theorem State.dropRequest_supply (k : Fin 16) : (s.dropRequest k).supply = s.supply := rfl
@[simp] theorem State.dropRequest_due (k : Fin 16) : (s.dropRequest k).due = s.due := rfl
@[simp] theorem State.dropRequest_freeCount (k : Fin 16) : (s.dropRequest k).freeCount = s.freeCount := rfl

@[simp] theorem State.releaseWaits_pending : s.releaseWaits.pending = s.pending := rfl
@[simp] theorem State.releaseWaits_deferred : s.releaseWaits.deferred = s.deferred := rfl
@[simp] theorem State.releaseWaits_link : s.releaseWaits.link = s.link := rfl
@[simp] theorem State.releaseWaits_notices : s.releaseWaits.notices = s.notices := rfl
@[simp] theorem State.releaseWaits_pins : s.releaseWaits.pins = s.pins := rfl
@[simp] theorem State.releaseWaits_schemes : s.releaseWaits.schemes = s.schemes := rfl
@[simp] theorem State.releaseWaits_slots : s.releaseWaits.slots = s.slots := rfl
@[simp] theorem State.releaseWaits_edit : s.releaseWaits.edit = s.edit := rfl
@[simp] theorem State.releaseWaits_seats : s.releaseWaits.seats = s.seats := rfl
@[simp] theorem State.releaseWaits_meters : s.releaseWaits.meters = s.meters := rfl
@[simp] theorem State.releaseWaits_meterDirty : s.releaseWaits.meterDirty = s.meterDirty := rfl
@[simp] theorem State.releaseWaits_interval : s.releaseWaits.interval = s.interval := rfl
@[simp] theorem State.releaseWaits_pool : s.releaseWaits.pool = s.pool := rfl
@[simp] theorem State.releaseWaits_grants : s.releaseWaits.grants = s.grants := rfl
@[simp] theorem State.releaseWaits_clock : s.releaseWaits.clock = s.clock := rfl
@[simp] theorem State.releaseWaits_settings : s.releaseWaits.settings = s.settings := rfl
@[simp] theorem State.releaseWaits_authority : s.releaseWaits.authority = s.authority := rfl
@[simp] theorem State.releaseWaits_store : s.releaseWaits.store = s.store := rfl
@[simp] theorem State.releaseWaits_load : s.releaseWaits.load = s.load := rfl
@[simp] theorem State.releaseWaits_supply : s.releaseWaits.supply = s.supply := rfl
@[simp] theorem State.releaseWaits_due : s.releaseWaits.due = s.due := rfl
@[simp] theorem State.releaseWaits_freeCount : s.releaseWaits.freeCount = s.freeCount := rfl

@[simp] theorem State.clearMeter_pending (k : Fin 16) : (s.clearMeter k).pending = s.pending := rfl
@[simp] theorem State.clearMeter_deferred (k : Fin 16) : (s.clearMeter k).deferred = s.deferred := rfl
@[simp] theorem State.clearMeter_link (k : Fin 16) : (s.clearMeter k).link = s.link := rfl
@[simp] theorem State.clearMeter_notices (k : Fin 16) : (s.clearMeter k).notices = s.notices := rfl
@[simp] theorem State.clearMeter_pins (k : Fin 16) : (s.clearMeter k).pins = s.pins := rfl
@[simp] theorem State.clearMeter_schemes (k : Fin 16) : (s.clearMeter k).schemes = s.schemes := rfl
@[simp] theorem State.clearMeter_slots (k : Fin 16) : (s.clearMeter k).slots = s.slots := rfl
@[simp] theorem State.clearMeter_edit (k : Fin 16) : (s.clearMeter k).edit = s.edit := rfl
@[simp] theorem State.clearMeter_seats (k : Fin 16) : (s.clearMeter k).seats = s.seats := rfl
@[simp] theorem State.clearMeter_interval (k : Fin 16) : (s.clearMeter k).interval = s.interval := rfl
@[simp] theorem State.clearMeter_pool (k : Fin 16) : (s.clearMeter k).pool = s.pool := rfl
@[simp] theorem State.clearMeter_requests (k : Fin 16) : (s.clearMeter k).requests = s.requests := rfl
@[simp] theorem State.clearMeter_grants (k : Fin 16) : (s.clearMeter k).grants = s.grants := rfl
@[simp] theorem State.clearMeter_clock (k : Fin 16) : (s.clearMeter k).clock = s.clock := rfl
@[simp] theorem State.clearMeter_settings (k : Fin 16) : (s.clearMeter k).settings = s.settings := rfl
@[simp] theorem State.clearMeter_authority (k : Fin 16) : (s.clearMeter k).authority = s.authority := rfl
@[simp] theorem State.clearMeter_store (k : Fin 16) : (s.clearMeter k).store = s.store := rfl
@[simp] theorem State.clearMeter_load (k : Fin 16) : (s.clearMeter k).load = s.load := rfl
@[simp] theorem State.clearMeter_supply (k : Fin 16) : (s.clearMeter k).supply = s.supply := rfl
@[simp] theorem State.clearMeter_due (k : Fin 16) : (s.clearMeter k).due = s.due := rfl
@[simp] theorem State.clearMeter_freeCount (k : Fin 16) : (s.clearMeter k).freeCount = s.freeCount := rfl

@[simp] theorem State.useWindDown_pending (k : Fin 16) : (s.useWindDown k).pending = s.pending := rfl
@[simp] theorem State.useWindDown_deferred (k : Fin 16) : (s.useWindDown k).deferred = s.deferred := rfl
@[simp] theorem State.useWindDown_link (k : Fin 16) : (s.useWindDown k).link = s.link := rfl
@[simp] theorem State.useWindDown_notices (k : Fin 16) : (s.useWindDown k).notices = s.notices := rfl
@[simp] theorem State.useWindDown_pins (k : Fin 16) : (s.useWindDown k).pins = s.pins := rfl
@[simp] theorem State.useWindDown_schemes (k : Fin 16) : (s.useWindDown k).schemes = s.schemes := rfl
@[simp] theorem State.useWindDown_slots (k : Fin 16) : (s.useWindDown k).slots = s.slots := rfl
@[simp] theorem State.useWindDown_edit (k : Fin 16) : (s.useWindDown k).edit = s.edit := rfl
@[simp] theorem State.useWindDown_seats (k : Fin 16) : (s.useWindDown k).seats = s.seats := rfl
@[simp] theorem State.useWindDown_interval (k : Fin 16) : (s.useWindDown k).interval = s.interval := rfl
@[simp] theorem State.useWindDown_pool (k : Fin 16) : (s.useWindDown k).pool = s.pool := rfl
@[simp] theorem State.useWindDown_requests (k : Fin 16) : (s.useWindDown k).requests = s.requests := rfl
@[simp] theorem State.useWindDown_grants (k : Fin 16) : (s.useWindDown k).grants = s.grants := rfl
@[simp] theorem State.useWindDown_clock (k : Fin 16) : (s.useWindDown k).clock = s.clock := rfl
@[simp] theorem State.useWindDown_settings (k : Fin 16) : (s.useWindDown k).settings = s.settings := rfl
@[simp] theorem State.useWindDown_authority (k : Fin 16) : (s.useWindDown k).authority = s.authority := rfl
@[simp] theorem State.useWindDown_store (k : Fin 16) : (s.useWindDown k).store = s.store := rfl
@[simp] theorem State.useWindDown_load (k : Fin 16) : (s.useWindDown k).load = s.load := rfl
@[simp] theorem State.useWindDown_supply (k : Fin 16) : (s.useWindDown k).supply = s.supply := rfl
@[simp] theorem State.useWindDown_due (k : Fin 16) : (s.useWindDown k).due = s.due := rfl
@[simp] theorem State.useWindDown_freeCount (k : Fin 16) : (s.useWindDown k).freeCount = s.freeCount := rfl

@[simp] theorem State.retireGrants_pending (sel : Grant → Bool) : (s.retireGrants sel).pending = s.pending := rfl
@[simp] theorem State.retireGrants_deferred (sel : Grant → Bool) : (s.retireGrants sel).deferred = s.deferred := rfl
@[simp] theorem State.retireGrants_link (sel : Grant → Bool) : (s.retireGrants sel).link = s.link := rfl
@[simp] theorem State.retireGrants_notices (sel : Grant → Bool) : (s.retireGrants sel).notices = s.notices := rfl
@[simp] theorem State.retireGrants_pins (sel : Grant → Bool) : (s.retireGrants sel).pins = s.pins := rfl
@[simp] theorem State.retireGrants_schemes (sel : Grant → Bool) : (s.retireGrants sel).schemes = s.schemes := rfl
@[simp] theorem State.retireGrants_slots (sel : Grant → Bool) : (s.retireGrants sel).slots = s.slots := rfl
@[simp] theorem State.retireGrants_edit (sel : Grant → Bool) : (s.retireGrants sel).edit = s.edit := rfl
@[simp] theorem State.retireGrants_seats (sel : Grant → Bool) : (s.retireGrants sel).seats = s.seats := rfl
@[simp] theorem State.retireGrants_meters (sel : Grant → Bool) : (s.retireGrants sel).meters = s.meters := rfl
@[simp] theorem State.retireGrants_meterDirty (sel : Grant → Bool) : (s.retireGrants sel).meterDirty = s.meterDirty := rfl
@[simp] theorem State.retireGrants_interval (sel : Grant → Bool) : (s.retireGrants sel).interval = s.interval := rfl
@[simp] theorem State.retireGrants_pool (sel : Grant → Bool) : (s.retireGrants sel).pool = s.pool := rfl
@[simp] theorem State.retireGrants_requests (sel : Grant → Bool) : (s.retireGrants sel).requests = s.requests := rfl
@[simp] theorem State.retireGrants_clock (sel : Grant → Bool) : (s.retireGrants sel).clock = s.clock := rfl
@[simp] theorem State.retireGrants_settings (sel : Grant → Bool) : (s.retireGrants sel).settings = s.settings := rfl
@[simp] theorem State.retireGrants_authority (sel : Grant → Bool) : (s.retireGrants sel).authority = s.authority := rfl
@[simp] theorem State.retireGrants_store (sel : Grant → Bool) : (s.retireGrants sel).store = s.store := rfl
@[simp] theorem State.retireGrants_load (sel : Grant → Bool) : (s.retireGrants sel).load = s.load := rfl
@[simp] theorem State.retireGrants_supply (sel : Grant → Bool) : (s.retireGrants sel).supply = s.supply := rfl
@[simp] theorem State.retireGrants_due (sel : Grant → Bool) : (s.retireGrants sel).due = s.due := rfl
@[simp] theorem State.retireGrants_freeCount (sel : Grant → Bool) : (s.retireGrants sel).freeCount = s.freeCount := rfl

@[simp] theorem State.setRunning_pending (w : Option WriteRecord) : (s.setRunning w).pending = s.pending := rfl
@[simp] theorem State.setRunning_deferred (w : Option WriteRecord) : (s.setRunning w).deferred = s.deferred := rfl
@[simp] theorem State.setRunning_link (w : Option WriteRecord) : (s.setRunning w).link = s.link := rfl
@[simp] theorem State.setRunning_notices (w : Option WriteRecord) : (s.setRunning w).notices = s.notices := rfl
@[simp] theorem State.setRunning_pins (w : Option WriteRecord) : (s.setRunning w).pins = s.pins := rfl
@[simp] theorem State.setRunning_schemes (w : Option WriteRecord) : (s.setRunning w).schemes = s.schemes := rfl
@[simp] theorem State.setRunning_slots (w : Option WriteRecord) : (s.setRunning w).slots = s.slots := rfl
@[simp] theorem State.setRunning_edit (w : Option WriteRecord) : (s.setRunning w).edit = s.edit := rfl
@[simp] theorem State.setRunning_seats (w : Option WriteRecord) : (s.setRunning w).seats = s.seats := rfl
@[simp] theorem State.setRunning_meters (w : Option WriteRecord) : (s.setRunning w).meters = s.meters := rfl
@[simp] theorem State.setRunning_meterDirty (w : Option WriteRecord) : (s.setRunning w).meterDirty = s.meterDirty := rfl
@[simp] theorem State.setRunning_interval (w : Option WriteRecord) : (s.setRunning w).interval = s.interval := rfl
@[simp] theorem State.setRunning_pool (w : Option WriteRecord) : (s.setRunning w).pool = s.pool := rfl
@[simp] theorem State.setRunning_requests (w : Option WriteRecord) : (s.setRunning w).requests = s.requests := rfl
@[simp] theorem State.setRunning_grants (w : Option WriteRecord) : (s.setRunning w).grants = s.grants := rfl
@[simp] theorem State.setRunning_clock (w : Option WriteRecord) : (s.setRunning w).clock = s.clock := rfl
@[simp] theorem State.setRunning_settings (w : Option WriteRecord) : (s.setRunning w).settings = s.settings := rfl
@[simp] theorem State.setRunning_authority (w : Option WriteRecord) : (s.setRunning w).authority = s.authority := rfl
@[simp] theorem State.setRunning_load (w : Option WriteRecord) : (s.setRunning w).load = s.load := rfl
@[simp] theorem State.setRunning_supply (w : Option WriteRecord) : (s.setRunning w).supply = s.supply := rfl
@[simp] theorem State.setRunning_due (w : Option WriteRecord) : (s.setRunning w).due = s.due := rfl
@[simp] theorem State.setRunning_freeCount (w : Option WriteRecord) : (s.setRunning w).freeCount = s.freeCount := rfl

@[simp] theorem State.setSuspended_pending (w : Option Suspended) : (s.setSuspended w).pending = s.pending := rfl
@[simp] theorem State.setSuspended_deferred (w : Option Suspended) : (s.setSuspended w).deferred = s.deferred := rfl
@[simp] theorem State.setSuspended_link (w : Option Suspended) : (s.setSuspended w).link = s.link := rfl
@[simp] theorem State.setSuspended_notices (w : Option Suspended) : (s.setSuspended w).notices = s.notices := rfl
@[simp] theorem State.setSuspended_pins (w : Option Suspended) : (s.setSuspended w).pins = s.pins := rfl
@[simp] theorem State.setSuspended_schemes (w : Option Suspended) : (s.setSuspended w).schemes = s.schemes := rfl
@[simp] theorem State.setSuspended_slots (w : Option Suspended) : (s.setSuspended w).slots = s.slots := rfl
@[simp] theorem State.setSuspended_edit (w : Option Suspended) : (s.setSuspended w).edit = s.edit := rfl
@[simp] theorem State.setSuspended_seats (w : Option Suspended) : (s.setSuspended w).seats = s.seats := rfl
@[simp] theorem State.setSuspended_meters (w : Option Suspended) : (s.setSuspended w).meters = s.meters := rfl
@[simp] theorem State.setSuspended_meterDirty (w : Option Suspended) : (s.setSuspended w).meterDirty = s.meterDirty := rfl
@[simp] theorem State.setSuspended_interval (w : Option Suspended) : (s.setSuspended w).interval = s.interval := rfl
@[simp] theorem State.setSuspended_pool (w : Option Suspended) : (s.setSuspended w).pool = s.pool := rfl
@[simp] theorem State.setSuspended_requests (w : Option Suspended) : (s.setSuspended w).requests = s.requests := rfl
@[simp] theorem State.setSuspended_grants (w : Option Suspended) : (s.setSuspended w).grants = s.grants := rfl
@[simp] theorem State.setSuspended_clock (w : Option Suspended) : (s.setSuspended w).clock = s.clock := rfl
@[simp] theorem State.setSuspended_settings (w : Option Suspended) : (s.setSuspended w).settings = s.settings := rfl
@[simp] theorem State.setSuspended_authority (w : Option Suspended) : (s.setSuspended w).authority = s.authority := rfl
@[simp] theorem State.setSuspended_load (w : Option Suspended) : (s.setSuspended w).load = s.load := rfl
@[simp] theorem State.setSuspended_supply (w : Option Suspended) : (s.setSuspended w).supply = s.supply := rfl
@[simp] theorem State.setSuspended_due (w : Option Suspended) : (s.setSuspended w).due = s.due := rfl
@[simp] theorem State.setSuspended_freeCount (w : Option Suspended) : (s.setSuspended w).freeCount = s.freeCount := rfl

@[simp] theorem State.setQueue_pending (q : List QueueItem) : (s.setQueue q).pending = s.pending := rfl
@[simp] theorem State.setQueue_deferred (q : List QueueItem) : (s.setQueue q).deferred = s.deferred := rfl
@[simp] theorem State.setQueue_link (q : List QueueItem) : (s.setQueue q).link = s.link := rfl
@[simp] theorem State.setQueue_notices (q : List QueueItem) : (s.setQueue q).notices = s.notices := rfl
@[simp] theorem State.setQueue_pins (q : List QueueItem) : (s.setQueue q).pins = s.pins := rfl
@[simp] theorem State.setQueue_schemes (q : List QueueItem) : (s.setQueue q).schemes = s.schemes := rfl
@[simp] theorem State.setQueue_slots (q : List QueueItem) : (s.setQueue q).slots = s.slots := rfl
@[simp] theorem State.setQueue_edit (q : List QueueItem) : (s.setQueue q).edit = s.edit := rfl
@[simp] theorem State.setQueue_seats (q : List QueueItem) : (s.setQueue q).seats = s.seats := rfl
@[simp] theorem State.setQueue_meters (q : List QueueItem) : (s.setQueue q).meters = s.meters := rfl
@[simp] theorem State.setQueue_meterDirty (q : List QueueItem) : (s.setQueue q).meterDirty = s.meterDirty := rfl
@[simp] theorem State.setQueue_interval (q : List QueueItem) : (s.setQueue q).interval = s.interval := rfl
@[simp] theorem State.setQueue_pool (q : List QueueItem) : (s.setQueue q).pool = s.pool := rfl
@[simp] theorem State.setQueue_requests (q : List QueueItem) : (s.setQueue q).requests = s.requests := rfl
@[simp] theorem State.setQueue_grants (q : List QueueItem) : (s.setQueue q).grants = s.grants := rfl
@[simp] theorem State.setQueue_clock (q : List QueueItem) : (s.setQueue q).clock = s.clock := rfl
@[simp] theorem State.setQueue_settings (q : List QueueItem) : (s.setQueue q).settings = s.settings := rfl
@[simp] theorem State.setQueue_authority (q : List QueueItem) : (s.setQueue q).authority = s.authority := rfl
@[simp] theorem State.setQueue_load (q : List QueueItem) : (s.setQueue q).load = s.load := rfl
@[simp] theorem State.setQueue_supply (q : List QueueItem) : (s.setQueue q).supply = s.supply := rfl
@[simp] theorem State.setQueue_due (q : List QueueItem) : (s.setQueue q).due = s.due := rfl
@[simp] theorem State.setQueue_freeCount (q : List QueueItem) : (s.setQueue q).freeCount = s.freeCount := rfl

@[simp] theorem State.setStatus_pending (b : BlockId) (v : BlockStatus) : (s.setStatus b v).pending = s.pending := rfl
@[simp] theorem State.setStatus_deferred (b : BlockId) (v : BlockStatus) : (s.setStatus b v).deferred = s.deferred := rfl
@[simp] theorem State.setStatus_link (b : BlockId) (v : BlockStatus) : (s.setStatus b v).link = s.link := rfl
@[simp] theorem State.setStatus_notices (b : BlockId) (v : BlockStatus) : (s.setStatus b v).notices = s.notices := rfl
@[simp] theorem State.setStatus_pins (b : BlockId) (v : BlockStatus) : (s.setStatus b v).pins = s.pins := rfl
@[simp] theorem State.setStatus_schemes (b : BlockId) (v : BlockStatus) : (s.setStatus b v).schemes = s.schemes := rfl
@[simp] theorem State.setStatus_slots (b : BlockId) (v : BlockStatus) : (s.setStatus b v).slots = s.slots := rfl
@[simp] theorem State.setStatus_edit (b : BlockId) (v : BlockStatus) : (s.setStatus b v).edit = s.edit := rfl
@[simp] theorem State.setStatus_seats (b : BlockId) (v : BlockStatus) : (s.setStatus b v).seats = s.seats := rfl
@[simp] theorem State.setStatus_meters (b : BlockId) (v : BlockStatus) : (s.setStatus b v).meters = s.meters := rfl
@[simp] theorem State.setStatus_meterDirty (b : BlockId) (v : BlockStatus) : (s.setStatus b v).meterDirty = s.meterDirty := rfl
@[simp] theorem State.setStatus_interval (b : BlockId) (v : BlockStatus) : (s.setStatus b v).interval = s.interval := rfl
@[simp] theorem State.setStatus_pool (b : BlockId) (v : BlockStatus) : (s.setStatus b v).pool = s.pool := rfl
@[simp] theorem State.setStatus_requests (b : BlockId) (v : BlockStatus) : (s.setStatus b v).requests = s.requests := rfl
@[simp] theorem State.setStatus_grants (b : BlockId) (v : BlockStatus) : (s.setStatus b v).grants = s.grants := rfl
@[simp] theorem State.setStatus_clock (b : BlockId) (v : BlockStatus) : (s.setStatus b v).clock = s.clock := rfl
@[simp] theorem State.setStatus_settings (b : BlockId) (v : BlockStatus) : (s.setStatus b v).settings = s.settings := rfl
@[simp] theorem State.setStatus_authority (b : BlockId) (v : BlockStatus) : (s.setStatus b v).authority = s.authority := rfl
@[simp] theorem State.setStatus_load (b : BlockId) (v : BlockStatus) : (s.setStatus b v).load = s.load := rfl
@[simp] theorem State.setStatus_supply (b : BlockId) (v : BlockStatus) : (s.setStatus b v).supply = s.supply := rfl
@[simp] theorem State.setStatus_due (b : BlockId) (v : BlockStatus) : (s.setStatus b v).due = s.due := rfl
@[simp] theorem State.setStatus_freeCount (b : BlockId) (v : BlockStatus) : (s.setStatus b v).freeCount = s.freeCount := rfl

@[simp] theorem State.putContents_pending (b : BlockId) (c : Contents) : (s.putContents b c).pending = s.pending := rfl
@[simp] theorem State.putContents_deferred (b : BlockId) (c : Contents) : (s.putContents b c).deferred = s.deferred := rfl
@[simp] theorem State.putContents_link (b : BlockId) (c : Contents) : (s.putContents b c).link = s.link := rfl
@[simp] theorem State.putContents_notices (b : BlockId) (c : Contents) : (s.putContents b c).notices = s.notices := rfl
@[simp] theorem State.putContents_pins (b : BlockId) (c : Contents) : (s.putContents b c).pins = s.pins := rfl
@[simp] theorem State.putContents_schemes (b : BlockId) (c : Contents) : (s.putContents b c).schemes = s.schemes := rfl
@[simp] theorem State.putContents_slots (b : BlockId) (c : Contents) : (s.putContents b c).slots = s.slots := rfl
@[simp] theorem State.putContents_edit (b : BlockId) (c : Contents) : (s.putContents b c).edit = s.edit := rfl
@[simp] theorem State.putContents_seats (b : BlockId) (c : Contents) : (s.putContents b c).seats = s.seats := rfl
@[simp] theorem State.putContents_meters (b : BlockId) (c : Contents) : (s.putContents b c).meters = s.meters := rfl
@[simp] theorem State.putContents_meterDirty (b : BlockId) (c : Contents) : (s.putContents b c).meterDirty = s.meterDirty := rfl
@[simp] theorem State.putContents_interval (b : BlockId) (c : Contents) : (s.putContents b c).interval = s.interval := rfl
@[simp] theorem State.putContents_pool (b : BlockId) (c : Contents) : (s.putContents b c).pool = s.pool := rfl
@[simp] theorem State.putContents_requests (b : BlockId) (c : Contents) : (s.putContents b c).requests = s.requests := rfl
@[simp] theorem State.putContents_grants (b : BlockId) (c : Contents) : (s.putContents b c).grants = s.grants := rfl
@[simp] theorem State.putContents_clock (b : BlockId) (c : Contents) : (s.putContents b c).clock = s.clock := rfl
@[simp] theorem State.putContents_settings (b : BlockId) (c : Contents) : (s.putContents b c).settings = s.settings := rfl
@[simp] theorem State.putContents_authority (b : BlockId) (c : Contents) : (s.putContents b c).authority = s.authority := rfl
@[simp] theorem State.putContents_load (b : BlockId) (c : Contents) : (s.putContents b c).load = s.load := rfl
@[simp] theorem State.putContents_supply (b : BlockId) (c : Contents) : (s.putContents b c).supply = s.supply := rfl
@[simp] theorem State.putContents_due (b : BlockId) (c : Contents) : (s.putContents b c).due = s.due := rfl
@[simp] theorem State.putContents_freeCount (b : BlockId) (c : Contents) : (s.putContents b c).freeCount = s.freeCount := rfl

@[simp] theorem State.drivePins_pins : s.drivePins.pins = s.pinsOf := rfl

@[simp] theorem State.addNotice_notices (n : Notice) :
    (s.addNotice n).notices = s.notices ||| BitVec.twoPow 16 n.bit := rfl

@[simp] theorem State.hold_link (r : Response) : (s.hold r).link = { s.link with buffer := some r } := rfl

@[simp] theorem State.putSeat_seats (k : Fin 6) (es : List Entry) (p : Option Programme) :
    (s.putSeat k es p).seats = s.seats.set k (s.deriveSeat es p) := rfl

@[simp] theorem State.dropRequest_requests (k : Fin 16) :
    (s.dropRequest k).requests = s.requests.filter (·.slot ≠ k) := rfl

@[simp] theorem State.setRunning_store (w : Option WriteRecord) :
    (s.setRunning w).store = { s.store with running := w } := rfl

@[simp] theorem State.setSuspended_store (w : Option Suspended) :
    (s.setSuspended w).store = { s.store with suspended := w } := rfl

@[simp] theorem State.setQueue_store (q : List QueueItem) :
    (s.setQueue q).store = { s.store with queue := q } := rfl

@[simp] theorem State.setStatus_store (b : BlockId) (v : BlockStatus) :
    (s.setStatus b v).store = { s.store with status := s.store.status.set b v } := rfl

@[simp] theorem State.putContents_store (b : BlockId) (c : Contents) :
    (s.putContents b c).store =
      { s.store with blocks := s.store.blocks.set b { s.store.blocks[b] with contents := c } } := rfl

/-! ## Derived readings that an update leaves as they were -/

@[simp] theorem State.drivePins_pinsOf : s.drivePins.pinsOf = s.pinsOf := rfl

@[simp] theorem State.deriveSeat_state (es : List Entry) (p : Option Programme) :
    (s.deriveSeat es p).state = seatStateOf es p := rfl

@[simp] theorem State.deriveSeat_entries (es : List Entry) (p : Option Programme) :
    (s.deriveSeat es p).entries = es := rfl

@[simp] theorem State.deriveSeat_programme (es : List Entry) (p : Option Programme) :
    (s.deriveSeat es p).programme = p := rfl

/-- A commit request touches the commit queue alone (R181). -/
theorem State.commit_eq (b : BlockId) :
    s.commit b = s.setQueue
      (if s.store.queue.any (·.block = b) then s.store.queue else s.store.queue ++ [⟨b, false⟩]) := by
  unfold State.commit; split <;> rfl

end Sys2Proof.Machine
end

