-- ==== Sys2Proof/Laws/Commands.lean ====
section
/-! SUPPORT. How a row is taken: the one lemma about `State.taken` for each of its cases, and the lemma by which
the step of a command that the link port handed over is its owner's reply. -/

namespace Sys2Proof.Machine

theorem taken_held {s : State} (h : s.supply.held = true) (i : Instr) (f : State → State) :
    s.taken i f = s := by simp [State.taken, h]

theorem taken_awake {s : State} (h : s.Awake) (i : Instr) (f : State → State) :
    s.taken i f = (f s).drivePins := by simp [State.taken, h.1, h.2]

theorem taken_dip {s : State} (hh : s.supply.held = false) (hd : s.supply.dip = true) (i : Instr)
    (f : State → State) :
    s.taken i f = if keptInDip i then { s with deferred := s.deferred ++ [i] } else s := by
  simp [State.taken, hh, hd]

theorem answer_drivePins (i : Instr) (out : State × Reply) :
    (State.answer i out).drivePins = out.1.replied i out.2.status out.2.payload := rfl

/-- The step of a command that the link port has handed to its owner: the owner's reply is held (R199). -/
theorem taken_command {s : State} {i : Instr} (h : s.Handed i) (f : State → State × Reply) :
    s.taken i (State.command i f) = (f s).1.replied i (f s).2.status (f s).2.payload := by
  rw [taken_awake h.1, State.command, if_pos h.2, answer_drivePins]

/-- A guarded command under an OPEN window is what it guards (R173). -/
theorem guarded_open {s : State} (h : s.authority.window.isSome = true) (f : State × Reply) :
    guarded s f = f := by simp [guarded, h]

/-- A guarded command under a CLOSED window is refused NOT_PERMITTED and changes nothing (R173). -/
theorem guarded_closed {s : State} (h : s.authority.window = none) (f : State × Reply) :
    guarded s f = (s, refuse .notPermitted) := by simp [guarded, h]

@[simp] theorem withFields_fields {α : Type} (a : α) (s : State) (f : α → State × Reply) :
    withFields (.fields a) s f = f a := rfl

@[simp] theorem withFields_misfit {α : Type} (s : State) (f : α → State × Reply) :
    withFields .misfit s f = (s, refuse .badArgument) := rfl

/-- A shuffled list of work holds what it held (R113, R191). -/
theorem shuffle_perm {α : Type} (fuel : Nat) (work : List α) (s : State) (h : work.length ≤ fuel) :
    (State.shuffle fuel work s).1.Perm work := by
  induction fuel generalizing work s with
  | zero => exact .refl _
  | succ n ih =>
    match work with
    | [] => exact .refl _
    | w :: ws =>
      have hk : (s.draw (w :: ws).length).1 < (w :: ws).length := Nat.mod_lt _ (by simp)
      simp only [State.shuffle]
      refine (List.Perm.cons _ (ih _ _ (by
        rw [List.length_eraseIdx_of_lt hk]; simp only [List.length_cons] at h ⊢; omega))).trans ?_
      rw [List.getElem?_eq_getElem hk, Option.getD_some]
      exact List.getElem_cons_eraseIdx_perm hk

/-- Drawing choices changes only the count of choices. -/
theorem shuffle_state {α : Type} (fuel : Nat) (work : List α) (s : State) :
    ∃ n, (State.shuffle fuel work s).2 = { s with freeCount := n } := by
  induction fuel generalizing work s with
  | zero => exact ⟨_, rfl⟩
  | succ n ih =>
    match work with
    | [] => exact ⟨_, rfl⟩
    | w :: ws =>
      obtain ⟨m, hm⟩ := ih ((w :: ws).eraseIdx (s.draw (w :: ws).length).1) (s.draw (w :: ws).length).2
      exact ⟨m, by rw [State.shuffle, hm]; rfl⟩

end Sys2Proof.Machine
end

