-- ==== Sys2Proof/Laws/Exhaustion.lean ====
section
/-! SUPPORT. What direct writes do entry by entry, and what the end of a profile's time writes (R59, R105). -/

namespace Sys2Proof.Machine

/-- A direct write gives each entry its state and keeps its slot and place (R59). -/
@[simp] theorem writeEntries_entries (s : State) (f : Seat → Entry → EntryState) (j : Fin 6) :
    (s.writeEntries f).seats[j].entries = s.seats[j].entries.map fun e => ⟨e.slot, f s.seats[j] e⟩ := by
  simp [State.writeEntries, State.deriveSeat]

@[simp] theorem writeEntries_programme (s : State) (f : Seat → Entry → EntryState) (j : Fin 6) :
    (s.writeEntries f).seats[j].programme = s.seats[j].programme := by
  simp [State.writeEntries, State.deriveSeat]

/-- Some seat of the list is some seat by its number. -/
theorem any_seats (s : State) (f : Seat → Bool) :
    s.seats.toList.any f = true ↔ ∃ j : Fin 6, f s.seats[j] = true := by
  rw [List.any_eq_true]
  constructor
  · rintro ⟨x, hx, h⟩
    rw [Vector.mem_toList_iff, Vector.mem_iff_getElem] at hx
    obtain ⟨i, hi, rfl⟩ := hx
    exact ⟨⟨i, hi⟩, h⟩
  · rintro ⟨j, h⟩
    exact ⟨_, by rw [Vector.mem_toList_iff]; exact Vector.getElem_mem j.isLt, h⟩

theorem windEndOn_eq (s : State) (cap : Nat) (j : Fin 6) : s.windEndOn cap s.seats[j] =
    ((s.seats[j].programme.bind (·.ends)).filter fun e => decide (s.clock.counter < e)).map
      fun x => min x (s.clock.counter + 60 * cap) := by
  unfold State.windEndOn
  cases s.seats[j].programme.bind (·.ends) <;> simp [Option.filter]

/-- When wind-down is available (R105). -/
theorem windDownOpen_iff (s : State) (k : Fin 16) (cap : Nat) (sel : Seat → Entry → Bool) :
    s.windDownOpen k cap sel = true ↔ 0 < cap ∧ s.meters[k].windUsed = false
      ∧ ∃ j : Fin 6,
        ((s.seats[j].programme.bind (·.ends)).filter fun e => decide (s.clock.counter < e)).isSome = true
          ∧ ∃ e ∈ s.seats[j].entries, sel s.seats[j] e = true := by
  unfold State.windDownOpen
  rw [Bool.and_eq_true, any_seats]
  simp only [Bool.and_eq_true, decide_eq_true_eq, Bool.not_eq_true', List.any_eq_true, windEndOn_eq,
    Option.isSome_map, and_assoc]

/-- All that the end of a profile's time does (R105). -/
theorem windDownOrDeny_spec (s : State) (k : Fin 16) (sel : Seat → Entry → Bool) (sel' : Fin 6 → Entry → Bool)
    (h' : ∀ j : Fin 6, ∀ e ∈ s.seats[j].entries, sel s.seats[j] e = sel' j e) :
    WindsDownOrDenies s (s.windDownOrDeny k sel) k sel' fun _ e => e := by
  unfold WindsDownOrDenies
  intro cap ends writes available
  have hav : s.windDownOpen k cap sel = true ↔ available := by
    rw [windDownOpen_iff]
    refine and_congr_right fun _ => and_congr_right fun _ => exists_congr fun j => and_congr_right fun _ =>
      exists_congr fun e => and_congr_right fun he => by rw [h' j e he]
  have hu : s.windDownOrDeny k sel = if s.windDownOpen k cap sel then (s.writeEntries fun seat e =>
      if sel seat e then
        match s.windEndOn cap seat with
        | some ends => .winding e.state.kept ends
        | none => .denied .time
      else e.state).useWindDown k else s.denyTime sel := rfl
  refine ⟨?_, ?_, ?_, ?_⟩
  · rw [hu]; split <;> rfl
  · rw [hu]; split <;> rfl
  · intro h
    rw [if_pos (hav.mpr h)] at hu
    refine ⟨by rw [hu]; rfl, fun j => ?_⟩
    rw [hu, State.useWindDown_seats, writeEntries_entries]
    refine List.map_congr_left fun e he => ?_
    rw [← h' j e he, windEndOn_eq]
    by_cases hs : sel s.seats[j] e = true
    · rw [if_pos hs, if_pos hs]
      congr 1
      show _ = (match ends j with | some x => _ | none => _)
      simp only [ends]
      cases (s.seats[j].programme.bind (·.ends)).filter fun e => decide (s.clock.counter < e) <;> rfl
    · rw [if_neg hs, if_neg hs]
  · intro h
    rw [if_neg (fun x => h (hav.mp x))] at hu
    refine ⟨by rw [hu]; rfl, fun j => ?_⟩
    rw [hu, State.denyTime, writeEntries_entries]
    refine List.map_congr_left fun e he => ?_
    rw [← h' j e he]
    by_cases hs : sel s.seats[j] e = true
    · rw [if_pos hs, if_pos hs]
    · rw [if_neg hs, if_neg hs]

end Sys2Proof.Machine
end

