-- ==== Sys2Proof/Laws/Load.lean ====
section
/-! SUPPORT. What the start-up load reads from a block, and what its owner settles from it (R3, R39, R166,
R179). -/

namespace Sys2Proof.Machine

/-- What is handed to the owner is what the block reads as (R179). -/
theorem classify_of_reads {s : State} {b : BlockId} {r : ReadResult} (h : s.Reads b r) :
    classify s.store.blocks[b] = r := by
  have hc : ∀ d : BlockData, d.crc = crc16 (Config.storedBytes d) := fun _ => rfl
  cases r with
  | blank => simp only [State.Reads] at h; rw [h]; rfl
  | failed =>
    simp only [State.Reads] at h
    rcases h with h | ⟨i, h, h'⟩ | h | ⟨c, h⟩ | ⟨c, h, h'⟩
    · simp only [classify, h]
    · simp only [classify, h, hc]; rw [if_neg h']
    · rw [h]; rfl
    · rw [h]; rfl
    · rw [h]; simp [classify, h']
  | passed d =>
    simp only [State.Reads] at h
    rcases h with h | ⟨c, h, h'⟩
    · simp only [classify, h, hc, if_true]
    · rw [h]; simp [classify, h']

theorem commit_settled (s : State) (b : BlockId) : s.commit b = { s with store := { s.store with
    queue := if s.queued b = false then s.store.queue ++ [⟨b, false⟩] else s.store.queue } } := by
  unfold State.commit State.queued
  cases h : s.store.queue.any (·.block = b) <;> simp

theorem ofCode_all {gs : List Nat} (h : (gs.filterMap RuleGroup.ofCode).length = gs.length) :
    (gs.filterMap RuleGroup.ofCode).map RuleGroup.code = gs := by
  induction gs with
  | nil => rfl
  | cons a gs ih =>
    have hle := List.length_filterMap_le RuleGroup.ofCode gs
    match a with
    | 0 | 1 | 2 | 3 =>
      simp only [List.filterMap_cons, RuleGroup.ofCode, List.length_cons, Nat.add_right_cancel_iff] at h
      simp only [List.filterMap_cons, RuleGroup.ofCode, List.map_cons, RuleGroup.code, ih h]
    | n + 4 => simp only [List.filterMap_cons, RuleGroup.ofCode, List.length_cons] at h; omega

/-- Valid settings come back from their contents (R166). -/
theorem settings_image {h : Settings} (hv : h.valid = true) : h.image.settings? = some h := by
  obtain ⟨pin, go, ti, ps, wl⟩ := h
  have hl : (go.map RuleGroup.code).filterMap RuleGroup.ofCode = go := by
    rw [List.filterMap_map]
    have : (RuleGroup.ofCode ∘ RuleGroup.code) = some := by funext x; cases x <;> rfl
    rw [this, List.filterMap_some]
  have h4 : go.length = 4 := by
    simp [Settings.valid, groupOrderValid] at hv; omega
  simp only [HouseholdImage.settings?, Settings.image, hl, List.length_map, h4, hv]
  simp

/-- Contents that give settings are those of valid ones (R166). -/
theorem image_settings {i : HouseholdImage} {h : Settings} (hi : i.settings? = some h) :
    h.valid = true ∧ i = h.image := by
  obtain ⟨pin, gs, ti, ps, wl⟩ := i
  simp only [HouseholdImage.settings?] at hi
  split at hi
  · rename_i hc
    cases hi
    simp only [Bool.and_eq_true, decide_eq_true_eq] at hc
    have hlen : (gs.filterMap RuleGroup.ofCode).length = gs.length := by
      have := hc.2; simp [Settings.valid, groupOrderValid] at this; omega
    exact ⟨hc.2, by simp only [Settings.image]; rw [ofCode_all hlen]⟩
  · cases hi

/-- What the guardian unit settles from the household block (R166). -/
theorem settleHousehold_spec {s : State} {r : ReadResult} {h : Settings} {v : BlockStatus}
    (g : HouseholdGives r h v) :
    s.settleHousehold r = s.settledBlock householdBlock v { s with settings := h } (v = .damaged) := by
  rcases g with ⟨rfl, rfl, rfl⟩ | ⟨rfl, hv, rfl⟩ | ⟨hr, rfl, rfl⟩
  · rfl
  · simp only [State.settleHousehold, settings_image hv]; rfl
  · have key : s.settleHousehold r =
        (State.setStatus { s with settings := Settings.factory } householdBlock .damaged).commit householdBlock := by
      rcases hr with rfl | ⟨d, rfl, hd⟩
      · rfl
      · cases d <;> try rfl
        rename_i i
        cases hi : i.settings? with
        | none => simp only [State.settleHousehold, hi]
        | some x => exact absurd (by rw [(image_settings hi).2]) (hd x (image_settings hi).1)
    rw [key, commit_settled]
    simp [State.settledBlock, State.setStatus, State.queued]

/-- What the scheme table settles from a scheme block (R3). -/
theorem settleScheme_spec {s : State} {b : BlockId} {k : Fin 8} (hb : b.val = 14 + k.val) {r : ReadResult}
    {c : SchemeSlot} {v : BlockStatus} (g : SchemeGives r c v) :
    s.settleScheme k r = s.settledBlock b v { s with schemes := s.schemes.set k c } False := by
  have hbb : schemeBlock k = b := Fin.ext hb.symm
  rcases g with ⟨rfl, rfl, rfl⟩ | ⟨i, rfl, hv, rfl, rfl⟩ | ⟨i, rfl, hv, rfl, rfl⟩ | ⟨hr, rfl, rfl⟩
  · simp [State.settleScheme, State.settledBlock, hbb, State.setStatus]
  · simp [State.settleScheme, State.settledBlock, hbb, State.setStatus, SchemeImage.slot?, hv.1, hv.2]
  · obtain ⟨h1, h2, h3, h4, h5⟩ := hv
    have hc : Scheme.valid ⟨i.tag, i.levels⟩ = true := by
      rw [h2] at h3 h4
      simp only [Scheme.valid, Bool.and_eq_true, decide_eq_true_eq, List.all_eq_true]
      exact ⟨⟨h3, h4⟩, h5⟩
    have : i.slot? = some ⟨i.locked, some ⟨i.tag, i.levels⟩⟩ := by
      simp [SchemeImage.slot?, h1, h2, hc]
    simp [State.settleScheme, State.settledBlock, hbb, State.setStatus, this]
  · rcases hr with rfl | ⟨d, rfl, hd⟩
    · simp [State.settleScheme, State.settledBlock, hbb, State.setStatus]
    · cases d <;> try (simp [State.settleScheme, State.settledBlock, hbb, State.setStatus]; done)
      rename_i i
      obtain ⟨h1, h2⟩ := hd i rfl
      have : i.slot? = none := by
        unfold SchemeImage.slot?
        by_cases h0 : i.state = 0
        · have : i.locked = true := by simpa [h0] using h1
          simp [h0, this]
        · simp only [h0]
          by_cases h3 : i.state = 1
          · simp [h3, Scheme.valid] at h2 ⊢
            intro h5 h6 h7
            exact h2 h5 (by omega) (by omega)
          · simp [h3]
      simp [State.settleScheme, State.settledBlock, hbb, State.setStatus, this]

/-- A slot whose block gave no record (R39). -/
theorem withoutRecord_spec {s : State} {b : BlockId} {k : Fin 16} (hb : b.val = k.val) (x : Slot)
    {v : BlockStatus} (hv : v ≠ .ok) :
    s.withoutRecord k x v = s.settledBlock b v
      { s with slots := s.slots.set k (if k = 0 then Slot.live Profile.factoryGuest else x) } (k = 0 ∧ v ≠ .ok) := by
  have hbb : profileBlock k = b := Fin.ext hb.symm
  unfold State.withoutRecord
  by_cases hk : k = 0
  · rw [if_pos hk, commit_settled, hbb]
    simp only [State.takeSlot, State.settledBlock, State.setStatus, hk, if_true, true_and, State.queued]
    subst hk
    simp only [ne_eq, hv, not_false_iff, true_and, hbb]
  · rw [if_neg hk]
    simp [State.takeSlot, State.settledBlock, State.setStatus, hbb, hk]

/-- What the profile table settles from a profile block; after block 15 the token law follows (R39, R40). -/
theorem settleProfile_spec {s : State} {b : BlockId} {k : Fin 16} (hb : b.val = k.val) {r : ReadResult}
    {c : Slot} {v : BlockStatus} (g : ProfileGives k r c v) :
    s.settleProfile k r =
      (let put := s.settledBlock b v { s with slots := s.slots.set k c } (k = 0 ∧ v ≠ .ok)
       if k = 15 then put.tokenLaw else put) := by
  have hbb : profileBlock k = b := Fin.ext hb.symm
  have slotOf : ∀ (i : ProfileImage) (p : Profile), (i.state = 1 ∧ i.codesOk = true ∧ p.proper = true
      ∧ (p.kind = .guest ↔ k = 0) ∧ ((i.kind = 0 ∧ p = .guest i.who i.rules)
        ∨ (i.kind = 1 ∧ p = .child i.who i.rules) ∨ (i.kind = 2 ∧ p = .guardian i.who))) →
      i.slot? k = some (.live p) := by
    rintro i p ⟨h1, h2, h3, h4, h5⟩
    have : i.profile? = some p := by
      rcases h5 with ⟨h, rfl⟩ | ⟨h, rfl⟩ | ⟨h, rfl⟩ <;> simp [ProfileImage.profile?, h]
    simp [ProfileImage.slot?, h1, h2, this, h3, kindFits, h4]
  have ofSlot : ∀ (i : ProfileImage) (x : Slot), i.slot? k = some x → (i.state = 0 ∧ k ≠ 0) ∨ ∃ p : Profile,
      i.state = 1 ∧ i.codesOk = true ∧ p.proper = true ∧ (p.kind = .guest ↔ k = 0)
        ∧ ((i.kind = 0 ∧ p = .guest i.who i.rules) ∨ (i.kind = 1 ∧ p = .child i.who i.rules)
          ∨ (i.kind = 2 ∧ p = .guardian i.who)) := by
    intro i x hx
    unfold ProfileImage.slot? at hx
    split at hx
    · rename_i h0
      split at hx
      · cases hx
      · rename_i hk; exact .inl ⟨h0, hk⟩
    · split at hx
      · rename_i hc
        simp only [Bool.and_eq_true, decide_eq_true_eq] at hc
        cases hp : i.profile? with
        | none => rw [hp] at hx; cases hx
        | some p =>
          rw [hp] at hx
          dsimp only at hx
          split at hx
          · rename_i hf
            simp only [Bool.and_eq_true] at hf
            refine .inr ⟨p, hc.1, hc.2, hf.1, ?_, ?_⟩
            · have := hf.2; simp only [kindFits, decide_eq_true_eq] at this
              exact ⟨fun h => this.mpr h, fun h => this.mp h⟩
            · unfold ProfileImage.profile? at hp
              split at hp
              · cases hp; simp [*]
              · split at hp
                · cases hp; simp [*]
                · split at hp
                  · cases hp; simp [*]
                  · cases hp
          · cases hx
      · cases hx
  have lost (x : Slot) {v : BlockStatus} (hv : v ≠ .ok) := withoutRecord_spec (s := s) hb x hv
  unfold State.settleProfile
  dsimp only
  rcases g with ⟨rfl, rfl, rfl⟩ | ⟨i, p, rfl, hv, rfl, rfl⟩ | ⟨i, rfl, hv, hk, rfl, rfl⟩ | ⟨hr, rfl, rfl⟩
  · simp only [lost .free (v := .blank) (by decide)]
  · simp only [slotOf i p hv]
    simp [State.takeSlot, State.settledBlock, State.setStatus, hbb]
  · have : i.slot? k = some .free := by simp [ProfileImage.slot?, hv, hk]
    simp only [this]
    simp [State.takeSlot, State.settledBlock, State.setStatus, hbb]
  · rcases hr with rfl | ⟨d, rfl, hd⟩
    · simp only [lost .damaged (v := .damaged) (by decide)]
    · cases d
      case scheme | household | grants | meter => simp only [lost .damaged (v := .damaged) (by decide)]
      rename_i i
      obtain ⟨h1, h2⟩ := hd i rfl
      cases hi : i.slot? k with
      | none => simp only [hi, lost .damaged (v := .damaged) (by decide)]
      | some x =>
        rcases ofSlot i x hi with ⟨h, hk⟩ | ⟨p, hp⟩
        · exact absurd (h1 h) hk
        · exact absurd hp (h2 p)

end Sys2Proof.Machine
end

