-- ==== Sys2Proof/Laws/PerInstr.lean ====
section
/-! SUPPORT. A statement made for each row: the code of a command names that command, whatever its payload
(R197, 11.6). -/

namespace Sys2Proof

/-- The command that a row's code and any payload name has that code; a transaction and an event have none. -/
def Laws.CommandCodes.Statement (i : Instr) : Prop :=
  ∀ code payload, commandCode i = some code → ∃ j, decodeCommand code payload = some j ∧ commandCode j = some code

theorem Laws.CommandCodes.writeTransaction (frame : List Byte) : Laws.CommandCodes.Statement (.writeTransaction frame) := by
  intro code payload h; cases h

theorem Laws.CommandCodes.fetchTransaction (clocked : Nat) : Laws.CommandCodes.Statement (.fetchTransaction clocked) := by
  intro code payload h; cases h

theorem Laws.CommandCodes.badTransaction (selector : Option Byte) : Laws.CommandCodes.Statement (.badTransaction selector) := by
  intro code payload h; cases h

theorem Laws.CommandCodes.sload (req : Req SloadArgs) : Laws.CommandCodes.Statement (.sload req) := by
  intro code payload h; cases h; exact ⟨_, rfl, rfl⟩

theorem Laws.CommandCodes.sclr (req : Req Byte) : Laws.CommandCodes.Statement (.sclr req) := by
  intro code payload h; cases h; exact ⟨_, rfl, rfl⟩

theorem Laws.CommandCodes.slock (req : Req Byte) : Laws.CommandCodes.Statement (.slock req) := by
  intro code payload h; cases h; exact ⟨_, rfl, rfl⟩

theorem Laws.CommandCodes.sread (req : Req Byte) : Laws.CommandCodes.Statement (.sread req) := by
  intro code payload h; cases h; exact ⟨_, rfl, rfl⟩

theorem Laws.CommandCodes.eopen (req : Req EopenArgs) : Laws.CommandCodes.Statement (.eopen req) := by
  intro code payload h; cases h; exact ⟨_, rfl, rfl⟩

theorem Laws.CommandCodes.eset (req : Req EsetArgs) : Laws.CommandCodes.Statement (.eset req) := by
  intro code payload h; cases h; exact ⟨_, rfl, rfl⟩

theorem Laws.CommandCodes.ecommit (req : Req Unit) : Laws.CommandCodes.Statement (.ecommit req) := by
  intro code payload h; cases h; exact ⟨_, rfl, rfl⟩

theorem Laws.CommandCodes.edrop (req : Req Unit) : Laws.CommandCodes.Statement (.edrop req) := by
  intro code payload h; cases h; exact ⟨_, rfl, rfl⟩

theorem Laws.CommandCodes.pread (req : Req Byte) : Laws.CommandCodes.Statement (.pread req) := by
  intro code payload h; cases h; exact ⟨_, rfl, rfl⟩

theorem Laws.CommandCodes.retire (req : Req Byte) : Laws.CommandCodes.Statement (.retire req) := by
  intro code payload h; cases h; exact ⟨_, rfl, rfl⟩

theorem Laws.CommandCodes.lookup (req : Req Word) : Laws.CommandCodes.Statement (.lookup req) := by
  intro code payload h; cases h; exact ⟨_, rfl, rfl⟩

theorem Laws.CommandCodes.join (req : Req JoinArgs) : Laws.CommandCodes.Statement (.join req) := by
  intro code payload h; cases h; exact ⟨_, rfl, rfl⟩

theorem Laws.CommandCodes.leave (req : Req LeaveArgs) : Laws.CommandCodes.Statement (.leave req) := by
  intro code payload h; cases h; exact ⟨_, rfl, rfl⟩

theorem Laws.CommandCodes.vacate (req : Req Byte) : Laws.CommandCodes.Statement (.vacate req) := by
  intro code payload h; cases h; exact ⟨_, rfl, rfl⟩

theorem Laws.CommandCodes.play (req : Req PlayArgs) : Laws.CommandCodes.Statement (.play req) := by
  intro code payload h; cases h; exact ⟨_, rfl, rfl⟩

theorem Laws.CommandCodes.endp (req : Req Byte) : Laws.CommandCodes.Statement (.endp req) := by
  intro code payload h; cases h; exact ⟨_, rfl, rfl⟩

theorem Laws.CommandCodes.sstat (req : Req Byte) : Laws.CommandCodes.Statement (.sstat req) := by
  intro code payload h; cases h; exact ⟨_, rfl, rfl⟩

theorem Laws.CommandCodes.preview (req : Req PreviewArgs) : Laws.CommandCodes.Statement (.preview req) := by
  intro code payload h; cases h; exact ⟨_, rfl, rfl⟩

theorem Laws.CommandCodes.mread (req : Req Byte) : Laws.CommandCodes.Statement (.mread req) := by
  intro code payload h; cases h; exact ⟨_, rfl, rfl⟩

theorem Laws.CommandCodes.topup (req : Req Half) : Laws.CommandCodes.Statement (.topup req) := by
  intro code payload h; cases h; exact ⟨_, rfl, rfl⟩

theorem Laws.CommandCodes.pool (req : Req Unit) : Laws.CommandCodes.Statement (.pool req) := by
  intro code payload h; cases h; exact ⟨_, rfl, rfl⟩

theorem Laws.CommandCodes.gadd (req : Req GaddArgs) : Laws.CommandCodes.Statement (.gadd req) := by
  intro code payload h; cases h; exact ⟨_, rfl, rfl⟩

theorem Laws.CommandCodes.grevoke (req : Req Byte) : Laws.CommandCodes.Statement (.grevoke req) := by
  intro code payload h; cases h; exact ⟨_, rfl, rfl⟩

theorem Laws.CommandCodes.gread (req : Req Byte) : Laws.CommandCodes.Statement (.gread req) := by
  intro code payload h; cases h; exact ⟨_, rfl, rfl⟩

theorem Laws.CommandCodes.clkset (req : Req ClksetArgs) : Laws.CommandCodes.Statement (.clkset req) := by
  intro code payload h; cases h; exact ⟨_, rfl, rfl⟩

theorem Laws.CommandCodes.clkread (req : Req Unit) : Laws.CommandCodes.Statement (.clkread req) := by
  intro code payload h; cases h; exact ⟨_, rfl, rfl⟩

theorem Laws.CommandCodes.pin (req : Req PinArgs) : Laws.CommandCodes.Statement (.pin req) := by
  intro code payload h; cases h; exact ⟨_, rfl, rfl⟩

theorem Laws.CommandCodes.repin (req : Req PinArgs) : Laws.CommandCodes.Statement (.repin req) := by
  intro code payload h; cases h; exact ⟨_, rfl, rfl⟩

theorem Laws.CommandCodes.close (req : Req Unit) : Laws.CommandCodes.Statement (.close req) := by
  intro code payload h; cases h; exact ⟨_, rfl, rfl⟩

theorem Laws.CommandCodes.hset (req : Req HsetArgs) : Laws.CommandCodes.Statement (.hset req) := by
  intro code payload h; cases h; exact ⟨_, rfl, rfl⟩

theorem Laws.CommandCodes.hread (req : Req Unit) : Laws.CommandCodes.Statement (.hread req) := by
  intro code payload h; cases h; exact ⟨_, rfl, rfl⟩

theorem Laws.CommandCodes.store (req : Req Unit) : Laws.CommandCodes.Statement (.store req) := by
  intro code payload h; cases h; exact ⟨_, rfl, rfl⟩

theorem Laws.CommandCodes.retry (req : Req Unit) : Laws.CommandCodes.Statement (.retry req) := by
  intro code payload h; cases h; exact ⟨_, rfl, rfl⟩

theorem Laws.CommandCodes.describe (req : Req Unit) : Laws.CommandCodes.Statement (.describe req) := by
  intro code payload h; cases h; exact ⟨_, rfl, rfl⟩

theorem Laws.CommandCodes.notices (req : Req Unit) : Laws.CommandCodes.Statement (.notices req) := by
  intro code payload h; cases h; exact ⟨_, rfl, rfl⟩

theorem Laws.CommandCodes.restart (req : Req Unit) : Laws.CommandCodes.Statement (.restart req) := by
  intro code payload h; cases h; exact ⟨_, rfl, rfl⟩

theorem Laws.CommandCodes.secondEvent : Laws.CommandCodes.Statement .secondEvent := by
  intro code payload h; cases h

theorem Laws.CommandCodes.minuteBoundary : Laws.CommandCodes.Statement .minuteBoundary := by
  intro code payload h; cases h

theorem Laws.CommandCodes.grantExpiry : Laws.CommandCodes.Statement .grantExpiry := by
  intro code payload h; cases h

theorem Laws.CommandCodes.meteringSecond : Laws.CommandCodes.Statement .meteringSecond := by
  intro code payload h; cases h

theorem Laws.CommandCodes.windDownEnd : Laws.CommandCodes.Statement .windDownEnd := by
  intro code payload h; cases h

theorem Laws.CommandCodes.commitIntervalEnd : Laws.CommandCodes.Statement .commitIntervalEnd := by
  intro code payload h; cases h

theorem Laws.CommandCodes.poolWaitTimeout : Laws.CommandCodes.Statement .poolWaitTimeout := by
  intro code payload h; cases h

theorem Laws.CommandCodes.windowExpiry : Laws.CommandCodes.Statement .windowExpiry := by
  intro code payload h; cases h

theorem Laws.CommandCodes.lockoutEnd : Laws.CommandCodes.Statement .lockoutEnd := by
  intro code payload h; cases h

theorem Laws.CommandCodes.blockWriteBegin : Laws.CommandCodes.Statement .blockWriteBegin := by
  intro code payload h; cases h

theorem Laws.CommandCodes.eraseComplete (interrupted : Bool) : Laws.CommandCodes.Statement (.eraseComplete interrupted) := by
  intro code payload h; cases h

theorem Laws.CommandCodes.programComplete (interrupted : Bool) : Laws.CommandCodes.Statement (.programComplete interrupted) := by
  intro code payload h; cases h

theorem Laws.CommandCodes.verifyComplete (interrupted : Bool) (matched : Bool) : Laws.CommandCodes.Statement (.verifyComplete interrupted matched) := by
  intro code payload h; cases h

theorem Laws.CommandCodes.supplyWarning : Laws.CommandCodes.Statement .supplyWarning := by
  intro code payload h; cases h

theorem Laws.CommandCodes.supplyClear : Laws.CommandCodes.Statement .supplyClear := by
  intro code payload h; cases h

theorem Laws.CommandCodes.dipBegin : Laws.CommandCodes.Statement .dipBegin := by
  intro code payload h; cases h

theorem Laws.CommandCodes.dipEnd (micros : Nat) : Laws.CommandCodes.Statement (.dipEnd micros) := by
  intro code payload h; cases h

theorem Laws.CommandCodes.fullReset (cause : ResetCause) (lvs1 lvs0 : Bool) : Laws.CommandCodes.Statement (.fullReset cause lvs1 lvs0) := by
  intro code payload h; cases h

theorem Laws.CommandCodes.startUpLoad (h : Bool) (v : Nat) :
    Laws.CommandCodes.Statement (.startUpLoad h v) := by
  intro code payload h; cases h

theorem Laws.CommandCodes.storeBlockRead : Laws.CommandCodes.Statement .storeBlockRead := by
  intro code payload h; cases h

end Sys2Proof
end

