-- ==== Sys2Proof/Laws/SeatWork.lean ====
section
/-! SUPPORT. What the shared work of the seat table, the verdict unit, the meter unit and the pool arbiter may
touch: each operation is `SeatWork`, so that every other field is as it was. -/

namespace Sys2Proof.Machine

theorem SeatWork.refl (s : State) : SeatWork s s := rfl

theorem SeatWork.trans {s t u : State} (h : SeatWork s t) (h' : SeatWork t u) : SeatWork s u := by
  cases s; cases t; cases u; simp_all [SeatWork]

/-- Any fold of seat work is seat work. -/
theorem SeatWork.foldl {α : Type} {f : State → α → State} (hf : ∀ s a, SeatWork s (f s a)) (l : List α)
    (s : State) : SeatWork s (l.foldl f s) := by
  induction l generalizing s with
  | nil => exact .refl s
  | cons a l ih => exact (hf s a).trans (ih _)

theorem SeatWork.addNotice (s : State) (n : Notice) : SeatWork s (s.addNotice n) := rfl

theorem SeatWork.putSeat (s : State) (k : Fin 6) (es : List Entry) (p : Option Programme) :
    SeatWork s (s.putSeat k es p) := rfl

theorem SeatWork.writeEntries (s : State) (f : Seat → Entry → EntryState) :
    SeatWork s (s.writeEntries f) := rfl

theorem SeatWork.noteSeats (before s : State) : SeatWork s (State.noteSeats before s) := by
  refine SeatWork.foldl (fun s k => ?_) _ _
  unfold State.noteSeat; split
  · exact .refl s
  · exact .addNotice s _

theorem SeatWork.raiseRequest (s : State) (k : Fin 16) : SeatWork s (s.raiseRequest k) := by
  unfold State.raiseRequest; split
  · exact .refl s
  · dsimp only; split <;> rfl

/-! ## Evaluation -/

theorem SeatWork.judge (s : State) (p : Programme) (g w : Bool) (e : Entry) :
    SeatWork s (s.judge p g w e).1 := by
  unfold State.judge; split
  · exact .refl s
  · split
    · dsimp only
      generalize State.evaluate _ _ _ _ _ _ = v
      split
      · exact .raiseRequest s _
      · exact .refl s
    · exact .refl s

theorem SeatWork.judgeAll (p : Programme) (g w : Bool) (sel : Entry → Bool) (s : State) (es : List Entry) :
    SeatWork s (State.judgeAll p g w sel s es).1 := by
  induction es generalizing s with
  | nil => exact .refl s
  | cons e es ih =>
    unfold State.judgeAll; dsimp only; split
    · exact (SeatWork.judge s p g w e).trans (ih _)
    · exact ih s

theorem SeatWork.reevalSeat (w : Bool) (sel : Entry → Bool) (s : State) (k : Fin 6) :
    SeatWork s (State.reevalSeat w sel s k) := by
  unfold State.reevalSeat; split
  · exact .refl s
  · exact (SeatWork.judgeAll ..).trans (.putSeat ..)

theorem SeatWork.reeval (s : State) (sel : Entry → Bool) : SeatWork s (s.reeval sel) :=
  SeatWork.foldl (SeatWork.reevalSeat true sel) _ s

theorem SeatWork.dropEntry (k : Fin 16) (s : State) (j : Fin 6) : SeatWork s (State.dropEntry k s j) := by
  unfold State.dropEntry; dsimp only; split
  · split
    · exact (SeatWork.putSeat ..).trans (.reevalSeat ..)
    · exact .putSeat ..
  · exact .refl s

/-! ## Exhaustion and waits -/

theorem SeatWork.windDownOrDeny (s : State) (k : Fin 16) (sel : Seat → Entry → Bool) :
    SeatWork s (s.windDownOrDeny k sel) := by
  unfold State.windDownOrDeny; dsimp only; split <;> rfl

theorem SeatWork.exhaustionCheck (s : State) (k : Fin 16) : SeatWork s (s.exhaustionCheck k) := by
  unfold State.exhaustionCheck State.exhaust; dsimp only; split
  · split
    · rfl
    · split
      · exact (SeatWork.raiseRequest s k).trans (.writeEntries ..)
      · exact .windDownOrDeny ..
  · exact .refl s

theorem SeatWork.afterDecrease (s before : State) (k : Fin 16) : SeatWork s (s.afterDecrease before k) := by
  unfold State.afterDecrease; split
  · exact .exhaustionCheck s k
  · exact .refl s

theorem SeatWork.endOfWait (s : State) (k : Fin 16) : SeatWork s (s.endOfWait k) := by
  unfold State.endOfWait; split
  · split
    · exact .reeval ..
    · exact .windDownOrDeny ..
  · exact .refl s

theorem SeatWork.creditDraw (s : State) (k : Fin 16) (g : Nat) : SeatWork s (s.creditDraw k g) := by
  unfold State.creditDraw; dsimp only
  refine SeatWork.trans (t := { s with
    meters := s.meters.set k { s.meters[k] with drawn := s.meters[k].drawn + g, draws := s.meters[k].draws + 1 },
    meterDirty := true }) rfl ?_
  split
  · exact .reeval ..
  · split
    · exact .raiseRequest ..
    · exact .windDownOrDeny ..

/-! ## The pool arbiter -/

theorem SeatWork.drawFor (s : State) (r : Request) : SeatWork s (s.drawFor r) := by
  unfold State.drawFor; dsimp only
  refine SeatWork.trans ?_ (.creditDraw ..)
  rfl

theorem SeatWork.draws (fuel : Nat) (s : State) : SeatWork s (State.draws fuel s).1 := by
  induction fuel generalizing s with
  | zero => exact .refl s
  | succ n ih =>
    unfold State.draws; split
    · exact .refl s
    · split
      · exact .refl s
      · exact (SeatWork.drawFor s _).trans (ih _)

theorem SeatWork.opportunity (s : State) : SeatWork s s.opportunity.1 := by
  unfold State.opportunity; dsimp only; split
  · exact (SeatWork.draws ..).trans (.addNotice ..)
  · exact .draws ..

/-- The end of an event that touches seats: waits, draws and SEAT_CHANGED (R46, R60, R128). -/
theorem SeatWork.settle (s before : State) (offered : Bool) : SeatWork s (s.settle before offered).1 := by
  unfold State.settle State.settleWaits; dsimp only
  refine SeatWork.trans (t := s.releaseWaits) rfl ?_
  split
  · exact (SeatWork.opportunity ..).trans (.noteSeats ..)
  · exact .noteSeats ..

theorem SeatWork.settled (s before : State) (offered : Bool) : SeatWork s (s.settled before offered) :=
  SeatWork.settle s before offered

/-! ## The meter unit's events -/

theorem SeatWork.checkProfile (s : State) (k : Fin 16) : SeatWork s (s.checkProfile k) := by
  unfold State.checkProfile; split
  · split
    · exact SeatWork.trans (t := s.writeThresholds k _) rfl (.exhaustionCheck ..)
    · exact .refl s
  · exact .refl s

/-- What is left as it was, field by field, by any seat work. -/
theorem SeatWork.frame {s t : State} (h : SeatWork s t) :
    t.pending = s.pending ∧ t.deferred = s.deferred ∧ t.link = s.link ∧ t.pins = s.pins
      ∧ t.schemes = s.schemes ∧ t.slots = s.slots ∧ t.edit = s.edit ∧ t.interval = s.interval
      ∧ t.grants = s.grants ∧ t.clock = s.clock ∧ t.settings = s.settings ∧ t.authority = s.authority
      ∧ t.store = s.store ∧ t.load = s.load ∧ t.supply = s.supply ∧ t.due = s.due
      ∧ t.freeCount = s.freeCount := by
  rw [h]; exact ⟨rfl, rfl, rfl, rfl, rfl, rfl, rfl, rfl, rfl, rfl, rfl, rfl, rfl, rfl, rfl, rfl, rfl⟩

end Sys2Proof.Machine
end

