-- ==== Sys2Proof/Laws/Rejudge.lean ====
section
/-! SUPPORT. What a re-evaluation and the end of its event do where no request waits and none is asked for (R57, R58,
R46), and what the meter unit does when a profile's time falls (R102). -/

namespace Sys2Proof.Machine

/-- A commit request touches the commit queue alone (R181). -/
theorem State.commit_queueWith (s : State) (b : BlockId) :
    s.commit b = { s with store := { s.store with queue := s.queueWith [b] } } := by
  unfold State.commit State.queueWith State.queued
  cases h : s.store.queue.any (·.block = b) <;> simp [h]

/-! ## What an evaluation reads -/

/-- The two states agree in all that an evaluation reads: profiles, grants, clock, settings, meters, requests. -/
def SameTables (s t : State) : Prop :=
  s.slots = t.slots ∧ s.grants = t.grants ∧ s.clock = t.clock ∧ s.settings = t.settings ∧ s.meters = t.meters
    ∧ s.requests = t.requests

theorem SameTables.refl (s : State) : SameTables s s := ⟨rfl, rfl, rfl, rfl, rfl, rfl⟩

theorem SameTables.evaluate {s t : State} (h : SameTables s t) (k : Fin 16) (r : Rules) (p : Programme) (g : Bool)
    (w : Option Nat) : s.evaluate k r p g w = t.evaluate k r p g w := by
  obtain ⟨hs, hg, hc, ht, hm, hr⟩ := h
  cases s; cases t
  simp only at hs hg hc ht hm hr
  subst hs hg hc ht hm hr
  unfold State.evaluate
  dsimp only
  generalize Option.none = c
  generalize Settings.groupOrder _ = l
  induction l generalizing c with
  | nil => rfl
  | cons x xs ih => cases x <;> simp only [State.walk, ih] <;> rfl

theorem SameTables.kind {s t : State} (h : SameTables s t) (k : Fin 16) : s.kind? k = t.kind? k := by
  unfold State.kind? State.profile?; rw [h.1]

theorem SameTables.rules {s t : State} (h : SameTables s t) (k : Fin 16) : s.rules? k = t.rules? k := by
  unfold State.rules? State.profile?; rw [h.1]

theorem SameTables.verdictOn {s t : State} (h : SameTables s t) (p : Programme) (g : Bool) (w : Option Nat)
    (e : Entry) : s.verdictOn p g w e = t.verdictOn p g w e := by
  unfold State.verdictOn
  rw [h.kind, h.rules]
  split
  · rfl
  · split
    · rw [h.evaluate]
    · rfl

/-! ## Seat by seat -/

/-- A fold that writes each seat once, from what it held. -/
theorem foldl_seats (x : State) (f : State → Fin 6 → State) (g : Fin 6 → Seat)
    (h : ∀ v : Vector Seat 6, ∀ j : Fin 6, v[j] = x.seats[j] →
      f { x with seats := v } j = { x with seats := v.set j (g j) }) (l : List (Fin 6)) (hl : l.Nodup) :
    l.foldl f x = { x with seats := Vector.ofFn fun j => if j ∈ l then g j else x.seats[j] } := by
  suffices ∀ v : Vector Seat 6, (∀ j ∈ l, v[j] = x.seats[j]) → l.foldl f { x with seats := v }
      = { x with seats := Vector.ofFn fun j : Fin 6 => if j ∈ l then g j else v[j] } from this x.seats fun _ _ => rfl
  induction l with
  | nil => intro v _; simp
  | cons k ks ih =>
    intro v hv
    rw [List.foldl_cons, h v k (hv k (by simp))]
    obtain ⟨hk, hks⟩ := List.nodup_cons.mp hl
    rw [ih hks]
    · congr 1
      ext1 j hj
      simp only [Vector.getElem_ofFn, List.mem_cons]
      by_cases hjk : (⟨j, hj⟩ : Fin 6) = k
      · subst hjk; simp [hk]
      · have : (v.set k (g k))[(⟨j, hj⟩ : Fin 6)] = v[(⟨j, hj⟩ : Fin 6)] := by
          refine Vector.getElem_set_ne _ _ (fun e => hjk (Fin.ext e.symm))
        simp only [hjk, false_or, this]
    · intro j hj
      have : k.val ≠ j.val := fun e => hk (Fin.ext e ▸ hj)
      exact (Vector.getElem_set_ne _ _ this).trans (hv j (by simp [hj]))

/-- The entries of a seat after a re-evaluation of the selected ones. -/
def State.judgedEntries (x : State) (keepWind : Bool) (sel : Entry → Bool) (seat : Seat) (p : Programme) : List Entry :=
  seat.entries.map fun e =>
    if sel e then x.verdictOn p seat.guardianPresent (if keepWind then e.state.windEnd? else none) e else e

/-- No selected entry of the seat asks for a request (R80). -/
def State.AsksNone (x : State) (keepWind : Bool) (sel : Entry → Bool) (seat : Seat) : Prop :=
  ∀ p, seat.programme = some p → ∀ e ∈ seat.entries, sel e = true → ∀ r, x.rules? e.slot = some r →
    (x.evaluate e.slot r p seat.guardianPresent (if keepWind then e.state.windEnd? else none)).asks = false

theorem judge_quiet (x : State) (p : Programme) (g w : Bool) (e : Entry)
    (h : ∀ r, x.rules? e.slot = some r →
      (x.evaluate e.slot r p g (if w then e.state.windEnd? else none)).asks = false) :
    x.judge p g w e = (x, x.verdictOn p g (if w then e.state.windEnd? else none) e) := by
  unfold State.judge State.verdictOn State.isGuardian
  by_cases hg : x.kind? e.slot = some .guardian
  · simp [hg]
  · simp only [hg, decide_false, Bool.false_eq_true, if_false]
    cases hr : x.rules? e.slot with
    | none => rfl
    | some r => simp [h r hr]

theorem judgeAll_quiet (x : State) (p : Programme) (g w : Bool) (sel : Entry → Bool) (es : List Entry)
    (h : ∀ e ∈ es, sel e = true → ∀ r, x.rules? e.slot = some r →
      (x.evaluate e.slot r p g (if w then e.state.windEnd? else none)).asks = false) :
    State.judgeAll p g w sel x es = (x, es.map fun e =>
      if sel e then x.verdictOn p g (if w then e.state.windEnd? else none) e else e) := by
  induction es with
  | nil => rfl
  | cons e es ih =>
    have ih := ih fun e' he' => h e' (by simp [he'])
    by_cases hs : sel e = true
    · simp only [State.judgeAll, hs, if_true, judge_quiet x p g w e (h e (by simp) hs), ih, List.map_cons]
    · simp only [State.judgeAll, hs, Bool.false_eq_true, if_false, ih, List.map_cons]

/-- A re-evaluation of one seat, where none is asked for: its entries are judged and it is derived anew (R57). -/
theorem reevalSeat_quiet (x : State) (w : Bool) (sel : Entry → Bool) (j : Fin 6) (h : x.AsksNone w sel x.seats[j]) :
    State.reevalSeat w sel x j = match x.seats[j].programme with
      | some p => x.putSeat j (x.judgedEntries w sel x.seats[j] p) (some p)
      | none => x := by
  unfold State.reevalSeat State.judgedEntries
  cases hp : x.seats[j].programme with
  | none => rfl
  | some p => simp only [judgeAll_quiet x p _ w sel _ (h p hp)]

/-- What a re-evaluation makes of one seat. -/
def State.judgedSeat (x : State) (w : Bool) (sel : Entry → Bool) (seat : Seat) : Seat :=
  match seat.programme with
  | some p => x.deriveSeat (x.judgedEntries w sel seat p) (some p)
  | none => seat

theorem judgedSeat_programme (x : State) (w : Bool) (sel : Entry → Bool) (seat : Seat) :
    (x.judgedSeat w sel seat).programme = seat.programme := by
  unfold State.judgedSeat; split <;> simp_all

theorem judgedSeat_entries (x : State) (w : Bool) (sel : Entry → Bool) (seat : Seat) :
    (x.judgedSeat w sel seat).entries = seat.entries.map fun e =>
      match seat.programme with
      | some p =>
        if sel e then x.verdictOn p seat.guardianPresent (if w then e.state.windEnd? else none) e else e
      | none => e := by
  unfold State.judgedSeat State.judgedEntries
  cases seat.programme <;> simp

/-- A re-evaluation of every seat, where none is asked for. -/
theorem reeval_quiet (x : State) (sel : Entry → Bool) (h : ∀ j : Fin 6, x.AsksNone true sel x.seats[j]) :
    x.reeval sel = { x with seats := x.seats.map (x.judgedSeat true sel) } := by
  unfold State.reeval
  rw [foldl_seats x _ (fun j => x.judgedSeat true sel x.seats[j]) _ _ (List.nodup_finRange 6)]
  · congr 1; ext1 j hj; simp
  · intro v j hv
    have same : SameTables { x with seats := v } x := ⟨rfl, rfl, rfl, rfl, rfl, rfl⟩
    have asks : ({ x with seats := v } : State).AsksNone true sel v[j] := by
      intro p hp e he hs r hr
      rw [same.evaluate, hv]; rw [hv] at hp he; exact h j p hp e he hs r (same.rules e.slot ▸ hr)
    rw [reevalSeat_quiet _ _ _ _ asks]
    unfold State.judgedSeat State.judgedEntries
    dsimp only
    rw [hv]
    cases x.seats[j].programme with
    | none => dsimp only; rw [← hv]; exact congrArg (fun v => { x with seats := v }) (Vector.set_getElem_self ..).symm
    | some p =>
      dsimp only [State.putSeat]
      simp only [same.verdictOn]
      rfl

/-! ## The end of the event -/

/-- SEAT_CHANGED touches the notice set alone (R46). -/
theorem noteSeats_eq (before s : State) :
    State.noteSeats before s = { s with notices := (State.noteSeats before s).notices } := by
  unfold State.noteSeats
  induction List.finRange 6 generalizing s with
  | nil => rfl
  | cons j js ih =>
    rw [List.foldl_cons, ih]
    unfold State.noteSeat; split <;> rfl

theorem noteSeats_seats (before s : State) : (State.noteSeats before s).seats = s.seats := by
  rw [noteSeats_eq]

theorem noteSeat_bit (before s : State) (j : Fin 6) (b : Nat) : (State.noteSeat before s j).notices.getLsbD b =
    (s.notices.getLsbD b || decide (j.val = b ∧ s.seats[j].state ≠ before.seats[j].state)) := by
  unfold State.noteSeat
  by_cases h : before.seats[j].state = s.seats[j].state
  · rw [if_pos h, h]; simp
  · have hj : (j.val = b ∧ s.seats[j].state ≠ before.seats[j].state) ↔ j.val = b := and_iff_left fun e => h e.symm
    have lt : j.val < 16 := by omega
    rw [if_neg h]
    simp only [State.addNotice, BitVec.getLsbD_or, BitVec.getLsbD_twoPow, Notice.bit, hj, lt, decide_true, Bool.true_and]

theorem noteSeats_bits (before s : State) (b : Nat) : (State.noteSeats before s).notices.getLsbD b =
    (s.notices.getLsbD b || decide (∃ j : Fin 6, j.val = b ∧ s.seats[j].state ≠ before.seats[j].state)) := by
  suffices ∀ l : List (Fin 6), (l.foldl (State.noteSeat before) s).notices.getLsbD b =
      (s.notices.getLsbD b || decide (∃ j ∈ l, j.val = b ∧ s.seats[j].state ≠ before.seats[j].state)) by
    rw [State.noteSeats, this]; congr 1; exact decide_eq_decide.mpr (by simp)
  intro l
  induction l generalizing s with
  | nil => simp
  | cons j js ih =>
    have same : (State.noteSeat before s j).seats = s.seats := by unfold State.noteSeat; split <;> rfl
    rw [List.foldl_cons, ih, same, noteSeat_bit, Bool.or_assoc]
    congr 1
    rw [← Bool.decide_or]
    exact decide_eq_decide.mpr (by simp only [List.exists_mem_cons_iff])

/-- With no request waiting, before or after, the end of an event adds SEAT_CHANGED and does nothing else. -/
theorem settle_quiet (s before : State) (offered : Bool) (h : s.requests = []) (hb : before.requests = []) :
    s.settle before offered = (State.noteSeats before s, 0) := by
  have hr : s.releaseWaits = s := by
    show { s with requests := _ } = s
    rw [h]; cases s; simp only at h; subst h; rfl
  have hd : ∀ fuel, State.draws fuel s = (s, 0) := by
    intro fuel
    cases fuel with
    | zero => rfl
    | succ n =>
      have : winner? s.settings.tierOrder s.requests = none := by
        rw [h]; unfold winner?; induction s.settings.tierOrder <;> simp_all
      unfold State.draws; rw [this]; split <;> rfl
  have ho : s.opportunity = (s, 0) := by unfold State.opportunity; rw [hd]; rfl
  unfold State.settle State.settleWaits
  simp only [hr, h, hb, ho, ne_eq, not_true_eq_false, decide_false, Bool.or_false]
  cases offered <;> rfl

theorem settled_quiet (s before : State) (offered : Bool) (h : s.requests = []) (hb : before.requests = []) :
    s.settled before offered = State.noteSeats before s := congrArg Prod.fst (settle_quiet s before offered h hb)

/-- An event that leaves the judged seats and then ends: what `Rejudges` says of it. -/
theorem Rejudges.of_settled {before x y : State} {keepWind : Bool} {sel : Fin 6 → Entry → Bool} (offered : Bool)
    (hb : before.requests = x.requests)
    (h : x.requests = [] → (∀ j : Fin 6, x.AsksNone keepWind (sel j) x.seats[j]) → ∃ v : Vector Seat 6,
      y.requests = x.requests ∧ y.meters = x.meters ∧ y.meterDirty = x.meterDirty ∧ y.pool = x.pool
      ∧ y.notices = x.notices ∧ y.seats = v
      ∧ ∀ j : Fin 6, v[j].programme = x.seats[j].programme
        ∧ v[j].entries = (x.judgedSeat keepWind (sel j) x.seats[j]).entries) :
    Rejudges before x (y.settled before offered) keepWind sel := by
  intro hr ha
  obtain ⟨v, h1, h2, h3, h4, h5, h6, h7⟩ := h hr fun j p hp e he hs r => ha j p hp e he hs r
  have hy : y.requests = [] := h1.trans hr
  rw [settled_quiet y before offered hy (hb.trans hr)]
  have hn := noteSeats_eq before y
  refine ⟨?_, ?_, ?_, ?_, ?_, ?_⟩
  · rw [hn]; exact hy
  · rw [hn]; exact h2
  · rw [hn]; exact h3
  · rw [hn]; exact h4
  · intro j
    rw [noteSeats_seats, h6]
    refine ⟨(h7 j).1, ?_⟩
    exact (h7 j).2.trans (judgedSeat_entries ..)
  · intro b
    rw [noteSeats_bits, h5, noteSeats_seats]

/-- A re-evaluation of the selected entries of every seat, and the end of its event (R57, R58). -/
theorem rejudges_reeval (before x : State) (sel : Entry → Bool) (offered : Bool) (hb : before.requests = x.requests) :
    Rejudges before x ((x.reeval sel).settled before offered) true fun _ e => sel e := by
  refine Rejudges.of_settled offered hb fun _ ha => ⟨x.seats.map (x.judgedSeat true sel), ?_⟩
  rw [reeval_quiet x sel ha]
  refine ⟨rfl, rfl, rfl, rfl, rfl, rfl, fun j => ?_⟩
  have : (x.seats.map (x.judgedSeat true sel))[j] = x.judgedSeat true sel x.seats[j] := Vector.getElem_map ..
  rw [this]
  exact ⟨judgedSeat_programme .., rfl⟩

/-- The guardian-present flag that a list of entries gives (R45). -/
theorem guardianAmong_eq (s : State) (es : List Entry) :
    s.guardianAmong es = es.any fun e => decide (s.kind? e.slot = some .guardian) := rfl

/-- New entries or a new programme on one seat, a re-evaluation of its selected entries, and the end of the event
(R45, R54, R57). -/
theorem rejudges_seat (s : State) (j : Fin 6) (es : List Entry) (prog : Option Programme) (keepWind : Bool)
    (sel : Entry → Bool) (offered : Bool) :
    Rejudges s
      { s with seats := s.seats.set j { s.seats[j] with
          entries := es, programme := prog, guardianPresent := s.guardianAmong es } }
      (((s.putSeat j es prog).reevalSeat keepWind sel j).settled s offered) keepWind
      fun j' e => decide (j' = j) && sel e := by
  refine Rejudges.of_settled offered rfl fun _ ha =>
    ⟨((s.putSeat j es prog).reevalSeat keepWind sel j).seats, ?_⟩
  generalize hy : s.putSeat j es prog = y
  have tables : SameTables y s := by rw [← hy]; exact ⟨rfl, rfl, rfl, rfl, rfl, rfl⟩
  have written : SameTables { s with seats := s.seats.set j { s.seats[j] with
      entries := es, programme := prog, guardianPresent := s.guardianAmong es } } s := ⟨rfl, rfl, rfl, rfl, rfl, rfl⟩
  have at_j : y.seats[j] = s.deriveSeat es prog := by rw [← hy]; exact Vector.getElem_set_self ..
  have asks : y.AsksNone keepWind sel y.seats[j] := by
    rw [at_j]
    intro p hp e he hs r hr
    have h := ha j p
    simp only [Fin.getElem_fin, Vector.getElem_set_self, decide_true, Bool.true_and] at h
    rw [tables.evaluate, ← written.evaluate]
    exact h hp e he hs r ((written.rules e.slot).trans ((tables.rules e.slot).symm.trans hr))
  have run := reevalSeat_quiet y keepWind sel j asks
  have frame : y.reevalSeat keepWind sel j = { y with seats := (y.reevalSeat keepWind sel j).seats } := by
    rw [run]; split <;> rfl
  refine ⟨?_, ?_, ?_, ?_, ?_, rfl, fun j' => ?_⟩
  any_goals (rw [frame, ← hy]; rfl)
  by_cases h : j' = j
  · subst h
    have lhs : (y.reevalSeat keepWind sel j').seats[j'] = y.judgedSeat keepWind sel (s.deriveSeat es prog) := by
      rw [run, at_j]; unfold State.judgedSeat
      cases prog with
      | none => exact at_j
      | some p => exact Vector.getElem_set_self ..
    rw [lhs, judgedSeat_programme, judgedSeat_entries, judgedSeat_entries]
    simp only [Fin.getElem_fin, Vector.getElem_set_self, decide_true, Bool.true_and]
    refine ⟨rfl, List.map_congr_left fun e _ => ?_⟩
    cases prog with
    | none => rfl
    | some p =>
      dsimp only [State.deriveSeat]
      split
      · exact (tables.verdictOn ..).trans (written.verdictOn ..).symm
      · rfl
  · have ne : j.val ≠ j'.val := fun e => h (Fin.ext e.symm)
    have other : (y.reevalSeat keepWind sel j).seats[j'] = s.seats[j'] := by
      have : y.seats[j'] = s.seats[j'] := by rw [← hy]; exact Vector.getElem_set_ne (hi := j.isLt) (hj := j'.isLt) ne
      rw [run]; split
      · exact (Vector.getElem_set_ne (hi := j.isLt) (hj := j'.isLt) ne).trans this
      · exact this
    rw [other, judgedSeat_entries]
    simp only [Fin.getElem_fin, Vector.getElem_set, if_neg ne, h, decide_false, Bool.false_and, Bool.false_eq_true,
      if_false]
    refine ⟨trivial, ?_⟩
    cases s.seats[j'.val].programme <;> simp

/-! ## The meter unit -/

/-- All that an exhaustion check does while the remaining time is 0 (R103, R104). -/
theorem exhaustionCheck_taken (x : State) (k : Fin 16) (h : x.remaining k = 0) :
    ExhaustionTaken x (x.exhaustionCheck k) k := by
  have target : ∀ (j : Fin 6) (e : Entry), x.isTarget k x.seats[j] e
      = (decide (e.slot = k) && x.seats[j].state.debits && e.state.isClearOrLow && x.timeConsulted e) := by
    intro j e
    unfold State.isTarget meteringOn
    cases e.state <;> simp [EntryState.pass?, EntryState.isClearOrLow]
  have any : (x.seats.toList.any fun seat => seat.entries.any (x.isTarget k seat)) = true ↔
      ∃ j : Fin 6, ∃ e ∈ x.seats[j].entries,
        (decide (e.slot = k) && x.seats[j].state.debits && e.state.isClearOrLow && x.timeConsulted e) = true := by
    rw [any_seats]
    exact exists_congr fun j => by rw [List.any_eq_true]; exact exists_congr fun e => by rw [target]
  have poss : x.poolPossible k = true ↔ ∃ r, x.rules? k = some r ∧ r.tier.isSome = true ∧ x.meters[k].draws < r.drawsPerDay := by
    unfold State.poolPossible; cases x.rules? k <;> simp
  have waits : ∀ j : Fin 6, (x.writeWaiting (x.isTarget k)).seats[j].entries = x.seats[j].entries.map fun e =>
      if (decide (e.slot = k) && x.seats[j].state.debits && e.state.isClearOrLow && x.timeConsulted e) then
        ⟨e.slot, .waiting e.state.kept⟩ else e := by
    intro j
    rw [State.writeWaiting, writeEntries_entries]
    refine List.map_congr_left fun e _ => ?_
    rw [target]; split <;> rfl
  refine ⟨SeatWork.exhaustionCheck .., fun hn => ?_, fun hs hq => ?_, fun hs hq hp => ?_, fun hs hq hp => ?_⟩
  · unfold State.exhaustionCheck; rw [if_neg]; intro hc; exact hn (any.mp (Bool.and_eq_true _ _ ▸ hc).2)
  all_goals
    have run : x.exhaustionCheck k = x.exhaust k := by
      unfold State.exhaustionCheck; rw [if_pos]; rw [Bool.and_eq_true]; exact ⟨decide_eq_true h, any.mpr hs⟩
    rw [run]; unfold State.exhaust; dsimp only; rw [hq]
  · exact ⟨rfl, rfl, rfl, waits⟩
  · rw [if_neg Bool.false_ne_true, if_pos (poss.mpr hp)]
    have raised : (x.raiseRequest k).seats = x.seats ∧ (x.raiseRequest k).meters = x.meters ∧ (x.raiseRequest k).pool = x.pool
        ∧ (x.raiseRequest k).requests = x.requests ++ [⟨k, x.tierOf k, x.clock.counter⟩] := by
      unfold State.raiseRequest; rw [hq, if_neg Bool.false_ne_true]; dsimp only; split <;> exact ⟨rfl, rfl, rfl, rfl⟩
    refine ⟨raised.2.2.2, raised.2.1, raised.2.2.1, fun j => ?_⟩
    rw [State.writeWaiting, writeEntries_entries]
    simp only [raised.1]
    have := waits j
    rw [State.writeWaiting, writeEntries_entries] at this
    exact this
  · rw [if_neg Bool.false_ne_true, if_neg fun e => hp (poss.mp e)]
    exact windDownOrDeny_spec x k _ _ fun j e _ => target j e

/-- All that a budget decrease does at once (R102). -/
theorem afterDecrease_fell (s x : State) (k : Fin 16) (h : x.meters[k].used = s.meters[k].used) :
    TimeFell s x (x.afterDecrease s k) k := by
  have cond : (x.budget k < s.budget k && 0 < s.remaining k && x.remaining k = 0 && x.isMetered k) = true ↔
      0 < s.remaining k ∧ x.remaining k = 0 ∧ x.isMetered k = true := by
    rw [Bool.and_eq_true, Bool.and_eq_true, Bool.and_eq_true, decide_eq_true_eq, decide_eq_true_eq, decide_eq_true_eq]
    unfold State.remaining
    rw [h]
    constructor
    · rintro ⟨⟨⟨_, a⟩, b⟩, c⟩; exact ⟨a, b, c⟩
    · rintro ⟨a, b, c⟩; exact ⟨⟨⟨by omega, a⟩, b⟩, c⟩
  refine ⟨fun hn => ?_, fun hf => ?_⟩ <;> unfold State.afterDecrease
  · rw [if_neg fun c => hn (cond.mp c)]
  · rw [if_pos (cond.mpr hf)]; exact exhaustionCheck_taken x k hf.2.1

end Sys2Proof.Machine
end

