-- ==== Sys2Proof/Laws/Store.lean ====
section
/-! SUPPORT. What the store controller's shared operations may touch: the store, and the meter dirty flag that
an erase of the meter block clears (R114). -/

namespace Sys2Proof.Machine

/-- The two states differ at most in the store and the meter dirty flag. -/
def StoreWork (s t : State) : Prop := t = { s with store := t.store, meterDirty := t.meterDirty }

theorem StoreWork.refl (s : State) : StoreWork s s := rfl

theorem StoreWork.trans {s t u : State} (h : StoreWork s t) (h' : StoreWork t u) : StoreWork s u := by
  cases s; cases t; cases u; simp_all [StoreWork]

theorem StoreWork.commit (s : State) (b : BlockId) : StoreWork s (s.commit b) := by
  rw [State.commit_eq]; rfl

theorem StoreWork.beginErase (s : State) (w : WriteRecord) : StoreWork s (s.beginErase w) := by
  unfold State.beginErase; dsimp only; split <;> rfl

theorem StoreWork.startHead (s : State) : StoreWork s s.startHead := by
  unfold State.startHead State.startWrite; split
  · exact .refl s
  · exact StoreWork.trans (t := s.setQueue _) rfl (.beginErase ..)

theorem StoreWork.resume (s : State) (w : Suspended) : StoreWork s (s.resume w) := by
  unfold State.resume; dsimp only; split
  · exact StoreWork.trans (t := s.setSuspended none) rfl (.beginErase ..)
  · rfl

/-- Taking the next write touches the store and the meter dirty flag alone (R182). -/
theorem StoreWork.takeNextWrite (s : State) : StoreWork s s.takeNextWrite := by
  unfold State.takeNextWrite; split
  · exact .refl s
  · split
    · exact .startHead s
    · split
      · exact .resume ..
      · exact .startHead s

/-- An urgent save touches the store and the meter dirty flag alone (R187). -/
theorem StoreWork.urgentSave (s : State) : StoreWork s s.urgentSave := by
  unfold State.urgentSave; split
  · exact StoreWork.trans (t := s.markUrgent) rfl (.takeNextWrite _)
  · split
    · rfl
    · dsimp only [State.startWrite]
      exact StoreWork.trans (t := (s.setSuspended _).setQueue _) rfl (.beginErase ..)

/-- The image of a block does not read the store (R183): store work leaves it as it was. -/
theorem StoreWork.imageOf {s t : State} (h : StoreWork s t) (b : BlockId) : t.imageOf b = s.imageOf b := by
  rw [h]; unfold State.imageOf State.dataOf; split
  · rfl
  · split
    · rfl
    · split
      · rfl
      · split <;> rfl

/-- What is left as it was, field by field, by any store work. -/
theorem StoreWork.frame {s t : State} (h : StoreWork s t) :
    t.seats = s.seats ∧ t.slots = s.slots ∧ t.schemes = s.schemes ∧ t.grants = s.grants
      ∧ t.meters = s.meters ∧ t.pool = s.pool ∧ t.requests = s.requests ∧ t.notices = s.notices
      ∧ t.link = s.link ∧ t.clock = s.clock ∧ t.settings = s.settings ∧ t.authority = s.authority
      ∧ t.edit = s.edit ∧ t.supply = s.supply := by
  rw [h]; exact ⟨rfl, rfl, rfl, rfl, rfl, rfl, rfl, rfl, rfl, rfl, rfl, rfl, rfl, rfl⟩

end Sys2Proof.Machine
end

