-- ==== Sys2Proof/Tests/Slice0.lean ====
section
/-! SUPPORT. Tests: ill-formed terms, frames written out from 11.6, one or two steps of each row, and a concrete
state for the hypotheses of each statement. Expected values are computed by hand from the rules named; the CRC-8
bytes are computed from R197's polynomial outside the model. -/

namespace Sys2Proof.Tests

set_option Elab.async false

open Sys2Proof Sys2Proof.Machine

/-! ## States to start from -/

/-- The part after a start-up load over an empty store: READY, the clock UNSET. -/
def ready : State := { State.reset with supply := ⟨0, false, false, false⟩, link := ⟨.ready, none, .clear, []⟩ }

/-- The link port has handed the command to its owner. -/
def handed (i : Instr) (s : State) : State := { s with link := { s.link with state := .executing i } }

/-- The guardian window is OPEN with 900 seconds left. -/
def opened (s : State) : State := { s with authority := ⟨some 900, 0, none⟩ }

/-- A CHILD with ceiling 12 and 60 minutes a day. -/
def kid : Profile := .child ⟨7, some 0x11, none⟩ { Rules.newChild with ceiling := 12 }

/-- A CHILD who may draw from the pool. -/
def drawer : Profile := .child ⟨7, some 0x11, none⟩ { Rules.newChild with
  ceiling := 12, tier := some 1, drawsPerDay := 2 }

def adult : Profile := .guardian ⟨8, some 0x22, some 0x23⟩

/-- `ready` with the child given in slot 1 and a guardian in slot 2, on day 100 at 10:00 of weekday 2. -/
def home (child : Profile) : State := { ready with
  slots := (ready.slots.set 1 (.live child)).set 2 (.live adult)
  clock := ⟨5000, true, 100, 36000, 2, 100, 2⟩ }

/-- A programme of maturity 10 in category 3, with no end moment. -/
def film : Programme := ⟨1, 2, 0, 3, 0x2A, none, some 10⟩

/-- The child watches the film on seat 0, its entry in the state given. -/
def watching (child : Profile) (e : EntryState) : State :=
  ((home child).putSeat 0 [⟨1, e⟩] (some film)).drivePins

/-- The state after a row, when there is a next one. -/
def ran (i : Instr) (s : State) : State :=
  match exec i s with
  | .next t => t
  | _ => s

/-- What is held after a row. -/
def answer (i : Instr) (s : State) : Option Response := (ran i s).link.buffer

/-- The response OK of the command code, with this payload. -/
def okay (code : Byte) (payload : List Byte) : Option Response := some ⟨.ok, code, payload⟩

theorem ready_awake : ready.Awake := ⟨rfl, rfl⟩
theorem handed_is (i : Instr) {s : State} (h : s.Awake) : (handed i s).Handed i := ⟨h, rfl⟩

/-- What `Rejudges` asks of the state it judges, with at least one CHILD or GUEST entry that is judged. -/
def Quiet (x : State) (keepWind : Bool) (sel : Fin 6 → Entry → Bool) : Prop :=
  x.requests = []
  ∧ (∀ (j : Fin 6) (p : Programme), x.seats[j].programme = some p → ∀ e ∈ x.seats[j].entries, sel j e = true →
      ∀ r, x.rules? e.slot = some r →
        (x.evaluate e.slot r p x.seats[j].guardianPresent (if keepWind then e.state.windEnd? else none)).asks = false)
  ∧ ∃ j : Fin 6, x.seats[j].programme.isSome = true
      ∧ ∃ e ∈ x.seats[j].entries, sel j e = true ∧ (x.rules? e.slot).isSome = true

/-- `Quiet`, decided. -/
def quiet? (x : State) (keepWind : Bool) (sel : Fin 6 → Entry → Bool) : Bool :=
  decide (x.requests = [])
  && (List.finRange 6).all (fun j => x.seats[j].programme.all fun p => x.seats[j].entries.all fun e =>
      !sel j e || (x.rules? e.slot).all fun r =>
        !(x.evaluate e.slot r p x.seats[j].guardianPresent (if keepWind then e.state.windEnd? else none)).asks)
  && (List.finRange 6).any (fun j => x.seats[j].programme.isSome
      && x.seats[j].entries.any fun e => sel j e && (x.rules? e.slot).isSome)

theorem quiet_of {x : State} {keepWind : Bool} {sel : Fin 6 → Entry → Bool} (h : quiet? x keepWind sel = true) :
    Quiet x keepWind sel := by
  simp only [quiet?, Bool.and_eq_true, decide_eq_true_eq, List.all_eq_true, List.any_eq_true, List.mem_finRange,
    true_and, forall_const] at h
  obtain ⟨⟨requests, asks⟩, j, has, e, he, judged⟩ := h
  refine ⟨requests, fun j p hp e he hs r hr => ?_, j, has, e, he, judged⟩
  have := asks j
  rw [hp, Option.all_some, List.all_eq_true] at this
  have := this e he
  rw [hs, hr] at this
  simpa using this

/-- The child and a guardian watch the film on seat 0. -/
def together : State :=
  ((home kid).putSeat 0 [⟨1, .low .allPass⟩, ⟨2, .exempt⟩] (some film)).drivePins

/-! ## Ill-formed terms -/

theorem test_illformed_write_selector : (Instr.badTransaction (some 0xA5)).wellFormed = false := by
  decide +kernel
theorem test_illformed_fetch_selector : (Instr.badTransaction (some 0x5A)).wellFormed = false := by
  decide +kernel
theorem test_illformed_sload :
    (Instr.sload (.fields ⟨2, 0, 53, List.replicate 53 0⟩)).wellFormed = false := by decide +kernel
theorem test_illformed_pin : (Instr.pin (.fields ⟨4, [1, 2, 3, 4]⟩)).wellFormed = false := by decide +kernel
theorem test_illformed_repin :
    (Instr.repin (.fields ⟨4, List.replicate 9 1⟩)).wellFormed = false := by decide +kernel
theorem test_illformed_dip_end : (Instr.dipEnd 400).wellFormed = false := by decide +kernel
theorem test_illformed_reset_low :
    (Instr.fullReset (.resetnLow 9) false false).wellFormed = false := by decide +kernel
theorem test_illformed_reset_dip :
    (Instr.fullReset (.dip 399) false false).wellFormed = false := by decide +kernel
theorem test_wellformed_longest_sload :
    (Instr.sload (.fields ⟨2, 0, 52, List.replicate 52 0⟩)).wellFormed = true := by decide +kernel

/-! ## Frames written out from 11.6 -/

theorem test_frame_sload : checkFrame [0x10, 7, 3, 0x12, 0x34, 3, 0, 10, 31, 0x6A]
    = .command (.sload (.fields ⟨3, 0x1234, 3, [0, 10, 31]⟩)) := by decide +kernel
theorem test_frame_eset : checkFrame [0x21, 7, 0x30, 1, 0x01, 0xE0, 0x04, 0xB0, 0x1F, 0xE9]
    = .command (.eset (.fields ⟨0x30, 0x0101E004B01F⟩)) := by decide +kernel
theorem test_frame_join : checkFrame [0x30, 5, 2, 0xDE, 0xAD, 0xBE, 0xEF, 0xF1]
    = .command (.join (.fields ⟨2, 0xDEADBEEF⟩)) := by decide +kernel
theorem test_frame_play : checkFrame [0x33, 11, 5, 1, 4, 0x80, 7, 0, 0, 1, 0, 0, 0x5A, 0xE8]
    = .command (.play (.fields ⟨5, ⟨1, 4, 0x80, 7, 256, 90⟩⟩)) := by decide +kernel
theorem test_frame_preview : checkFrame [0x40, 16, 1, 0, 0, 0, 2, 1, 4, 0, 0, 0, 0, 0, 9, 0, 30, 1, 0x76]
    = .command (.preview (.fields ⟨1, 2, ⟨1, 4, 0, 0, 9, 30⟩, 1⟩)) := by decide +kernel
theorem test_frame_mread : checkFrame [0x41, 1, 15, 0xD5] = .command (.mread (.fields 15)) := by decide +kernel
theorem test_frame_topup : checkFrame [0x50, 2, 2, 0x58, 0x8F] = .command (.topup (.fields 600)) := by
  decide +kernel
theorem test_frame_gadd :
    checkFrame [0x60, 13, 3, 1, 0, 0, 0, 0x2A, 1, 0, 0, 0, 12, 5, 0x9F, 0x82]
      = .command (.gadd (.fields ⟨3, 1, 42, 1, 0, 12, 1439⟩)) := by decide +kernel
theorem test_frame_clkset : checkFrame [0x70, 7, 0, 100, 0, 1, 0x51, 0x7F, 6, 0x28]
    = .command (.clkset (.fields ⟨100, 86399, 6⟩)) := by decide +kernel
theorem test_frame_pin : checkFrame [0x80, 9, 4, 1, 2, 3, 4, 9, 9, 9, 9, 0x2F]
    = .command (.pin (.fields ⟨4, [1, 2, 3, 4, 9, 9, 9, 9]⟩)) := by decide +kernel
theorem test_frame_hset : checkFrame [0x83, 13, 9, 0, 1, 2, 3, 0, 0, 0, 0, 0, 0, 3, 0x84, 0x5A]
    = .command (.hset (.fields ⟨9, 0x00010203, 0, 0, 900⟩)) := by decide +kernel
theorem test_frame_retry : checkFrame [0x91, 0, 0xF4] = .command (.retry (.fields ())) := by decide +kernel
theorem test_frame_describe : checkFrame [0xF0, 0, 0x14] = .command (.describe (.fields ())) := by
  decide +kernel
/-- A frame that is too short, a bad CRC-8, a length that does not fit, an unknown code, a misfit (R197). -/
theorem test_frames_refused :
    checkFrame [] = .badFrame 0 ∧ checkFrame [0xF0] = .badFrame 0xF0
      ∧ checkFrame [0xF0, 0, 0x15] = .badFrame 0xF0 ∧ checkFrame [0xF0, 1, 0x14] = .badFrame 0xF0
      ∧ checkFrame (frameOf 0x14 []) = .unknown 0x14
      ∧ checkFrame (frameOf 0xF0 [0]) = .command (.describe .misfit) := by decide +kernel

/-- 0xA5 0x91 as MOSI carries them, with three bits left over; a selector alone; seven bits (R196). -/
theorem test_mosi :
    transactionOf [true, false, true, false, false, true, false, true,
        true, false, false, true, false, false, false, true, true, true, false] = .writeTransaction [0x91]
      ∧ transactionOf [false, true, false, true, true, false, true, false] = .fetchTransaction 0
      ∧ transactionOf [true, true, false, false, false, false, false, false] = .badTransaction (some 0xC0)
      ∧ transactionOf (List.replicate 7 true) = .badTransaction none := by decide +kernel

/-! ## The link -/

theorem test_write_dispatches :
    (ran (.writeTransaction [0xF0, 0, 0x14]) ready).link.state = .executing (.describe (.fields ())) := by
  decide +kernel
theorem test_write_in_executing_collides :
    (ran (.writeTransaction [0xF0, 0, 0x14]) (handed (.retry (.fields ())) ready)).link.flags
      = ⟨false, true, false⟩ := by decide +kernel
/-- Nothing held: NOTHING, code 0, no flags, length 0, CRC-8 0x62 (R200, 11.6). -/
theorem test_fetch_nothing :
    (ran (.fetchTransaction 7) ready).link.miso = [0x01, 0, 0, 0, 0, 0x62, 0] := by decide +kernel
theorem test_fetch_empties_answered :
    let t := ran (.fetchTransaction 17) (ran (.describe (.fields ())) ready)
    t.link.state = .ready ∧ t.link.buffer = none
      ∧ t.link.miso = [0, 0xF0, 0, 0, 11, 16, 6, 3, 8, 16, 4, 8, 8, 31, 25, 1, 0x65] := by decide +kernel
theorem test_bad_transaction :
    (ran (.badTransaction (some 0)) ready).link.flags = ⟨false, false, true⟩ := by decide +kernel
theorem test_notices_empties :
    let t := ran (.notices (.fields ())) { ready with notices := 0x00C0 }
    t.link.buffer = okay 0xF1 [0, 0xC0] ∧ t.notices = 0 := by decide +kernel
/-- A window that was OPEN, no buffer, one seat, no request; GUARDIAN_CLOSED stays (R206). -/
theorem test_restart :
    let t := ran (.restart (.fields ())) (opened (watching kid (.clear .allPass)))
    t.link.buffer = okay 0xF2 [1, 0, 1, 0] ∧ t.notices = 0x2000 ∧ t.seats[0] = Seat.vacant := by decide +kernel

/-! ## Schemes -/

theorem test_sload : answer (.sload (.fields ⟨3, 0x1234, 3, [0, 10, 31]⟩)) ready = okay 0x10 [3, 0] := by
  decide +kernel
theorem test_sload_level_range :
    answer (.sload (.fields ⟨3, 0x1234, 1, [32]⟩)) ready = some ⟨.badArgument, 0x10, []⟩ := by decide +kernel
theorem test_sclr_factory : answer (.sclr (.fields 1)) ready = some ⟨.badArgument, 0x11, []⟩ := by
  decide +kernel
theorem test_sclr_empty : answer (.sclr (.fields 7)) ready = okay 0x11 [7, 0] := by decide +kernel
theorem test_slock_empty : answer (.slock (.fields 2)) ready = some ⟨.state, 0x12, []⟩ := by decide +kernel
theorem test_sread_band :
    answer (.sread (.fields 1)) ready = okay 0x13 [1, 1, 0, 0, 6, 0, 7, 10, 13, 16, 18] := by decide +kernel

/-! ## Profiles -/

theorem test_eopen_new_child : answer (.eopen (.fields ⟨1, 0, 1⟩)) (opened ready) = okay 0x20 [1, 0, 1] := by
  decide +kernel
theorem test_eopen_guest_slot :
    answer (.eopen (.fields ⟨0, 0, 1⟩)) (opened ready) = some ⟨.noSuch, 0x20, []⟩ := by decide +kernel
/-- Field 0x11 is the rate of category 1; value bytes 0..3 hold 400 (11.6). -/
theorem test_eset_rate :
    let t := ran (.eset (.fields ⟨0x11, 0x000001900000⟩))
      { opened ready with edit := some ⟨1, true, .child Ident.blank Rules.newChild⟩ }
    t.link.buffer = okay 0x21 [0x11, 0, 0, 1, 0x90, 0, 0]
      ∧ (t.edit.bind (·.image.rules?)).map (·.rates.toList) = some [100, 400, 100, 100, 100, 100, 100, 100] := by
  decide +kernel
theorem test_eset_guest_token :
    answer (.eset (.fields ⟨2, 0x000000010000⟩)) { opened ready with edit := some ⟨0, false, Profile.factoryGuest⟩ }
      = some ⟨.state, 0x21, []⟩ := by decide +kernel
/-- A CHILD without a primary token: INVALID_RECORD names field 0x02 (R29). -/
theorem test_ecommit_no_token :
    answer (.ecommit (.fields ())) { opened ready with edit := some ⟨1, true, .child Ident.blank Rules.newChild⟩ }
      = some ⟨.invalidRecord, 0x22, [2]⟩ := by decide +kernel
theorem test_ecommit_new :
    let t := ran (.ecommit (.fields ())) { opened ready with edit := some ⟨5, true, kid⟩ }
    t.link.buffer = okay 0x22 [5] ∧ t.slots[5] = .live kid ∧ t.edit = none
      ∧ t.store.queue = [⟨5, false⟩, ⟨24, false⟩] := by decide +kernel
theorem test_edrop :
    answer (.edrop (.fields ())) { opened ready with edit := some ⟨1, true, kid⟩ } = okay 0x23 [1] := by
  decide +kernel
/-- A GUARDIAN: label 8, both tokens present (R19). -/
theorem test_pread_guardian : answer (.pread (.fields 2)) (home kid)
    = okay 0x24 [1, 0, 2, 0, 8, 1, 0, 0, 0, 0x22, 1, 0, 0, 0, 0x23] := by decide +kernel
theorem test_retire :
    let t := ran (.retire (.fields 1)) (opened (watching kid (.clear .allPass)))
    t.link.buffer = okay 0x25 [1, 1, 0] ∧ t.slots[1] = .free ∧ t.seats[0].state = .vacant := by decide +kernel
theorem test_lookup_secondary : answer (.lookup (.fields 0x23)) (home kid) = okay 0x26 [2, 2, 2, 0, 8] := by
  decide +kernel
theorem test_lookup_unknown : answer (.lookup (.fields 0x99)) (home kid) = okay 0x26 [0, 3, 0, 0, 0] := by
  decide +kernel

/-! ## Seats and verdicts -/

/-- Slot 1 by its primary token, at position 0, IDLE with no reason, on a BROWSING seat (R49). -/
theorem test_join : answer (.join (.fields ⟨4, 0x11⟩)) (home kid) = okay 0x30 [1, 1, 0, 0, 0, 1] := by
  decide +kernel
theorem test_join_again :
    answer (.join (.fields ⟨0, 0x11⟩)) (watching kid (.clear .allPass)) = okay 0x30 [1, 1, 1] := by
  decide +kernel
theorem test_leave : answer (.leave (.fields ⟨0, 1, 1⟩)) (watching kid (.clear .allPass)) = okay 0x31 [1, 0] := by
  decide +kernel
theorem test_leave_absent :
    answer (.leave (.fields ⟨1, 1, 1⟩)) (watching kid (.clear .allPass)) = some ⟨.noSuch, 0x31, []⟩ := by
  decide +kernel
theorem test_vacate : answer (.vacate (.fields 0)) (watching kid (.clear .allPass)) = okay 0x32 [1, 1] := by
  decide +kernel
/-- Band 4 is level 16, above the ceiling 12: BLOCKED, and the gate closes (R4, R47, R72). -/
theorem test_play_blocked :
    let t := ran (.play (.fields ⟨0, ⟨1, 4, 0, 0, 0, 0⟩⟩)) (watching kid (.clear .allPass))
    t.link.buffer = okay 0x33 [16, 0, 0, 0, 0, 0, 1, 6] ∧ t.pins.gate0 = false
      ∧ t.seats[0].entries = [⟨1, .denied .ratingLevel⟩] := by decide +kernel
/-- A duration of 721 minutes counts as 720: the end is 5000 + 43200 = 48200 (R44). -/
theorem test_play_duration :
    answer (.play (.fields ⟨3, ⟨0, 9, 0, 0, 0, 721⟩⟩)) (home kid)
      = okay 0x33 [9, 1, 0, 0, 0xBC, 0x48, 0, 0] := by decide +kernel
theorem test_endp :
    let t := ran (.endp (.fields 0)) (watching kid (.clear .allPass))
    t.link.buffer = okay 0x34 [1] ∧ t.seats[0].entries = [⟨1, .idle⟩] ∧ t.seats[0].state = .browsing := by
  decide +kernel
theorem test_sstat : answer (.sstat (.fields 0)) (watching kid (.clear .allPass))
    = okay 0x35 [2, 0, 1, 1, 1, 2, 1, 0, 0, 0, 0, 0, 0, 0,
        1, 1, 2, 0, 3, 0, 0, 0, 0x2A, 0, 0, 0, 0, 0, 10, 0, 0, 0x13, 0x88] := by decide +kernel
/-- DENY by RATING with level 16 against 12; 60 minutes are 360000 units (R86). -/
theorem test_preview_denied :
    answer (.preview (.fields ⟨0, 0x11, ⟨1, 4, 0, 0, 0, 0⟩, 0⟩)) (home kid)
      = okay 0x40 [1, 1, 1, 1, 1, 6, 3, 0, 0, 16, 0, 12, 0, 5, 0x7E, 0x40, 1, 0, 0] := by decide +kernel

/-! ## Metering -/

/-- Budget and remaining time 360000 units, one metering entry at 10000 (R118). -/
theorem test_mread : answer (.mread (.fields 1)) (watching kid (.clear .allPass))
    = okay 0x41 [1, 1, 1, 1, 1, 0, 0, 0, 0, 0, 0, 5, 0x7E, 0x40, 0, 5, 0x7E, 0x40, 0, 60, 0, 0, 0, 0, 0, 0, 1, 1,
        0, 0, 0x27, 0x10] := by decide +kernel
/-- A FREE slot has neither kind nor metered flag (R118). -/
theorem test_mread_free : answer (.mread (.fields 9)) (home kid) = okay 0x41 (0 :: List.replicate 31 0) := by
  decide +kernel
/-- One second at rate 100 is 100 units (R97). -/
theorem test_metering_second :
    let s := watching kid (.clear .allPass)
    (ran .meteringSecond { s with due := { s.due with metering := true } }).meters[1] = ⟨100, 0, 0, 0, false⟩ := by
  decide +kernel
/-- The last 100 units go, there is no pool and no wind-down: DENIED(TIME) in the same second (R104). -/
theorem test_metering_exhausts :
    let s := watching kid (.low .allPass)
    let t := ran .meteringSecond { s with
      due := { s.due with metering := true }, meters := s.meters.set 1 ⟨359900, 0, 0, 0, false⟩ }
    t.seats[0].entries = [⟨1, .denied .time⟩] ∧ t.meters[1].used = 360000 ∧ t.notices = 1 := by decide +kernel
theorem test_wind_down_end :
    (ran .windDownEnd (watching kid (.winding .allPass 5000))).seats[0].entries = [⟨1, .denied .time⟩] := by
  decide +kernel
theorem test_wind_down_before_end :
    (ran .windDownEnd (watching kid (.winding .allPass 5001))).seats[0].state = .windDown := by decide +kernel
theorem test_commit_interval :
    let t := ran .commitIntervalEnd { ready with
      interval := 299, meterDirty := true, due := { ready.due with interval := true } }
    t.interval = 0 ∧ t.store.queue = [⟨24, false⟩] ∧ t.meterDirty = true := by decide +kernel

/-! ## The family pool -/

theorem test_topup :
    let t := ran (.topup (.fields 30)) (opened ready)
    t.link.buffer = okay 0x50 [0, 30, 0, 30, 0, 0] ∧ t.pool = ⟨0, 30, 0, 30⟩ := by decide +kernel
/-- A waiting child is drawn for: 15 of 20 minutes, and its entry is CLEAR again (R108, R129). -/
theorem test_topup_draws :
    let s := watching drawer (.waiting .allPass)
    let t := ran (.topup (.fields 20)) (opened { s with
      meters := s.meters.set 1 ⟨360000, 0, 0, 0, false⟩, requests := [⟨1, 1, 4990⟩] })
    t.link.buffer = okay 0x50 [0, 20, 0, 5, 1, 0] ∧ t.meters[1] = ⟨360000, 0, 15, 1, false⟩
      ∧ t.seats[0].state = .permitted := by decide +kernel
theorem test_pool : answer (.pool (.fields ())) { home kid with requests := [⟨1, 1, 4990⟩] }
    = okay 0x51 [0, 0, 0, 0, 0, 0, 0, 0, 0, 0, 3, 2, 1, 0, 0, 0, 0x13, 0x88, 1, 1, 1, 0, 0, 0x13, 0x7E, 0, 10] := by
  decide +kernel
/-- A request that has waited 60 seconds leaves, and its entry is denied (R110, R131). -/
theorem test_pool_wait_timeout :
    let s := watching drawer (.waiting .allPass)
    let t := ran .poolWaitTimeout { s with
      meters := s.meters.set 1 ⟨360000, 0, 0, 0, false⟩, requests := [⟨1, 1, 4940⟩]
      due := { s.due with timeout := true } }
    t.requests = [] ∧ t.seats[0].entries = [⟨1, .denied .time⟩] := by decide +kernel

/-! ## Grants -/

theorem test_gadd_extra :
    let t := ran (.gadd (.fields ⟨1, 2, 0, 0, 30, 0, 0⟩)) (opened (home kid))
    t.link.buffer = okay 0x60 [0, 1, 0, 0, 30, 0, 30] ∧ t.grants[0] = some ⟨1, .extraTime 30 100⟩
      ∧ t.store.queue = [⟨23, false⟩] := by decide +kernel
/-- An expiry at now itself, 10:00 of day 100, is not after now (R139). -/
theorem test_gadd_expired :
    answer (.gadd (.fields ⟨1, 3, 0, 0, 0, 100, 600⟩)) (opened (home kid)) = some ⟨.badArgument, 0x60, []⟩ := by
  decide +kernel
theorem test_grevoke :
    let s := opened (home kid)
    let t := ran (.grevoke (.fields 4)) { s with grants := s.grants.set 4 (some ⟨1, .extraTime 30 100⟩) }
    t.link.buffer = okay 0x61 [1, 2, 0] ∧ t.grants[4] = none := by decide +kernel
/-- SET, day 100, minute 600, meter day 100, one entry: 4, profile 1, WINDOW_WAIVER to day 101 minute 0. -/
theorem test_gread :
    let s := home kid
    answer (.gread (.fields 0xFF)) { s with grants := s.grants.set 4 (some ⟨1, .windowWaiver ⟨101, 0⟩⟩) }
      = okay 0x62 [1, 0, 100, 2, 0x58, 0, 100, 1, 4, 1, 3, 0, 101, 0, 0] := by decide +kernel
theorem test_grant_expiry :
    let s := home kid
    let t := ran .grantExpiry { s with
      grants := (s.grants.set 4 (some ⟨1, .windowWaiver ⟨100, 600⟩⟩)).set 5 (some ⟨1, .titlePermit 9 true ⟨100, 601⟩⟩)
      due := { s.due with expiry := some ⟨100, 600⟩ } }
    t.grants[4] = none ∧ t.grants[5].isSome = true ∧ t.store.queue = [⟨23, false⟩] := by decide +kernel

/-- The second that brings day 100 to minute 601 hands over that minute. A **clkset** back to minute 60 of day 99
before the row changes nothing about it: the grant of minute 601 goes, and the grant of minute 602 stays (R157). -/
theorem test_expiry_handed :
    let s := { home kid with
      clock := ⟨5000, true, 100, 36059, 2, 100, 2⟩
      grants := ((home kid).grants.set 4 (some ⟨1, .windowWaiver ⟨100, 601⟩⟩)).set 5
        (some ⟨1, .titlePermit 9 true ⟨100, 602⟩⟩) }
    let i : Instr := .clkset (.fields ⟨99, 3600, 1⟩)
    let back := ran i (handed i (ran .secondEvent s))
    let t := ran .grantExpiry back
    back.due.expiry = some ⟨100, 601⟩ ∧ back.grants[4].isSome = true ∧ t.grants[4] = none
      ∧ t.grants[5].isSome = true ∧ t.due.expiry = none := by decide +kernel

/-! ## The day clock -/

theorem test_clkread_unset :
    answer (.clkread (.fields ())) ready
      = okay 0x71 [0, 0, 0, 0, 0, 0, 0, 0, 0, 0, 0, 0, 0, 0, 0, 0, 0, 0] := by decide +kernel
/-- The next day: a rollover, the meter day 101 and weekday 3 (R161). -/
theorem test_clkset_rolls :
    let t := ran (.clkset (.fields ⟨101, 60, 3⟩)) (home kid)
    t.link.buffer = okay 0x70 [1, 0, 101, 0, 0, 0, 60, 3, 1, 0, 101, 3, 0] ∧ t.hasNotice .rollover = true
      ∧ t.clock.counter = 5000 := by decide +kernel
theorem test_clkset_second_range :
    answer (.clkset (.fields ⟨101, 86400, 3⟩)) (home kid) = some ⟨.badArgument, 0x70, []⟩ := by decide +kernel
theorem test_second_midnight :
    let t := ran .secondEvent { ready with clock := ⟨5000, true, 65535, 86399, 6, 65535, 6⟩ }
    t.clock = ⟨5001, true, 65535, 0, 6, 65535, 6⟩ ∧ t.due.minute = true := by decide +kernel
theorem test_second_unset :
    let t := ran .secondEvent { ready with authority := ⟨some 2, 0, none⟩ }
    t.clock.counter = 1 ∧ t.due.minute = false ∧ t.authority.window = some 1 ∧ t.due.window = false := by
  decide +kernel
/-- A midnight's outstanding meter part is taken at the next MINUTE_BOUNDARY (R112, R162). -/
theorem test_minute_boundary_takes_the_rollover :
    let s := home kid
    let t := ran .minuteBoundary { s with
      meters := s.meters.set 1 ⟨500, 0, 0, 0, false⟩, due := { s.due with rollover := [.meters] } }
    t.meters[1] = Meter.cleared ∧ t.due.rollover = [] ∧ t.store.queue = [⟨24, false⟩] := by decide +kernel
/-- A DENY window from 10:00 covers 10:00 itself (R74, R76). -/
theorem test_minute_boundary :
    let s := watching (.child ⟨7, some 0x11, none⟩ { Rules.newChild with
      ceiling := 12, windows := (Vector.replicate 4 none).set 3 (some ⟨.deny, 600, 660, 4⟩) }) (.clear .allPass)
    (ran .minuteBoundary { s with due := { s.due with minute := true } }).seats[0].entries
      = [⟨1, .denied .window⟩] := by decide +kernel

/-- Extra time of the day left is retired with an outstanding part; one made after the midnight carries the new meter
day and stays (R148, R149). -/
theorem test_minute_boundary_retires_extra_time :
    let s := home kid
    let t := ran .minuteBoundary { s with
      grants := (s.grants.set 0 (some ⟨1, .extraTime 30 99⟩)).set 1 (some ⟨0, .extraTime 30 100⟩)
      due := { s.due with rollover := [.grants] } }
    t.grants[0] = none ∧ t.grants[1] = some ⟨0, .extraTime 30 100⟩ ∧ t.due.rollover = [] := by decide +kernel

/-! ## The guardian unit -/

/-- While the PIN is UNSET any sequence opens the window for 300 seconds (R168). -/
theorem test_pin_unset : answer (.pin (.fields ⟨4, [1, 2, 3, 4, 0, 0, 0, 0]⟩)) ready
    = okay 0x80 [1, 0x2C, 0, 0, 1, 0x2C, 1] := by decide +kernel
/-- The fourth failure locks out for 120 seconds (R169). -/
theorem test_pin_fourth_failure :
    answer (.pin (.fields ⟨4, [1, 2, 3, 5, 0, 0, 0, 0]⟩)) { ready with
      settings := { ready.settings with pin := some [1, 2, 3, 4] }, authority := ⟨none, 3, none⟩ }
      = some ⟨.wrongPin, 0x80, [4, 1, 0, 120]⟩ := by decide +kernel
theorem test_repin :
    let t := ran (.repin (.fields ⟨4, [9, 0, 0, 1, 0xFF, 0, 0, 0]⟩)) (opened ready)
    t.settings.pin = some [9, 0, 0, 1] ∧ t.store.queue = [⟨22, false⟩] := by decide +kernel
theorem test_repin_closed :
    answer (.repin (.fields ⟨0, List.replicate 8 0⟩)) ready = some ⟨.notPermitted, 0x81, []⟩ := by
  decide +kernel
theorem test_close :
    let t := ran (.close (.fields ())) (opened ready)
    t.link.buffer = okay 0x82 [1, 0] ∧ t.notices = 0x2000 ∧ t.authority.window = none := by decide +kernel
/-- A window length of 59 is clamped to 60; the other settings stay (R176). -/
theorem test_hset_clamps : answer (.hset (.fields ⟨8, 0, 0, 0, 59⟩)) (opened ready)
    = okay 0x83 [0, 1, 2, 3, 3, 2, 1, 0, 0, 0, 0, 60, 0, 0, 0, 1, 1, 0] := by decide +kernel
theorem test_hset_order_twice :
    answer (.hset (.fields ⟨1, 0x00010202, 0, 0, 0⟩)) (opened ready) = some ⟨.badArgument, 0x83, []⟩ := by
  decide +kernel
theorem test_hread : answer (.hread (.fields ())) (opened ready)
    = okay 0x84 [0, 0, 1, 2, 3, 3, 2, 1, 0, 0, 0, 1, 0x2C, 1, 3, 0x84, 0, 0, 3, 0x84, 0, 0, 0, 0, 0, 0, 0, 0,
        0, 0, 0, 0, 0] := by decide +kernel
theorem test_window_expiry :
    let t := ran .windowExpiry { opened ready with
      authority := ⟨some 1, 0, none⟩, due := { ready.due with window := true } }
    t.authority.window = none ∧ t.notices = 0x2000 := by decide +kernel
theorem test_lockout_end :
    (ran .lockoutEnd { ready with authority := ⟨none, 3, some 1⟩, due := { ready.due with lockout := true } }).authority
      = ⟨none, 3, none⟩ := by decide +kernel

/-! ## The store and the supply -/

/-- A write of the grant block, from its beginning to its verify. -/
def writing (phase : Phase) (attempt : Nat) : State :=
  { ready with store := { ready.store with
    running := some ⟨23, phase, attempt, ⟨.grants (Vector.replicate 16 none), 0x1D0F⟩, .erased⟩ } }

theorem test_write_begin :
    let t := ran .blockWriteBegin { ready with store := { ready.store with queue := [⟨23, false⟩, ⟨24, false⟩] } }
    t.store.running.map (fun w => (w.block, w.phase, w.attempt)) = some (23, .erase, 1)
      ∧ t.store.queue = [⟨24, false⟩] := by decide +kernel
theorem test_erase_complete :
    let t := ran (.eraseComplete false) (writing .erase 1)
    t.store.running.map (·.phase) = some .program ∧ t.store.blocks[23].contents = .partly 0 := by decide +kernel
/-- The ASCII digits 1 to 9 under the polynomial and the initial value of R179, most significant bit first. -/
theorem test_crc16 : crc16 [0x31, 0x32, 0x33, 0x34, 0x35, 0x36, 0x37, 0x38, 0x39] = 0x29B1 := by decide +kernel
theorem test_program_complete :
    let t := ran (.programComplete false) (writing .program 1)
    t.store.running.map (·.phase) = some .verify
      ∧ t.store.blocks[23].contents = .image ⟨.grants (Vector.replicate 16 none), 0x1D0F⟩ := by decide +kernel
theorem test_verify_matches :
    let t := ran (.verifyComplete false true) (writing .verify 2)
    t.store.running = none ∧ t.store.status[23] = .ok ∧ t.store.blocks[23].written = true := by decide +kernel
theorem test_verify_fails_twice :
    let t := ran (.verifyComplete false false) (writing .verify 2)
    t.store.status[23] = .failed ∧ t.store.faultLatch = true ∧ t.notices = 0x0400 := by decide +kernel
/-- All blocks BLANK, nothing queued, IDLE, no suspended write (R186); the warning level's byte is free. -/
theorem test_store :
    (answer (.store (.fields ())) ready).map (·.payload.take 34)
      = some (List.replicate 25 1 ++ [0, 0, 0, 0, 0, 0, 0, 0, 0]) := by decide +kernel
theorem test_retry :
    let t := ran (.retry (.fields ())) { ready with store := { ready.store with
      status := ready.store.status.set 3 .failed, faultLatch := true } }
    t.link.buffer = okay 0x91 [1, 1] ∧ t.store.queue = [⟨3, false⟩] ∧ t.store.faultLatch = false := by
  decide +kernel
/-- A running write of another block is suspended in its phase, and the meter block is erased (R188). -/
theorem test_supply_warning :
    let t := ran .supplyWarning (writing .program 1)
    t.store.suspended.map (fun w => (w.write.block, w.write.phase, w.fresh)) = some (23, .program, false)
      ∧ t.store.running.map (fun w => (w.block, w.phase)) = some (24, .erase) ∧ t.notices = 0x1000 := by
  decide +kernel
theorem test_supply_clear :
    (ran .supplyClear { ready with supply := ⟨2, true, false, false⟩ }).supply = ⟨2, false, false, false⟩ := by
  decide +kernel
theorem test_dip_defers :
    (ran .secondEvent (ran .dipBegin ready)).deferred = [.secondEvent] := by decide +kernel
/-- The held dip restarts the write from ERASE with its attempt number, and takes the second (R191). -/
theorem test_dip_end :
    (ran (.dipEnd 399) (ran .dipBegin (writing .verify 2))).store.running.map (fun w => (w.phase, w.attempt))
      = some (.erase, 2) := by decide +kernel
theorem test_full_reset :
    let t := ran (.fullReset (.dip 400) true false) (writing .verify 2)
    t.supply = ⟨2, false, false, true⟩ ∧ t.link.state = .loading ∧ t.store.running = none := by decide +kernel
theorem test_short_reset_low :
    (ran (.fullReset (.resetnLow 9) true false) ready).link.state = .ready := by decide +kernel
/-- A fall from 3.3 V to 2.5 V with the straps low, and the rise back after 100 microseconds (R189, R190, R191). -/
theorem test_supply_rows :
    supplyRows 0 3300 2500 0 = [.supplyWarning, .dipBegin]
      ∧ supplyRows 0 2500 3300 100 = [.dipEnd 100, .supplyClear] ∧ supplyRows 3 3200 3199 0 = [.supplyWarning]
      ∧ supplyRows 3 3199 3300 0 = [] := by decide +kernel
/-- With the straps low the hold ends above 3.0 V, while RESETN is high (R189). -/
theorem test_hold_goes_on :
    (ran (.startUpLoad true 3000) State.reset).supply.held = true
      ∧ (ran (.startUpLoad false 3300) State.reset).supply.held = true := by decide +kernel
theorem test_start_up_load :
    let t := ran (.startUpLoad true 3001) State.reset
    t.load = some 0 ∧ t.supply.held = false ∧ t.authority.lockout = some 60 := by decide +kernel
/-- The household block is read first; it was never written (R166, R193). -/
theorem test_load_household :
    let t := ran .storeBlockRead (ran (.startUpLoad true 3300) State.reset)
    t.load = some 1 ∧ t.settings = Settings.factory ∧ t.store.status[22] = .blank ∧ t.store.queue = [] := by
  decide +kernel
/-- The last read ends the load: STARTED and CLOCK_NEEDED (R194). -/
theorem test_load_ends :
    let t := ran .storeBlockRead { ready with load := some 24, link := ⟨.loading, none, .clear, []⟩ }
    t.load = none ∧ t.link.state = .ready ∧ t.notices = 0x00C0 ∧ t.pins.attn = true := by decide

/-! ## Witnesses: the hypotheses of each statement, met together -/

theorem witness_O1 : exec .secondEvent State.reset = .next State.reset
    ∧ exec .dipBegin ready = .next { ready with supply := ⟨0, false, true, false⟩ } := ⟨rfl, rfl⟩

theorem witness_O2 : (∀ c a b, Instr.secondEvent ≠ .fullReset c a b) ∧ (∀ h v, Instr.secondEvent ≠ .startUpLoad h v)
    ∧ State.reset.supply.held = true ∧ (ran .dipBegin ready).supply = ⟨0, false, true, false⟩
    ∧ Instr.secondEvent ≠ .dipBegin ∧ (∀ us, Instr.secondEvent ≠ .dipEnd us)
    ∧ keptInDip .secondEvent = true ∧ keptInDip (.eraseComplete false) = false :=
  ⟨fun _ _ _ => nofun, fun _ _ => nofun, rfl, rfl, nofun, nofun, rfl, rfl⟩

theorem witness_O3 :
    let i := Instr.sload (.fields ⟨7, 0xFFFF, 52, List.replicate 52 0xFF⟩)
    i.wellFormed = true ∧ (encodeFrame i).map (·.length) = some 59 ∧ (List.replicate 7 true).length < 8
      ∧ (0 : Byte) ≠ 0xA5 ∧ (0 : Byte) ≠ 0x5A := by decide +kernel

/-- A frame with each fault alone (one byte, a length of 57, a count that is 1 short and 1 over, another CRC-8), the
longest sound one, and sound ones of an unknown code, of **sload** with 4 and 3 bytes, and of **pin** with 9 and 8. -/
theorem witness_O3_frames :
    let sound := fun f : List Byte => decide (2 ≤ f.length ∧ (f[1]?.getD 0).toNat ≤ 56
      ∧ f.length = (f[1]?.getD 0).toNat + 3 ∧ f.getLast? = some (crc8 f.dropLast))
    let known := fun (c : Nat) (w : Nat) => decide ((c, w) ∈ requestWidths)
    sound [0xF0] = false ∧ sound (frameOf 0xF0 (List.replicate 57 0)) = false ∧ sound [0xF0, 0] = false
      ∧ sound [0xF0, 0, 0x14, 0] = false ∧ sound [0xF0, 0, 0x15] = false ∧ sound [0xF0, 0, 0x14] = true
      ∧ sound (frameOf 0x10 (List.replicate 56 0)) = true ∧ sound (frameOf 0x14 []) = true
      ∧ (requestWidths.all fun x => x.1 ≠ 0x14) = true ∧ sound (frameOf 0x10 [2, 0, 0, 0]) = true
      ∧ sound (frameOf 0x10 [2, 0, 0]) = true ∧ known 0x10 4 = true
      ∧ sound (frameOf 0x80 (List.replicate 9 0)) = true ∧ sound (frameOf 0x80 (List.replicate 8 0)) = true
      ∧ known 0x80 9 = true := by decide +kernel

theorem witness_O4 : ready.Awake ∧ ready.link.state = .ready
    ∧ (handed (.store (.fields ())) ready).link.state = .executing (.store (.fields ()))
    ∧ (ran (.describe (.fields ())) ready).link.state = .answered
    ∧ ({ ready with link := ⟨.loading, none, .clear, []⟩ } : State).link.state = .loading
    ∧ checkFrame [0xF0, 0, 0x14] = .command (.describe (.fields ()))
    ∧ checkFrame [0xF0, 0, 0x15] = .badFrame 0xF0 ∧ checkFrame (frameOf 0 []) = .unknown 0 :=
  ⟨ready_awake, rfl, rfl, rfl, rfl, by decide +kernel, by decide +kernel, by decide +kernel⟩

/-- A NOTHING frame is complete after six bytes and cut after five. -/
theorem witness_O5 : ready.Awake ∧ (∀ i, ready.link.state ≠ .executing i)
    ∧ (responseFrame ready.fetched ready.link.flags).length = 6
    ∧ (ran (.fetchTransaction 5) { ready with link := ⟨.ready, none, ⟨true, true, true⟩, []⟩ }).link.flags
      = ⟨true, true, true⟩
    ∧ (ran (.fetchTransaction 6) { ready with link := ⟨.ready, none, ⟨true, true, true⟩, []⟩ }).link.flags
      = .clear ∧ (0 : Byte) ≠ 0xA5 ∧ (0 : Byte) ≠ 0x5A :=
  ⟨ready_awake, nofun, by decide +kernel⟩

/-- The start-up load runs, and no response is held. -/
def loading : State := { ready with link := ⟨.loading, none, .clear, []⟩, load := some 24 }

theorem witness_O6 : loading.Awake ∧ loading.link.state = .loading
    ∧ commandCode (.describe (.fields ())) = some 0xF0 := ⟨⟨rfl, rfl⟩, rfl, rfl⟩

theorem witness_O7 : let i := Instr.hset .misfit
    isGuarded i = true ∧ (handed i ready).Handed i ∧ (handed i ready).authority.window = none :=
  ⟨rfl, handed_is _ ready_awake, rfl⟩

theorem witness_O8 : let i := Instr.eset .misfit
    let s := handed i { opened ready with edit := some ⟨1, true, kid⟩ }
    isMisfit i = true ∧ s.Handed i ∧ s.authority.window.isSome = true ∧ s.edit.isSome = true
      ∧ isMisfit (.gadd .misfit) = true ∧ isMisfit (.ecommit .misfit) = true :=
  ⟨rfl, handed_is _ ⟨rfl, rfl⟩, rfl, rfl, rfl, rfl⟩

theorem witness_O9_O10_O36 : loading.Awake ∧ loading.link.state = .loading
    ∧ (handed (.describe (.fields ())) ready).Handed (.describe (.fields ()))
    ∧ (handed (.notices (.fields ())) ready).Handed (.notices (.fields ()))
    ∧ (handed (.clkread (.fields ())) ready).Handed (.clkread (.fields ())) ∧ ready.clock.isSet = false
    ∧ (handed (.clkread (.fields ())) (home kid)).Handed (.clkread (.fields ()))
    ∧ (home kid).clock.isSet = true :=
  ⟨⟨rfl, rfl⟩, rfl, handed_is _ ⟨rfl, rfl⟩, handed_is _ ⟨rfl, rfl⟩, handed_is _ ⟨rfl, rfl⟩, rfl,
    handed_is _ ⟨rfl, rfl⟩, rfl⟩

theorem witness_O11 : let i := Instr.restart (.fields ())
    (handed i (opened ready)).Handed i ∧ (handed i (opened ready)).authority.window.isSome = true
      ∧ (handed i ready).Handed i ∧ (handed i ready).authority.window.isSome = false :=
  ⟨handed_is _ ⟨rfl, rfl⟩, rfl, handed_is _ ⟨rfl, rfl⟩, rfl⟩

/-- Slot 2 is LOADED with one level, slot 3 is LOADED and locked, the other operator slots are EMPTY. -/
def mapped : State := { ready with
  schemes := (ready.schemes.set 2 ⟨false, some ⟨0, [31]⟩⟩).set 3 ⟨true, some ⟨0, [5]⟩⟩ }

/-- Maps of 1 and of 32 levels, for the slots 2 and 7. -/
theorem witness_O12 :
    let a : SloadArgs := ⟨7, 1, 32, List.replicate 32 31⟩
    let b : SloadArgs := ⟨2, 1, 1, [0]⟩
    (handed (.sload (.fields a)) mapped).Handed (.sload (.fields a))
      ∧ (handed (.sload (.fields b)) mapped).Handed (.sload (.fields b))
      ∧ (handed (.sclr (.fields 2)) mapped).Handed (.sclr (.fields 2))
      ∧ (handed (.sclr (.fields 7)) mapped).Handed (.sclr (.fields 7))
      ∧ (2 ≤ (7 : Fin 8).val ∧ mapped.schemes[7].locked = false ∧ a.slot.toNat = 7
        ∧ a.n.toNat = a.levels.length ∧ 1 ≤ b.levels.length ∧ a.levels.length ≤ 32
        ∧ (∀ l ∈ a.levels, l.toNat ≤ 31) ∧ b.n.toNat = b.levels.length ∧ (∀ l ∈ b.levels, l.toNat ≤ 31)
        ∧ mapped.schemes[2].locked = false ∧ mapped.schemes[2].scheme.isSome = true
        ∧ mapped.schemes[7] = SchemeSlot.empty) :=
  ⟨handed_is _ ⟨rfl, rfl⟩, handed_is _ ⟨rfl, rfl⟩, handed_is _ ⟨rfl, rfl⟩, handed_is _ ⟨rfl, rfl⟩,
    by decide +kernel⟩

/-- A child watches a programme that names the slot, and its new level is above the ceiling. -/
theorem witness_O12_judged :
    let s := { (home kid).putSeat 0 [⟨1, .clear .allPass⟩] (some { film with scheme := 2, rating := 0 }) with
      schemes := mapped.schemes }
    let i : Instr := .sload (.fields ⟨2, 0, 1, [31]⟩)
    let t := ran i (handed i s)
    let names := fun j : Fin 6 => s.seats[j].programme.any fun p => decide (p.scheme.toNat = 2)
    Quiet { s with
        schemes := s.schemes.set 2 ⟨false, some ⟨0, [31]⟩⟩
        seats := Vector.ofFn fun j => if names j then { s.seats[j] with
          programme := t.seats[j].programme
          guardianPresent := (s.viewers j).any fun x => s.kind? x = some .guardian } else s.seats[j] }
      true (fun j _ => names j)
      ∧ t.seats[(0 : Fin 6)].entries = [⟨1, .denied .ratingLevel⟩] :=
  ⟨quiet_of (by decide +kernel), by decide +kernel⟩

/-- Past the slot and the lock: n of 0 and of 33, a level too many, and level 32 at the end of a map. -/
theorem witness_O12_refusals :
    (∀ a, (handed (.sload (.fields a)) mapped).Handed (.sload (.fields a)))
      ∧ (2 : Byte).toNat = (2 : Fin 8).val ∧ 2 ≤ (2 : Fin 8).val ∧ mapped.schemes[2].locked = false
      ∧ (0 : Byte).toNat < 1 ∧ 32 < (33 : Byte).toNat ∧ (List.replicate 2 (0 : Byte)).length ≠ (1 : Byte).toNat
      ∧ ∃ l ∈ ([31, 32] : List Byte), 31 < l.toNat :=
  ⟨fun _ => handed_is _ ⟨rfl, rfl⟩, by decide +kernel⟩

theorem witness_O13 : (∀ b : Byte, (handed (.slock (.fields b)) mapped).Handed (.slock (.fields b)))
    ∧ (handed (.sclr (.fields 3)) mapped).Handed (.sclr (.fields 3))
    ∧ (mapped.schemes[2].scheme.isSome = true ∧ mapped.schemes[2].locked = false
      ∧ mapped.schemes[3].scheme.isSome = true ∧ mapped.schemes[3].locked = true
      ∧ mapped.schemes[7].scheme = none ∧ (1 : Byte).toNat < 2 ∧ 7 < (8 : Byte).toNat) :=
  ⟨fun _ => handed_is _ ⟨rfl, rfl⟩, handed_is _ ⟨rfl, rfl⟩, by decide +kernel⟩

theorem witness_O14 :
    let new := Instr.eopen (.fields ⟨15, 0, 2⟩)
    let change := Instr.eopen (.fields ⟨0, 1, 0⟩)
    (handed new (opened ready)).Handed new ∧ (handed change (opened ready)).Handed change
      ∧ (opened ready).authority.window.isSome = true ∧ (opened ready).edit = none
      ∧ (15 : Fin 16) ≠ 0 ∧ (opened ready).profile? 15 = none
      ∧ (opened ready).profile? 0 = some Profile.factoryGuest :=
  ⟨handed_is _ ⟨rfl, rfl⟩, handed_is _ ⟨rfl, rfl⟩, by decide +kernel⟩

/-- Slot 16, mode 2, kinds 0 and 3 of a NEW edit; an edit already open; slot 0 and a LIVE slot for NEW, a FREE slot
for CHANGE. -/
theorem witness_O14_refusals :
    let s := opened (home kid)
    (∀ a, (handed (.eopen (.fields a)) s).Handed (.eopen (.fields a)))
      ∧ (∀ a, (handed (.eopen (.fields a)) { s with edit := some ⟨15, true, adult⟩ }).Handed (.eopen (.fields a)))
      ∧ s.authority.window.isSome = true ∧ s.edit = none
      ∧ 15 < (16 : Byte).toNat ∧ 1 < (2 : Byte).toNat ∧ (0 : Byte) ≠ 1 ∧ (3 : Byte) ≠ 1 ∧ (3 : Byte) ≠ 2
      ∧ (0 : Byte).toNat = (0 : Fin 16).val ∧ (s.profile? 1).isSome = true ∧ s.profile? 15 = none :=
  ⟨fun _ => handed_is _ ⟨rfl, rfl⟩, fun _ => handed_is _ ⟨rfl, rfl⟩, by decide +kernel⟩

/-- A buffer of each kind, and values at the ends of the ranges: numbers in value bytes 0..3, and both window kinds
with the last start, the last end, and the first and last weekday. -/
theorem witness_O15 :
    let s := { opened ready with edit := some ⟨1, true, .child Ident.blank Rules.newChild⟩ }
    let g := { opened ready with edit := some ⟨0, false, judgedRecord true Ident.blank Rules.newChild⟩ }
    let a := { opened ready with edit := some ⟨2, false, .guardian Ident.blank⟩ }
    let deny : BitVec 48 := 0x02059F000001
    let allow : BitVec 48 := 0x010000059F40
    (∀ id v, (handed (.eset (.fields ⟨id, v⟩)) s).Handed (.eset (.fields ⟨id, v⟩)))
      ∧ (∀ id v, (handed (.eset (.fields ⟨id, v⟩)) g).Handed (.eset (.fields ⟨id, v⟩)))
      ∧ (∀ id v, (handed (.eset (.fields ⟨id, v⟩)) a).Handed (.eset (.fields ⟨id, v⟩)))
      ∧ s.edit = some ⟨1, true, judgedRecord false Ident.blank Rules.newChild⟩
      ∧ g.edit = some ⟨0, false, judgedRecord true Ident.blank Rules.newChild⟩
      ∧ a.edit = some ⟨2, false, .guardian Ident.blank⟩
      ∧ ((0x0000FFFF0000 : BitVec 48).extractLsb' 16 32).toNat = 65535
      ∧ ((0x000000FF0000 : BitVec 48).extractLsb' 16 32).toNat = 255
      ∧ ((0x000005A00000 : BitVec 48).extractLsb' 16 32).toNat = 1440
      ∧ ((0x000000050000 : BitVec 48).extractLsb' 16 32).toNat = 5
      ∧ ((0 : BitVec 48).extractLsb' 16 32).toNat = 0 ∧ (0 : BitVec 48).extractLsb' 40 8 = 0
      ∧ deny.extractLsb' 40 8 = 2 ∧ (deny.extractLsb' 24 16).toNat = 1439 ∧ (deny.extractLsb' 8 16).toNat = 0
      ∧ deny.extractLsb' 0 8 = 1 ∧ allow.extractLsb' 40 8 = 1 ∧ (allow.extractLsb' 24 16).toNat = 0
      ∧ (allow.extractLsb' 8 16).toNat = 1439 ∧ allow.extractLsb' 0 8 = 0x40
      ∧ (allow.extractLsb' 0 8).msb = false :=
  ⟨fun _ _ => handed_is _ ⟨rfl, rfl⟩, fun _ _ => handed_is _ ⟨rfl, rfl⟩, fun _ _ => handed_is _ ⟨rfl, rfl⟩, rfl,
    rfl, rfl, by decide +kernel⟩

/-- No buffer, an unknown field, a field that the kind does not take, and a value just outside each range. -/
theorem witness_O15_refusals :
    (∀ id v, (handed (.eset (.fields ⟨id, v⟩)) ready).Handed (.eset (.fields ⟨id, v⟩))) ∧ ready.edit = none
      ∧ ¬ KnownField 0 ∧ ¬ KnownField 9 ∧ ¬ KnownField 0x27 ∧ ¬ KnownField 0x34 ∧ ¬ KnownField 0x3B ∧ KnownField 4 ∧ KnownField 2
      ∧ (Profile.guardian Ident.blank).kind = .guardian ∧ Profile.factoryGuest.kind = .guest
      ∧ OutOfRange 1 0x000100000000 ∧ OutOfRange 4 0x000000200000 ∧ OutOfRange 8 0x000000650000
      ∧ OutOfRange 0x17 0x000001910000 ∧ OutOfRange 0x26 0x000005A10000 ∧ OutOfRange 0x28 0x000000020000
      ∧ OutOfRange 0x2A 0x0000001F0000 ∧ OutOfRange 0x38 0x000000040000 ∧ OutOfRange 0x39 0x000000040000
      ∧ OutOfRange 0x39 0x0000003D0000 ∧ OutOfRange 0x3A 0x000000090000 ∧ OutOfRange 0x30 0x030000000001
      ∧ OutOfRange 0x33 0x0105A0000001 ∧ OutOfRange 0x33 0x010000000000 ∧ OutOfRange 0x33 0x020000000080 := by
  refine ⟨fun _ _ => handed_is _ ⟨rfl, rfl⟩, rfl, ?_⟩
  unfold KnownField OutOfRange
  and_intros <;> first | rfl | decide +kernel

/-- One LIVE record, in slot 1, and a buffer over the slot given. -/
def editing (k : Fin 16) (isNew : Bool) (image : Profile) : State := { opened ready with
  slots := (Vector.replicate 16 .free).set 1 (.live kid), edit := some ⟨k, isNew, image⟩ }

/-- A NEW guardian, a CHANGE of the child, and a child that takes the token of slot 1. -/
theorem witness_O16 : (∀ k n p, (handed (.ecommit (.fields ())) (editing k n p)).Handed (.ecommit (.fields ())))
    ∧ MayCommit (editing 5 true adult) ⟨5, true, adult⟩ ∧ MayCommit (editing 1 false kid) ⟨1, false, kid⟩
    ∧ ¬ MayCommit (editing 5 true kid) ⟨5, true, kid⟩ := by
  refine ⟨fun _ _ _ => handed_is _ ⟨rfl, rfl⟩, ⟨fun _ => rfl, fun _ => by decide, ?_, nofun⟩,
    ⟨fun _ => rfl, nofun, ?_, ?_⟩, ?_⟩
  · intro j p t _ hp ht
    have h : ∀ j, ∀ p ∈ (editing 5 true adult).profile? j, p = kid := by decide +kernel
    obtain rfl := h j p hp
    rcases ht with ht | ht <;> (cases ht; rfl)
  · intro j p t hj hp _
    have h : ∀ j, j ≠ (1 : Fin 16) → (editing 1 false kid).profile? j = none := by decide +kernel
    cases (h j hj).symm.trans hp
  · intro r hr; cases hr; decide +kernel
  · intro h
    have := h.2.2.1 1 kid 0x11 (by decide) rfl (.inl rfl)
    exact absurd this (by decide)

/-- A CHANGE that leaves the remaining time and one that takes all of it, with the state that the exhaustion event
leaves: both are judged. -/
theorem witness_O16_falls :
    let s := { watching kid (.clear .allPass) with meters := Vector.replicate 16 ⟨6000, 0, 0, 0, false⟩ }
    let changed : Profile → State := fun p => { s with slots := s.slots.set 1 (.live p), edit := none }
    let short : Profile := .child ⟨7, some 0x11, none⟩ { Rules.newChild with
      ceiling := 12, allowances := Vector.replicate 7 1 }
    let mid := (changed short).exhaustionCheck 1
    0 < s.remaining 1 ∧ (changed short).remaining 1 = 0 ∧ (changed short).isMetered 1 = true
      ∧ 0 < (changed kid).remaining 1 ∧ Quiet (changed kid) true (fun _ e => decide (e.slot = 1))
      ∧ ExhaustionTaken (changed short) mid 1 ∧ Quiet mid true (fun _ e => decide (e.slot = 1))
      ∧ mid.seats[(0 : Fin 6)].entries = [⟨1, .denied .time⟩] :=
  ⟨by decide +kernel, by decide +kernel, by decide +kernel, by decide +kernel, quiet_of (by decide +kernel),
    exhaustionCheck_taken _ _ (by decide +kernel), quiet_of (by decide +kernel), by decide +kernel⟩

/-- Each refusal of R29 comes first somewhere: no primary token, two equal tokens, a token of slot 1, a flat window
in position 3 behind one that is not. -/
theorem witness_O16_refusals :
    let flat : Profile := .child ⟨0, some 0x44, none⟩ { Rules.newChild with
      windows := #v[some ⟨.deny, 0, 1, 1⟩, none, none, some ⟨.allow, 600, 600, 1⟩] }
    (handed (.ecommit (.fields ())) ready).Handed (.ecommit (.fields ())) ∧ ready.edit = none
      ∧ (Profile.guardian Ident.blank).who.primary = none
      ∧ (Profile.guardian ⟨0, some 9, some 9⟩).who.secondary = (Profile.guardian ⟨0, some 9, some 9⟩).who.primary
      ∧ (∃ p, (editing 5 true kid).profile? 1 = some p ∧ p.holdsToken 0x11 = true)
      ∧ flat.rules?.map (·.windows[(3 : Fin 4)]) = some (some ⟨.allow, 600, 600, 1⟩)
      ∧ flat.rules?.map (fun r => (r.windows[(0 : Fin 4)].any fun x => x.start = x.stop)) = some false :=
  ⟨handed_is _ ⟨rfl, rfl⟩, rfl, rfl, rfl, ⟨kid, rfl, by decide⟩, by decide +kernel, by decide +kernel⟩

theorem witness_O17 : (handed (.edrop (.fields ())) (editing 1 false kid)).Handed (.edrop (.fields ())) :=
  handed_is _ ⟨rfl, rfl⟩

/-- The edit buffer is open for another slot. -/
theorem witness_O18 : let i := Instr.retire (.fields 1)
    let s := handed i { opened (watching kid (.clear .allPass)) with edit := some ⟨15, true, adult⟩ }
    s.Handed i ∧ s.authority.window.isSome = true ∧ (1 : Fin 16) ≠ 0 ∧ s.slots[(1 : Fin 16)] ≠ .free
      ∧ (∀ e ∈ s.edit, e.slot ≠ 1) :=
  ⟨handed_is _ ⟨rfl, rfl⟩, rfl, by decide, by decide +kernel, by decide +kernel⟩

/-- The guardian beside a child is retired, and the child is judged alone. -/
theorem witness_O18_judged :
    let s := opened together
    let t := ran (.retire (.fields 2)) (handed (.retire (.fields 2)) s)
    let left := fun j : Fin 6 => s.seats[j].entries.filter fun e => e.slot ≠ 2
    let present := fun j : Fin 6 => (left j).any fun e => s.kind? e.slot = some .guardian
    let holds := fun j : Fin 6 => s.seats[j].entries.any fun e => e.slot = 2
    Quiet { s with
        slots := t.slots, grants := t.grants, meters := s.meters.set 2 Meter.cleared, meterDirty := true
        seats := Vector.ofFn fun j => if holds j then { s.seats[j] with
          entries := left j, guardianPresent := present j } else s.seats[j] } true
      fun j e => holds j && s.seats[j].guardianPresent && !present j && decide (s.kind? e.slot ≠ some .guardian) :=
  quiet_of (by decide +kernel)

/-- Slots 0 and 16, a FREE slot, and the slot of the edit buffer. -/
theorem witness_O18_refusals :
    let s := { opened (home kid) with edit := some ⟨1, false, kid⟩ }
    (∀ b, (handed (.retire (.fields b)) s).Handed (.retire (.fields b))) ∧ s.authority.window.isSome = true
      ∧ 15 < (16 : Byte).toNat ∧ (15 : Byte).toNat = (15 : Fin 16).val ∧ s.slots[(15 : Fin 16)] = .free
      ∧ s.slots[(1 : Fin 16)] ≠ .free ∧ ∃ e ∈ s.edit, e.slot = 1 :=
  ⟨fun _ => handed_is _ ⟨rfl, rfl⟩, rfl, by decide +kernel, by decide, by decide +kernel, by decide +kernel,
    _, rfl, rfl⟩

theorem witness_O19 : (∀ b : Byte, (handed (.sread (.fields b)) mapped).Handed (.sread (.fields b)))
    ∧ (∀ b : Byte, (handed (.pread (.fields b)) mapped).Handed (.pread (.fields b)))
    ∧ (handed (.lookup (.fields 0x23)) (home kid)).Handed (.lookup (.fields 0x23))
    ∧ 7 < (8 : Byte).toNat ∧ (7 : Byte).toNat = (7 : Fin 8).val ∧ mapped.schemes[7].scheme = none
    ∧ mapped.schemes[2].scheme = some ⟨0, [31]⟩ ∧ 15 < (16 : Byte).toNat
    ∧ (15 : Byte).toNat = (15 : Fin 16).val
    ∧ (home kid).profile? ((home kid).resolve 0x23).1 = some adult
    ∧ (∀ j : Fin 16, ((home kid).profile? j).any (fun p => p.who.primary = some 0x11) = true ↔ j = 1)
    ∧ (∀ j : Fin 16, ((home kid).profile? j).any (fun p => p.who.secondary = some 0x23) = true ↔ j = 2)
    ∧ (∀ j : Fin 16, ((home kid).profile? j).any (fun p => p.holdsToken 0x99) = false) :=
  ⟨fun _ => handed_is _ ⟨rfl, rfl⟩, fun _ => handed_is _ ⟨rfl, rfl⟩, handed_is _ ⟨rfl, rfl⟩, by decide +kernel⟩

/-- Three entries on seat 5. -/
def crowd : State :=
  (home kid).putSeat 5 [⟨0, .idle⟩, ⟨2, .idle⟩, ⟨1, .idle⟩] none

/-- The child is on seat 5 already; an unknown token brings the GUEST to seat 4, which is full; seat 0 has room. -/
theorem witness_O20 :
    let i : Byte → Word → Instr := fun b t => .join (.fields ⟨b, t⟩)
    let full := crowd.putSeat 4 [⟨3, .idle⟩, ⟨2, .idle⟩, ⟨1, .idle⟩] none
    (∀ b t, (handed (i b t) full).Handed (i b t)) ∧ (5 : Byte).toNat = (5 : Fin 6).val
      ∧ (full.resolve 0x11).1 ∈ full.viewers 5
      ∧ (full.resolve 0x99).1 ∉ full.viewers 4 ∧ 3 ≤ full.seats[(4 : Fin 6)].entries.length
      ∧ (full.resolve 0x11).1 ∉ full.viewers 0 ∧ full.seats[(0 : Fin 6)].entries.length < 3
      ∧ full.seats[(0 : Fin 6)].programme = none ∧ full.kind? 2 = some .guardian ∧ (full.rules? 1).isSome = true
      ∧ (watching kid (.clear .allPass)).seats[(0 : Fin 6)].programme = some film
      ∧ (full.evaluate 1 Rules.newChild film false none).asks = false ∧ full.requests = []
      ∧ 5 < (6 : Byte).toNat :=
  ⟨fun _ _ => handed_is _ ⟨rfl, rfl⟩, by decide +kernel⟩

/-- A guardian joins a child who watches alone: the child is judged beside it. -/
theorem witness_O20_judged :
    let s := watching kid (.low .allPass)
    let seat := s.seats[(0 : Fin 6)]
    let present := (s.viewers 0 ++ [(2 : Fin 16)]).any fun x => s.kind? x = some .guardian
    present = true ∧ seat.guardianPresent = false
      ∧ Quiet { s with seats := s.seats.set 0 { seat with
          entries := seat.entries ++ [⟨2, .idle⟩], guardianPresent := present } } true
        fun j' e => decide (j' = 0) && (decide (e.slot = 2)
          || (present && !seat.guardianPresent && decide (s.kind? e.slot ≠ some .guardian))) :=
  ⟨by decide +kernel, by decide +kernel, quiet_of (by decide +kernel)⟩

theorem witness_O21 : let s := watching kid (.clear .allPass)
    let i : Byte → Instr := fun b => .leave (.fields ⟨b, 1, 1⟩)
    (∀ b, (handed (i b) s).Handed (i b)) ∧ (∀ b, (handed (.vacate (.fields b)) s).Handed (.vacate (.fields b)))
      ∧ (∀ b, (handed (.endp (.fields b)) s).Handed (.endp (.fields b)))
      ∧ s.target? 1 1 = some (1, 4) ∧ s.target? 0 0x11 = some (1, 1) ∧ (1 : Fin 16) ∉ s.viewers 5
      ∧ 1 ∈ s.viewers 0 ∧ s.seats[(5 : Fin 6)].programme = none
      ∧ s.seats[(0 : Fin 6)].programme.isSome = true :=
  ⟨fun _ => handed_is _ ⟨rfl, rfl⟩, fun _ => handed_is _ ⟨rfl, rfl⟩, fun _ => handed_is _ ⟨rfl, rfl⟩,
    by decide +kernel⟩

/-- The guardian beside a child leaves, and the child is judged alone. -/
theorem witness_O21_judged :
    let s := together
    let seat := s.seats[(0 : Fin 6)]
    let left := seat.entries.filter fun e => e.slot ≠ 2
    let present := left.any fun e => s.kind? e.slot = some .guardian
    seat.guardianPresent = true ∧ present = false
      ∧ Quiet { s with seats := s.seats.set 0 { seat with entries := left, guardianPresent := present } } true
        fun j' e => decide (j' = 0) && seat.guardianPresent && !present
          && decide (s.kind? e.slot ≠ some .guardian) :=
  ⟨by decide +kernel, by decide +kernel, quiet_of (by decide +kernel)⟩

/-- Seat 6, form 2, and slot 16 in the slot form. -/
theorem witness_O21_refusals :
    (∀ a, (handed (.leave (.fields a)) ready).Handed (.leave (.fields a)))
      ∧ (∀ b, (handed (.vacate (.fields b)) ready).Handed (.vacate (.fields b)))
      ∧ (∀ b, (handed (.endp (.fields b)) ready).Handed (.endp (.fields b)))
      ∧ 5 < (6 : Byte).toNat ∧ 1 < (2 : Byte).toNat ∧ 15 < (16 : Word).toNat
      ∧ (15 : Word).toNat = (15 : Fin 16).val :=
  ⟨fun _ => handed_is _ ⟨rfl, rfl⟩, fun _ => handed_is _ ⟨rfl, rfl⟩, fun _ => handed_is _ ⟨rfl, rfl⟩, by decide⟩

theorem witness_O22 : let s := watching kid (.clear .allPass)
    (∀ a, (handed (.play (.fields a)) s).Handed (.play (.fields a)))
      ∧ 5 < (6 : Byte).toNat ∧ 7 < (8 : Byte).toNat ∧ (5 : Byte).toNat = (5 : Fin 6).val
      ∧ (7 : Byte).toNat = (7 : Fin 8).val :=
  ⟨fun _ => handed_is _ ⟨rfl, rfl⟩, by decide⟩

/-- A child in wind-down whose seat takes a new programme: it has time again, and is judged as in no wind-down. -/
theorem witness_O22_judged :
    let s := watching kid (.winding .allPass 5001)
    let p : Programme := ⟨1, 2, 0, 0, 9, none, some 10⟩
    let i : Instr := .play (.fields ⟨0, ⟨1, 2, 0, 0, 9, 0⟩⟩)
    Quiet { s with seats := s.seats.set 0 { s.seats[(0 : Fin 6)] with
        programme := some p, guardianPresent := (s.viewers 0).any fun x => s.kind? x = some .guardian } } false
        (fun j' _ => decide (j' = 0))
      ∧ s.requests = [] ∧ (s.kind? 1).isSome = true
      ∧ (ran i (handed i s)).seats[(0 : Fin 6)].entries = [⟨1, .clear .allPass⟩] :=
  ⟨quiet_of (by decide +kernel), rfl, by decide +kernel, by decide +kernel⟩

/-- Schemes 8 and 7, an EMPTY slot, and the last value of a map and the one past it. -/
theorem witness_O22_translate :
    7 < (8 : Byte).toNat ∧ (7 : Byte).toNat = (7 : Fin 8).val ∧ mapped.schemes[(7 : Fin 8)].scheme = none
      ∧ mapped.schemes[(2 : Fin 8)].scheme = some ⟨0, [31]⟩ ∧ (0 : Byte).toNat < [31].length
      ∧ [31].length ≤ (1 : Byte).toNat := by decide +kernel

/-- Each group as the first to decide, behind GRANT or behind the three others. -/
theorem witness_O23 :
    let r := { Rules.newChild with ceiling := 12 }
    let denied := { r with windows := (Vector.replicate 4 none).set 0 (some ⟨.deny, 600, 601, 4⟩) }
    let s := home kid
    let permit := { s with grants := s.grants.set 15 (some ⟨1, .titlePermit 0x2A false ⟨100, 601⟩⟩) }
    (∀ x ∈ [RuleGroup.grant], s.Passes 1 Rules.newChild film false none x)
      ∧ ratingGroup Rules.newChild film false = some .ratingLevel
      ∧ ratingGroup r { film with maturity := some 12 } false = none
      ∧ s.windowGroup 1 denied = some .window
      ∧ s.timeGroup 1 r none = some .clear
      ∧ ({ s with meters := s.meters.set 1 ⟨360000, 0, 0, 0, false⟩ } : State).timeGroup 1 r none = none
      ∧ permit.titlePermit? 1 film.content = some false := by
  refine ⟨fun x hx => ?_, by decide +kernel⟩
  obtain rfl := List.mem_singleton.mp hx
  show (home kid).titlePermit? 1 film.content = none
  decide +kernel

/-- The four groups at the ends of their clauses: a level equal to the ceiling and one above it, a blocked
descriptor, the first and last minute of a window and of one that spans midnight, the clock UNSET, a waiver, and
the rows of the time group. -/
theorem witness_O23_groups :
    let s := home drawer
    let spent := { s with meters := s.meters.set 1 ⟨360000, 0, 0, 0, false⟩ }
    let day : Window := ⟨.allow, 900, 1080, 0x1F⟩
    let night : Window := ⟨.deny, 1140, 60, 0x20⟩
    ratingGroup Rules.newChild { film with maturity := some 0 } false = none
      ∧ ratingGroup { Rules.newChild with headroom := 10 } film true = none
      ∧ ratingGroup { Rules.newChild with headroom := 9 } film true = some .ratingLevel
      ∧ ratingGroup { Rules.newChild with ceiling := 10, blocked := 4 } { film with descriptors := 6 } false
        = some .ratingDescriptor
      ∧ day.covers 900 4 = true ∧ day.covers 1080 4 = false ∧ day.covers 900 5 = false
      ∧ night.covers 1140 5 = true ∧ night.covers 59 6 = true ∧ night.covers 60 6 = false ∧ night.covers 0 5 = false
      ∧ ready.clock.isSet = false ∧ s.clock.isSet = true
      ∧ (s.rules? 1).isSome = true ∧ s.remaining 1 = 360000 ∧ spent.remaining 1 = 0
      ∧ spent.hasRequest 1 = false ∧ spent.poolPossible 1 = true
      ∧ ({ spent with requests := [⟨1, 1, 0⟩] } : State).hasRequest 1 = true := by decide +kernel

/-- A pass of each kind carried to a permit behind TIME, and none carried to one ahead of it, where the remaining
time is LOW or not; extra time present and absent. -/
theorem witness_O23_carried :
    let s := home drawer
    let r := { Rules.newChild with ceiling := 12, tier := some 1, drawsPerDay := 2, warning := 10 }
    let left := fun u : Nat => { s with meters := s.meters.set 1 ⟨u, 0, 0, 0, false⟩ }
    let extra := { s with grants := s.grants.set 15 (some ⟨1, .extraTime 720 100⟩) }
    (∀ x ∈ [RuleGroup.time], (left 0).Passes 1 r film false none x)
      ∧ (left 0).timeGroup 1 r none = some .clear ∧ (left 300000).timeGroup 1 r none = some .low
      ∧ (left 299999).timeGroup 1 r none = some .clear ∧ (left 360000).timeGroup 1 r none = some (.waiting true)
      ∧ (left 360000).timeGroup 1 r (some 5001) = some (.winding 5001)
      ∧ (left 300000).remaining 1 = r.warning * 6000 ∧ (left 359999).remaining 1 = 1
      ∧ extra.grants[(15 : Fin 16)] = some ⟨1, .extraTime 720 100⟩ ∧ s.grants = Vector.replicate 16 none
      ∧ (∀ e : Fin 16, e ≠ 15 → extra.grants[e] = none) ∧ kid.rules?.map (·.rates[(7 : Fin 8)]) = some 100 := by
  refine ⟨fun x hx => ?_, by decide +kernel⟩
  obtain rfl := List.mem_singleton.mp hx
  show Option.isSome _ = true
  decide +kernel

theorem witness_O24 : let s := home kid
    let i : Byte → Word → Byte → Instr := fun f t c => .preview (.fields ⟨f, t, ⟨1, 4, 0, 7, 0, 0⟩, c⟩)
    (∀ f t c, (handed (i f t c) s).Handed (i f t c))
      ∧ s.target? 1 1 = some (1, 4) ∧ s.target? 1 15 = some (15, 4) ∧ s.target? 0 0x22 = some (2, 1)
      ∧ (7 : Byte).toNat = (7 : Fin 8).val ∧ 1 < (2 : Byte).toNat ∧ (1 : Byte).toNat ≤ 1
      ∧ s.profile? 15 = none ∧ s.profile? 2 = some adult ∧ s.profile? 1 = some kid ∧ kid.rules?.isSome = true
      ∧ 15 < (16 : Word).toNat ∧ 7 < (8 : Byte).toNat :=
  ⟨fun _ _ _ => handed_is _ ⟨rfl, rfl⟩, by decide +kernel⟩

theorem witness_O25 : (∀ b : Byte, (handed (.sstat (.fields b)) crowd).Handed (.sstat (.fields b)))
    ∧ (∀ b : Byte, (handed (.mread (.fields b)) crowd).Handed (.mread (.fields b)))
    ∧ (5 : Byte).toNat = (5 : Fin 6).val ∧ 5 < (6 : Byte).toNat ∧ (15 : Byte).toNat = (15 : Fin 16).val
    ∧ 15 < (16 : Byte).toNat :=
  ⟨fun _ => handed_is _ ⟨rfl, rfl⟩, fun _ => handed_is _ ⟨rfl, rfl⟩, by decide⟩

/-- Every event of a second is due. -/
def duty (s : State) : State := { s with due := ⟨true, some s.now, true, true, true, true, true, []⟩ }

theorem witness_O26 : let s := duty (watching kid (.clear .allPass))
    s.Awake ∧ s.due.metering = true ∧ s.isMetered 1 = true ∧ s.isMetered 2 = false :=
  ⟨⟨rfl, rfl⟩, rfl, by decide +kernel⟩

/-- A child in time, one whose time is spent and who may draw, one with a request already, and one who may not draw
but whose programme ends in time. -/
theorem witness_O26_checks :
    let spend := fun (s : State) => { s with meters := s.meters.set 1 ⟨360000, 0, 0, 0, false⟩ }
    let s := watching drawer (.low .allPass)
    let ending : Profile := .child ⟨7, some 0x11, none⟩ { Rules.newChild with ceiling := 12, windCap := 1 }
    let w := spend ((home ending).putSeat 0 [⟨1, .low .allPass⟩] (some { film with ends := some 5001 }))
    (∀ j : Fin 6, s.seats[j].state = seatStateOf s.seats[j].entries s.seats[j].programme)
      ∧ (s.rules? 1).isSome = true ∧ s.isMetered 1 = true ∧ s.isMetered 15 = false ∧ 0 < s.remaining 1
      ∧ (spend s).remaining 1 = 0 ∧ (spend s).isMetered 1 = true ∧ (spend s).poolPossible 1 = true
      ∧ ((spend s).checkProfile 1).requests = [⟨1, 1, 5000⟩]
      ∧ ((spend s).checkProfile 1).seats[(0 : Fin 6)].entries = [⟨1, .waiting .allPass⟩]
      ∧ ({ spend s with requests := [⟨1, 1, 4999⟩] } : State).hasRequest 1 = true
      ∧ w.poolPossible 1 = false ∧ (w.checkProfile 1).seats[(0 : Fin 6)].entries = [⟨1, .winding .allPass 5001⟩]
      ∧ (w.checkProfile 1).meters[(1 : Fin 16)].windUsed = true := by decide +kernel

/-- A child under a permit that is not metered, and one beside a guardian with a relief of 100: metering entries of a
seat with a programme. -/
theorem witness_O26_rates :
    let s := watching kid (.clear (.grant false))
    let g := ((home kid).putSeat 0 [⟨1, .low .allPass⟩, ⟨2, .exempt⟩] (some film)).drivePins
    s.Meters 1 0 ⟨1, .clear (.grant false)⟩ ∧ g.Meters 1 0 ⟨1, .low .allPass⟩ ∧ ¬ s.Meters 15 5 ⟨15, .idle⟩
      ∧ EntryState.PermittedFor (.clear (.grant false)) (.grant false)
      ∧ ¬ EntryState.PermittedFor (.low .allPass) (.grant false)
      ∧ s.seats[(0 : Fin 6)].programme = some film ∧ s.seats[(0 : Fin 6)].guardianPresent = false
      ∧ g.seats[(0 : Fin 6)].programme = some film ∧ g.seats[(0 : Fin 6)].guardianPresent = true
      ∧ s.rules? 1 = kid.rules? ∧ s.isMetered 1 = true ∧ s.rateOf 1 = 0 ∧ g.rateOf 1 = 10000 := by
  refine ⟨⟨?_, rfl, ⟨_, .inl rfl⟩, ?_⟩, ⟨?_, rfl, ⟨_, .inr (.inl rfl)⟩, ?_⟩, fun h => ?_, .inl rfl, ?_, ?_⟩
  · decide +kernel
  · decide +kernel
  · decide +kernel
  · decide +kernel
  · exact absurd h.1 (by decide +kernel)
  · rintro (h | h | h | ⟨_, h⟩) <;> cases h
  · decide +kernel

/-- Wind-downs that end now and one second later. -/
theorem witness_O27 : let s := watching kid (.winding .allPass 5000)
    s.Awake ∧ s.due.metering = false ∧ s.requests = [] ∧ s.clock.counter = 5000
      ∧ (duty s).Awake ∧ (duty s).due.metering = true ∧ (duty s).due.interval = true
      ∧ (duty s).meterDirty = false ∧ ({ duty s with meterDirty := true } : State).meterDirty = true :=
  ⟨⟨rfl, rfl⟩, rfl, rfl, rfl, ⟨rfl, rfl⟩, rfl, rfl, rfl, rfl⟩

/-- Minutes 0, 1, 600 and 601, and a pool with no room left. -/
theorem witness_O28 :
    let i : Half → Instr := fun x => .topup (.fields x)
    let full := { opened ready with pool := ⟨0, 1440, 0, 1440⟩ }
    (∀ x, (handed (i x) (opened ready)).Handed (i x)) ∧ (∀ x, (handed (i x) full).Handed (i x))
      ∧ (opened ready).authority.window.isSome = true ∧ full.authority.window.isSome = true
      ∧ (0 : Half).toNat < 1 ∧ 600 < (601 : Half).toNat ∧ 1 ≤ (1 : Half).toNat ∧ (600 : Half).toNat ≤ 600
      ∧ min 600 (min (1440 - full.pool.remaining) (65535 - full.pool.sizeInForce - full.pool.toppedUp)) = 0
      ∧ 0 < min 1 (min (1440 - ready.pool.remaining) (65535 - ready.pool.sizeInForce - ready.pool.toppedUp)) :=
  ⟨fun _ => handed_is _ ⟨rfl, rfl⟩, fun _ => handed_is _ ⟨rfl, rfl⟩, by decide +kernel⟩

/-- A top-up at which nobody waits. -/
theorem witness_O28_quiet : (opened ready).requests = [] ∧ ∀ j : Fin 6, (opened ready).seats[j].programme = none := by
  decide +kernel

theorem witness_O29 : (duty (home kid)).Awake ∧ (duty (home kid)).due.timeout = true ∧ (home kid).Awake
    ∧ (home kid).due.timeout = false := ⟨⟨rfl, rfl⟩, rfl, ⟨rfl, rfl⟩, rfl⟩

/-- Requests of 60 and of 59 seconds, whose profiles wait, and an end of a wait with and without time left. -/
theorem witness_O29_ends :
    let s := (home drawer).putSeat 0 [⟨1, .waiting .allPass⟩, ⟨0, .waiting .allPass⟩] (some film)
    let t := { s with requests := [⟨1, 1, 4940⟩, ⟨0, 0, 4941⟩] }
    t.pool.remaining = 0 ∧ (t.requests.map (·.slot)).Nodup ∧ (∀ r ∈ t.requests, t.hasWaiting r.slot = true)
      ∧ t.hasWaiting 2 = false ∧ 0 < t.remaining 1
      ∧ ({ t with meters := t.meters.set 1 ⟨360000, 0, 0, 0, false⟩ } : State).remaining 1 = 0 := by decide +kernel

theorem witness_O30 : winner? [3, 2, 1, 0] [⟨4, 0, 9⟩, ⟨1, 1, 10⟩, ⟨2, 1, 11⟩] = some ⟨1, 1, 10⟩
    ∧ winner? [3, 2, 1, 0] [] = none ∧ ((home drawer).rules? 1).map (·.drawSize) = some 15 := by decide +kernel

/-- Draws of 15 minutes that leave one unit, none with a draw left, and none with no draw left. -/
theorem witness_O30_left :
    let s := fun (u d : Nat) =>
      let h := home drawer
      { h with meters := h.meters.set 1 ⟨u, 0, 0, d, false⟩, pool := ⟨60, 60, 0, 0⟩, requests := [⟨1, 1, 4990⟩] }
    ((s 449999 0).drawFor ⟨1, 1, 4990⟩).remaining 1 = 1 ∧ ((s 450000 0).drawFor ⟨1, 1, 4990⟩).remaining 1 = 0
      ∧ ((s 450000 0).drawFor ⟨1, 1, 4990⟩).requests = [⟨1, 1, 5000⟩]
      ∧ ((s 450000 1).drawFor ⟨1, 1, 4990⟩).requests = [] := by decide +kernel

/-- An opportunity of one draw that leaves a request with P at 0, of one that empties the queue, and of none. -/
theorem witness_O30_opportunity :
    let h := (home drawer).putSeat 0 [⟨1, .waiting .allPass⟩, ⟨0, .waiting .allPass⟩] (some film)
    let s := fun (p : Nat) (q : List Request) => { h with
      meters := (h.meters.set 1 ⟨360000, 0, 0, 0, false⟩), pool := ⟨p, p, 0, 0⟩, requests := q }
    let two : List Request := [⟨1, 1, 4990⟩, ⟨0, 0, 4991⟩]
    (∀ t ≤ 3, t ∈ h.settings.tierOrder) ∧ (∀ x ∈ two, x.tier ≤ 3)
      ∧ (∀ k : Fin 16, ((h.rules? k).bind (·.tier)).all (· ≤ 3) = true)
      ∧ (s 15 two).opportunity.2 = 1 ∧ (s 15 two).opportunity.1.requests = [⟨0, 0, 4991⟩]
      ∧ (s 15 two).opportunity.1.pool.remaining = 0
      ∧ (s 16 [⟨1, 1, 4990⟩]).opportunity.1.requests = [] ∧ (s 0 two).opportunity.2 = 0 := by decide +kernel

/-- The three kinds at the ends of their ranges: the next minute, the last minute seven days ahead, 1 and 720
minutes. -/
theorem witness_O31_grants : let s := home kid
    GivesGrant s ⟨1, 1, 9, 1, 0, 100, 601⟩ (.titlePermit 9 true ⟨100, 601⟩)
      ∧ GivesGrant s ⟨1, 3, 0, 0, 0, 107, 1439⟩ (.windowWaiver ⟨107, 1439⟩)
      ∧ GivesGrant s ⟨1, 2, 0, 0, 1, 0, 0⟩ (.extraTime 1 100)
      ∧ GivesGrant s ⟨1, 2, 0, 0, 720, 0, 0⟩ (.extraTime 720 100) := by
  refine ⟨.inl ?_, .inr (.inr ?_), .inr (.inl ?_), .inr (.inl ?_)⟩ <;> dsimp only <;> decide +kernel

/-- Entries free from 1 on, or none; extra time of 719 and of 720 minutes; a title permit of the same content. -/
theorem witness_O31_table :
    let i : Instr := .gadd (.fields ⟨1, 2, 0, 0, 720, 0, 0⟩)
    let with? := fun (g : Vector (Option Grant) 16) => { opened (home kid) with grants := g }
    let some1 := fun b => (Vector.replicate 16 none).set 0 (some (Grant.mk 1 b))
    let other := Vector.replicate 16 (some (Grant.mk 3 (.extraTime 1 100)))
    let none? := fun (g : Vector (Option Grant) 16) (b : GrantBody) =>
      ∀ e : Fin 16, ∀ x ∈ g[e], ¬ (x.slot = 1 ∧ x.body.sameKey b = true)
    (∀ g, (handed i (with? g)).Handed i) ∧ (∀ g, (with? g).authority.window.isSome = true)
      ∧ ((home kid).rules? 1).isSome = true
      ∧ none? (some1 (.windowWaiver ⟨101, 0⟩)) (.extraTime 720 100)
      ∧ (some1 (.windowWaiver ⟨101, 0⟩))[(1 : Fin 16)] = none
      ∧ (∀ e' : Fin 16, e' < 1 → (some1 (.windowWaiver ⟨101, 0⟩))[e'].isSome = true)
      ∧ none? other (.extraTime 720 100) ∧ (∀ e : Fin 16, other[e].isSome = true)
      ∧ (some1 (.extraTime 719 99))[(0 : Fin 16)] = some ⟨1, .extraTime 719 99⟩
      ∧ (some1 (.extraTime 720 99))[(0 : Fin 16)] = some ⟨1, .extraTime 720 99⟩
      ∧ (some1 (.titlePermit 9 false ⟨101, 0⟩))[(0 : Fin 16)] = some ⟨1, .titlePermit 9 false ⟨101, 0⟩⟩
      ∧ GrantBody.sameKey (.titlePermit 9 false ⟨101, 0⟩) (.titlePermit 9 true ⟨100, 601⟩) = true
      ∧ (GrantBody.extraTime 720 100).isExtra = true
      ∧ (GrantBody.titlePermit 9 true ⟨100, 601⟩).isExtra = false :=
  ⟨fun _ => handed_is _ ⟨rfl, rfl⟩, fun _ => rfl, by decide +kernel⟩

/-- A child denied by its level gets a title permit: it is judged under the new table. -/
theorem witness_O31_judged :
    let s := opened ((home kid).putSeat 0 [⟨1, .denied .ratingLevel⟩] (some { film with maturity := some 31 }))
    let i : Instr := .gadd (.fields ⟨1, 1, 0x2A, 0, 0, 101, 0⟩)
    Quiet { s with
        grants := s.grants.set 0 (some ⟨1, .titlePermit 0x2A false ⟨101, 0⟩⟩)
        store := { s.store with queue := s.queueWith [grantBlock] } } true (fun _ e => decide (e.slot = 1))
      ∧ (ran i (handed i s)).seats[(0 : Fin 6)].entries = [⟨1, .clear (.grant false)⟩] :=
  ⟨quiet_of (by decide +kernel), by decide +kernel⟩

/-- The fields of **gadd** just outside their ranges; a profile without judged fields; the clock UNSET; expiries at
now, at the minute after, at minute 1439 seven days ahead and at minute 0 of the day after that. -/
theorem witness_O31_refusals :
    let s := opened (home kid)
    let unset := opened ready
    (∀ a, (handed (.gadd (.fields a)) s).Handed (.gadd (.fields a)))
      ∧ (∀ a, (handed (.gadd (.fields a)) unset).Handed (.gadd (.fields a)))
      ∧ s.authority.window.isSome = true ∧ unset.authority.window.isSome = true
      ∧ 15 < (16 : Byte).toNat ∧ 3 < (4 : Byte).toNat ∧ 1 < (2 : Byte).toNat ∧ 1439 < (1440 : Half).toNat
      ∧ (0 : Half).toNat < 1 ∧ 720 < (721 : Half).toNat
      ∧ (15 : Byte).toNat = (15 : Fin 16).val ∧ s.rules? 15 = none ∧ s.rules? 2 = none
      ∧ (unset.rules? 0).isSome = true ∧ unset.clock.isSet = false ∧ (s.rules? 1).isSome = true
      ∧ s.clock.isSet = true ∧ (100 : Half).toNat = s.clock.day ∧ (600 : Half).toNat ≤ s.clock.second / 60
      ∧ ¬ (601 : Half).toNat ≤ s.clock.second / 60 ∧ (99 : Half).toNat < s.clock.day
      ∧ s.clock.day + 7 < (108 : Half).toNat ∧ ¬ s.clock.day + 7 < (107 : Half).toNat :=
  ⟨fun _ => handed_is _ ⟨rfl, rfl⟩, fun _ => handed_is _ ⟨rfl, rfl⟩, by decide +kernel⟩

theorem witness_O32 :
    let i : Byte → Instr := fun b => .grevoke (.fields b)
    let s := { opened (home kid) with
      grants := (Vector.replicate 16 none).set 15 (some (Grant.mk 1 (.extraTime 5 100))) }
    (∀ b, (handed (i b) s).Handed (i b)) ∧ s.authority.window.isSome = true ∧ 15 < (16 : Byte).toNat
      ∧ s.grants[(0 : Fin 16)] = none ∧ s.grants[(15 : Fin 16)] = some ⟨1, .extraTime 5 100⟩ :=
  ⟨fun _ => handed_is _ ⟨rfl, rfl⟩, rfl, by decide, by decide +kernel, by decide +kernel⟩

/-- Extra time that goes while there is time without it, and while there is none: the time then falls to 0. -/
theorem witness_O32_falls :
    let s := fun used : Nat => { opened (watching kid (.clear .allPass)) with
      grants := (Vector.replicate 16 none).set 15 (some (Grant.mk 1 (.extraTime 5 100)))
      meters := Vector.replicate 16 ⟨used, 0, 0, 0, false⟩ }
    let revoked := fun used : Nat => { s used with
      grants := (s used).grants.set 15 none
      store := { (s used).store with queue := (s used).queueWith [grantBlock] } }
    let mid := (revoked 360000).exhaustionCheck 1
    0 < (revoked 0).remaining 1 ∧ Quiet (revoked 0) true (fun _ e => decide (e.slot = 1))
      ∧ 0 < (s 360000).remaining 1 ∧ (revoked 360000).remaining 1 = 0 ∧ (revoked 360000).isMetered 1 = true
      ∧ ExhaustionTaken (revoked 360000) mid 1 ∧ Quiet mid true (fun _ e => decide (e.slot = 1))
      ∧ mid.seats[(0 : Fin 6)].entries = [⟨1, .denied .time⟩] :=
  ⟨by decide +kernel, quiet_of (by decide +kernel), by decide +kernel, by decide +kernel, by decide +kernel,
    exhaustionCheck_taken _ _ (by decide +kernel), quiet_of (by decide +kernel), by decide +kernel⟩

/-- A child watches under a permit whose last minute is 10:00: the boundary retires it, and the child is judged
without it. -/
theorem witness_O33_expiry :
    let s := duty { (home kid).putSeat 0 [⟨1, .clear (.grant false)⟩] (some { film with maturity := some 31 }) with
      grants := (Vector.replicate 16 none).set 3 (some (Grant.mk 1 (.titlePermit 0x2A false ⟨100, 600⟩))) }
    let gone := fun g : Grant => g.body.expiry?.any fun e =>
      decide (e.day < 100 ∨ (e.day = 100 ∧ e.minute ≤ 600))
    let u := ran .grantExpiry s
    s.Awake ∧ s.due.expiry = some ⟨100, 600⟩ ∧ ready.due.expiry = none ∧ (s.grants.toList.any fun g => g.any gone) = true
      ∧ Quiet { s with
          due := { s.due with expiry := none }, grants := u.grants
          store := { s.store with queue := u.store.queue } } true
        (fun _ e => s.grants.toList.any fun g => g.any fun g => decide (g.slot = e.slot) && gone g)
      ∧ u.seats[(0 : Fin 6)].entries = [⟨1, .denied .ratingLevel⟩] :=
  ⟨⟨rfl, rfl⟩, rfl, rfl, by decide +kernel, quiet_of (by decide +kernel), by decide +kernel⟩

/-- A boundary at which a child in time is judged: no request is asked for. -/
theorem witness_O33 : let s := duty (watching kid (.clear .allPass))
    s.Awake ∧ s.due.expiry.isSome = true ∧ s.due.minute = true ∧ s.due.rollover = [] ∧ ready.due.minute = false
      ∧ ready.due.rollover = [] ∧ s.requests = []
      ∧ ∀ (j : Fin 6) (p : Programme), s.seats[j].programme = some p → ∀ e ∈ s.seats[j].entries, ∀ r,
        s.rules? e.slot = some r →
          (s.evaluate e.slot r p s.seats[j].guardianPresent e.state.windEnd?).asks = false := by
  refine ⟨⟨rfl, rfl⟩, rfl, rfl, rfl, rfl, rfl, rfl, fun j p hp e he r hr => ?_⟩
  have h : ∀ j : Fin 6, ∀ p ∈ (duty (watching kid (.clear .allPass))).seats[j].programme,
      ∀ e ∈ (duty (watching kid (.clear .allPass))).seats[j].entries,
      ∀ r ∈ (duty (watching kid (.clear .allPass))).rules? e.slot,
      ((duty (watching kid (.clear .allPass))).evaluate e.slot r p
        (duty (watching kid (.clear .allPass))).seats[j].guardianPresent e.state.windEnd?).asks = false := by
    decide +kernel
  exact h j p hp e he r hr

/-- A child whose time is spent asks for a request, and has one already or not. -/
theorem witness_O33_asks :
    let s := watching drawer (.clear .allPass)
    let spent := { s with meters := s.meters.set 1 ⟨360000, 0, 0, 0, false⟩ }
    let r := { Rules.newChild with ceiling := 12, tier := some 1, drawsPerDay := 2 }
    spent.rules? 1 = some r ∧ (spent.evaluate 1 r film false none).asks = true ∧ spent.hasRequest 1 = false
      ∧ ({ spent with requests := [⟨1, 1, 4990⟩] } : State).hasRequest 1 = true := by decide +kernel

theorem witness_O34 : let s := opened (home kid)
    (handed (.pool (.fields ())) s).Handed (.pool (.fields ()))
      ∧ (∀ b, (handed (.gread (.fields b)) s).Handed (.gread (.fields b)))
      ∧ (handed (.hread (.fields ())) s).Handed (.hread (.fields ()))
      ∧ (handed (.store (.fields ())) s).Handed (.store (.fields ()))
      ∧ 15 < (16 : Byte).toNat ∧ (16 : Byte) ≠ 0xFF ∧ (15 : Byte).toNat ≤ 15 :=
  ⟨handed_is _ ⟨rfl, rfl⟩, fun _ => handed_is _ ⟨rfl, rfl⟩, handed_is _ ⟨rfl, rfl⟩, handed_is _ ⟨rfl, rfl⟩,
    by decide⟩

/-- Days up to the meter day and one past it; the last second, weekday 6, and one past each. -/
theorem witness_O35 :
    let i : ClksetArgs → Instr := fun a => .clkset (.fields a)
    (∀ a, (handed (i a) (home kid)).Handed (i a)) ∧ 86399 < (86400 : Word).toNat ∧ 6 < (7 : Byte).toNat
      ∧ (86399 : Word).toNat ≤ 86399 ∧ (6 : Byte).toNat = (6 : Fin 7).val
      ∧ (home kid).clock.meterDay < (101 : Half).toNat ∧ ¬ (home kid).clock.meterDay < (100 : Half).toNat :=
  ⟨fun _ => handed_is _ ⟨rfl, rfl⟩, by decide +kernel⟩

/-- A **clkset** on the same day, with no grant to reach, while a child watches. -/
theorem witness_O35_judged :
    let s := watching kid (.clear .allPass)
    let t := ran (.clkset (.fields ⟨100, 39600, 2⟩)) (handed (.clkset (.fields ⟨100, 39600, 2⟩)) s)
    (decide (s.clock.meterDay < (100 : Half).toNat)) = false ∧ (∀ e : Fin 16, s.grants[e] = none)
      ∧ Quiet { s with clock := t.clock } true fun _ _ => true :=
  ⟨by decide +kernel, by decide +kernel, quiet_of (by decide +kernel)⟩

/-- Midnights that roll nothing over: the meter day is ahead, or the day index is at its largest. -/
theorem witness_O37 :
    let s := { home kid with clock := ⟨5000, true, 100, 86399, 2, 101, 3⟩, interval := 299
                             authority := ⟨some 1, 0, some 2⟩ }
    let last := { home kid with clock := ⟨4294967295, true, 65535, 86399, 2, 65535, 3⟩, interval := 298
                                authority := ⟨some 2, 0, some 1⟩ }
    s.Awake ∧ s.due = Due.none ∧ s.clock.day + 1 ≤ s.clock.meterDay ∧ last.Awake ∧ last.due = Due.none
      ∧ ¬ last.clock.day < 65535 ∧ ready.Awake ∧ ready.due = Due.none ∧ ready.clock.isSet = false
      ∧ (home kid).due = Due.none ∧ (home kid).clock.second < 86399 := by
  refine ⟨⟨rfl, rfl⟩, rfl, ?_, ⟨rfl, rfl⟩, rfl, ?_, ⟨rfl, rfl⟩, rfl, rfl, rfl, ?_⟩ <;> decide

theorem witness_O38 :
    let s := { home kid with
      clock := ⟨5000, true, 65534, 86399, 6, 65534, 6⟩
      grants := (Vector.replicate 16 none).set 3 (some (Grant.mk 1 (.windowWaiver ⟨65535, 1⟩))) }
    s.Awake ∧ s.due = Due.none ∧ s.clock.isSet = true ∧ s.clock.second = 86399 ∧ s.clock.day < 65535
      ∧ s.clock.meterDay ≤ s.clock.day ∧ s.requests = []
      ∧ (∀ j : Fin 6, s.seats[j].programme = none ∨ s.seats[j].entries = [])
      ∧ ∀ i : Fin 16, ∀ g ∈ s.grants[i], g.body.isExtra = false
        ∧ ∀ e ∈ g.body.expiry?, s.clock.day + 1 < e.day ∨ (s.clock.day + 1 = e.day ∧ 0 < e.minute) :=
  ⟨⟨rfl, rfl⟩, rfl, rfl, rfl, by decide, by decide, rfl, by decide +kernel, by decide +kernel⟩

/-- A midnight at which a child watches, and parts that are outstanding, one of them or all. -/
theorem witness_O38_watched :
    let s := { watching kid (.clear .allPass) with clock := ⟨5000, true, 100, 86399, 2, 100, 2⟩ }
    let one := { s with due := { s.due with rollover := [.grants] } }
    let all := { duty s with due := { (duty s).due with rollover := rolloverParts } }
    s.Awake ∧ s.due = Due.none ∧ s.clock.isSet = true ∧ s.clock.second = 86399 ∧ s.clock.day < 65535
      ∧ s.clock.meterDay ≤ s.clock.day ∧ s.quiet = false ∧ one.Awake ∧ one.due.rollover ≠ [] ∧ all.Awake
      ∧ all.due.rollover ≠ [] ∧ (home kid).clock.second ≠ 86399 :=
  ⟨⟨rfl, rfl⟩, rfl, rfl, rfl, by decide, by decide, by decide +kernel, ⟨rfl, rfl⟩, by decide +kernel, ⟨rfl, rfl⟩,
    by decide +kernel, by decide⟩

/-- Digit counts 3, 4, 8 and 9; the PIN given, with or without a window or a lockout. -/
theorem witness_O39 :
    let s := fun a => { ready with settings := { ready.settings with pin := some [1, 2, 3, 4] }, authority := a }
    let i : Byte → Instr := fun n => .pin (.fields ⟨n, [1, 2, 3, 4, 5, 6, 7, 9]⟩)
    (∀ a n, (handed (i n) (s a)).Handed (i n)) ∧ (3 : Byte).toNat < 4 ∧ 8 < (9 : Byte).toNat
      ∧ (8 : Byte).toNat ≤ 8 ∧ 4 ≤ (4 : Byte).toNat
      ∧ (∀ d ∈ ([1, 2, 3, 4, 5, 6, 7, 9] : List Byte).map (·.toNat), d ≤ 9)
      ∧ (s ⟨none, 255, some 1⟩).authority.lockout = some 1 ∧ (s ⟨some 60, 0, none⟩).authority.lockout = none
      ∧ (s ⟨none, 2, none⟩).authority.window = none
      ∧ (s ⟨none, 2, none⟩).settings.pin = some (([1, 2, 3, 4] : List Byte).map (·.toNat))
      ∧ (s ⟨none, 2, none⟩).settings.pin ≠ some (([1, 2, 3, 4, 5, 6, 7, 9] : List Byte).map (·.toNat)) :=
  ⟨fun _ _ => handed_is _ ⟨rfl, rfl⟩, by decide⟩

theorem witness_O40 :
    let i : Byte → Instr := fun n => .repin (.fields ⟨n, [1, 2, 3, 4, 5, 6, 7, 9]⟩)
    (∀ n, (handed (i n) (opened ready)).Handed (i n)) ∧ (opened ready).authority.window.isSome = true
      ∧ ([1, 2, 3, 4, 5, 6, 7, 9] : List Byte).length = 8 ∧ 4 ≤ (4 : Byte).toNat ∧ (8 : Byte).toNat ≤ 8
      ∧ (3 : Byte) ≠ 0 ∧ (3 : Byte).toNat < 4
      ∧ (handed (.close (.fields ())) ready).Handed (.close (.fields ())) ∧ ready.authority.window = none
      ∧ (handed (.close (.fields ())) (opened ready)).Handed (.close (.fields ())) :=
  ⟨fun _ => handed_is _ ⟨rfl, rfl⟩, rfl, rfl, by decide, by decide, by decide, by decide,
    handed_is _ ⟨rfl, rfl⟩, rfl, handed_is _ ⟨rfl, rfl⟩⟩

/-- Mask bits 4 and 0..3, orders that are and are not complete, pool day sizes 600 and 601. -/
theorem witness_O41 :
    (∀ a, (handed (.hset (.fields a)) (opened ready)).Handed (.hset (.fields a)))
      ∧ (opened ready).authority.window.isSome = true
      ∧ (0x10 : Byte) &&& 0xF0 ≠ 0 ∧ (0x0F : Byte) &&& 0xF0 = 0
      ∧ groupOrder? 0x03020100 = some [.time, .window, .rating, .grant] ∧ groupOrder? 0x03020101 = none
      ∧ tierOrder? 0x00010203 = some [0, 1, 2, 3] ∧ tierOrder? 0x00010204 = none
      ∧ ¬ 600 < (600 : Half).toNat ∧ 600 < (601 : Half).toNat :=
  ⟨fun _ => handed_is _ ⟨rfl, rfl⟩, rfl, by decide +kernel⟩

/-- An **hset** that changes the group order while a child watches, and one that changes the tier order alone. -/
theorem witness_O41_orders :
    let s := opened (watching kid (.clear .allPass))
    let t := fun m : Byte => ran (.hset (.fields ⟨m, 0x03020100, 0x00010203, 0, 0⟩))
      (handed (.hset (.fields ⟨m, 0x03020100, 0x00010203, 0, 0⟩)) s)
    (t 1).settings.groupOrder ≠ s.settings.groupOrder
      ∧ Quiet { s with settings := (t 1).settings } true (fun _ _ => true)
      ∧ (t 2).settings.groupOrder = s.settings.groupOrder ∧ (t 2).settings ≠ s.settings
      ∧ (t 0).settings = s.settings :=
  ⟨by decide +kernel, quiet_of (by decide +kernel), by decide +kernel, by decide +kernel, by decide +kernel⟩

theorem witness_O42 : (duty (opened ready)).Awake ∧ (duty (opened ready)).due.window = true
    ∧ (duty (opened ready)).authority.window.isSome = true ∧ (duty ready).due.lockout = true
    ∧ ready.Awake ∧ ready.due.window = false ∧ ready.due.lockout = false :=
  ⟨⟨rfl, rfl⟩, rfl, rfl, rfl, ⟨rfl, rfl⟩, rfl, rfl⟩

/-- A suspended write, with an urgent head, a plain one and none behind it. -/
theorem witness_O43 :
    let w : WriteRecord := ⟨23, .program, 1, ⟨.grants (Vector.replicate 16 none), 0x1D0F⟩, .erased⟩
    let s := fun q x => { ready with store := { ready.store with queue := q, suspended := x } }
    (∀ q x, (s q x).Awake) ∧ (∀ q x, (s q x).store.running = none) ∧ (∀ q x, (s q x).link.state ≠ .loading)
      ∧ (s [⟨24, true⟩] (some ⟨w, false⟩)).store.queue = [⟨24, true⟩]
      ∧ (s [⟨3, false⟩] none).store.suspended = none
      ∧ (∀ item rest, (s [⟨3, false⟩] (some ⟨w, true⟩)).store.queue = item :: rest → item.urgent = false)
      ∧ loading.link.state = .loading ∧ (writing .erase 1).store.running.isSome = true :=
  ⟨fun _ _ => ⟨rfl, rfl⟩, fun _ _ => rfl, fun _ _ => nofun, rfl, rfl,
    fun item rest h => by cases h; rfl, rfl, rfl⟩

theorem witness_O44 : (∀ p n, (writing p n).Awake)
    ∧ (∀ p n, (writing p n).store.running
      = some ⟨23, p, n, ⟨.grants (Vector.replicate 16 none), 0x1D0F⟩, .erased⟩)
    ∧ (writing .verify 1).store.queue = [] ∧ (writing .verify 1).store.suspended = none
    ∧ (ran (.verifyComplete false false) (writing .verify 2)).store.running = none :=
  ⟨fun _ _ => ⟨rfl, rfl⟩, fun _ _ => rfl, rfl, rfl, by decide +kernel⟩

/-- Block 23 is being written, block 0 waits, and blocks 0, 3 and 24 are FAILED. -/
theorem witness_O45 :
    let w := writing .verify 2
    let s := { w with store := { w.store with
      status := ((w.store.status.set 24 .failed).set 3 .failed).set 0 .failed, queue := [⟨0, false⟩] } }
    (handed (.retry (.fields ())) s).Handed (.retry (.fields ())) ∧ s.store.status[(24 : BlockId)] = .failed
      ∧ s.queued 0 = true ∧ s.queued 24 = false
      ∧ (ran (.retry (.fields ())) s).store.queue = [⟨0, false⟩, ⟨3, false⟩, ⟨24, false⟩] :=
  ⟨handed_is _ ⟨rfl, rfl⟩, by decide +kernel⟩

theorem witness_O46 :
    let meter : WriteRecord := ⟨24, .program, 1, ⟨.grants (Vector.replicate 16 none), 0x1D0F⟩, .erased⟩
    ready.Awake ∧ ready.supply.low = false ∧ ready.store.running = none ∧ ready.link.state ≠ .loading
      ∧ loading.link.state = .loading ∧ loading.store.running = none
      ∧ (writing .program 1).store.running
        = some ⟨23, .program, 1, ⟨.grants (Vector.replicate 16 none), 0x1D0F⟩, .erased⟩
      ∧ (23 : BlockId) ≠ meterBlock ∧ meter.block = meterBlock
      ∧ ({ ready with supply := ⟨0, true, false, false⟩ } : State).Awake :=
  ⟨⟨rfl, rfl⟩, rfl, rfl, nofun, rfl, rfl, rfl, by decide, rfl, ⟨rfl, rfl⟩⟩

theorem witness_O47 : ready.Awake ∧ (ran .dipBegin ready).supply = ⟨0, false, true, false⟩
    ∧ (ran .dipBegin ready).deferred = [] ∧ (ran .dipBegin ready).store.running = none
    ∧ (ran .secondEvent (ran .dipBegin ready)).deferred = [.secondEvent]
    ∧ (ran .dipBegin (writing .verify 2)).store.running.isSome = true ∧ 399 < 400 ∧ 400 ≤ 400
    ∧ Instr.secondEvent.Deferrable
    ∧ (ran .supplyClear (ran .secondEvent (ran .dipBegin (writing .verify 2)))).dipWork
      = [.event .secondEvent, .event .supplyClear, .restartWrite] :=
  ⟨⟨rfl, rfl⟩, by decide +kernel, by decide +kernel, by decide +kernel, by decide +kernel, by decide +kernel,
    by decide, by decide, ⟨nofun, fun _ => nofun, fun _ _ _ => nofun, fun _ _ => nofun⟩, by decide +kernel⟩

/-- The three causes at their limits. -/
theorem witness_O48 : causeBegins (.resetnLow 10) = true ∧ causeBegins (.resetnLow 9) = false
    ∧ causeBegins (.dip 400) = true ∧ causeBegins (.dip 399) = false ∧ causeBegins .powerOn = true := by decide

theorem witness_O49 :
    let first := ran (.startUpLoad true 3300) State.reset
    State.reset.supply.held = true ∧ 3000 + 100 * State.reset.supply.straps.toNat < 3001 ∧ first.Awake
      ∧ first.load = some 0 ∧ ready.Awake ∧ ready.load = none
      ∧ first.store.blocks[householdBlock] = ⟨false, .erased⟩ ∧ Settings.factory.valid = true
      ∧ loading.Awake ∧ loading.load = some 24 ∧ ({ loading with load := some 23 } : State).load = some 23 :=
  ⟨rfl, by decide, ⟨rfl, rfl⟩, rfl, ⟨rfl, rfl⟩, rfl, by decide +kernel, by decide +kernel, ⟨rfl, rfl⟩, rfl, rfl⟩

/-- A load at the count given whose block `b` holds `c`. -/
def loadingBlock (n : Nat) (b : BlockId) (c : Block) : State := { home kid with
  link := ⟨.loading, none, .clear, []⟩, load := some n
  store := { Store.factory with blocks := Store.factory.blocks.set b c } }

/-- Every block read as never written, as failing its CRC-16, and as contents that pass. -/
theorem witness_O49_reads (n : Nat) (b : BlockId) (d : BlockData) :
    (loadingBlock n b ⟨false, .erased⟩).Awake ∧ (loadingBlock n b ⟨false, .erased⟩).load = some n
      ∧ (loadingBlock n b ⟨false, .erased⟩).Reads b .blank
      ∧ (loadingBlock n b ⟨true, .erased⟩).Reads b .failed
      ∧ (loadingBlock n b ⟨true, .image d.image⟩).Reads b (.passed d) := by
  have at_b : ∀ c, (loadingBlock n b c).store.blocks[b] = c := fun c => Vector.getElem_set_self ..
  refine ⟨⟨rfl, rfl⟩, rfl, ?_, ?_, ?_⟩
  · simp only [State.Reads, at_b]
  · simp only [State.Reads, at_b]; exact .inr (.inr (.inl trivial))
  · simp only [State.Reads, at_b]; exact .inl rfl

/-- Each owner's three rows: no block written, contents it finds valid, and contents of another owner. -/
theorem witness_O49_gives :
    HouseholdGives .blank Settings.factory .blank
      ∧ HouseholdGives (.passed (.household Settings.factory.image)) Settings.factory .ok
      ∧ HouseholdGives .failed Settings.factory .damaged
      ∧ SchemeGives (.passed (.scheme ⟨1, true, 7, 1, [31]⟩)) ⟨true, some ⟨7, [31]⟩⟩ .ok
      ∧ SchemeGives (.passed (.scheme ⟨0, false, 0, 0, []⟩)) SchemeSlot.empty .ok
      ∧ SchemeGives (.passed (.scheme ⟨0, true, 0, 0, []⟩)) SchemeSlot.empty .damaged
      ∧ ProfileGives 0 .blank (.live Profile.factoryGuest) .blank ∧ ProfileGives 15 .blank .free .blank
      ∧ ProfileGives 15 (.passed (.profile (Slot.live adult).image)) (.live adult) .ok
      ∧ ProfileGives 15 (.passed (.profile Slot.free.image)) .free .ok
      ∧ ProfileGives 0 (.passed (.profile Slot.free.image)) (.live Profile.factoryGuest) .damaged
      ∧ MeterGives (.passed (.meter ready.meterImage)) (some ready.meterImage) .ok
      ∧ MeterGives .failed none .damaged
      ∧ GrantGives .blank (Vector.replicate 16 none) .blank
      ∧ GrantGives .failed (Vector.replicate 16 none) .damaged := by
  refine ⟨.inl ⟨rfl, rfl, rfl⟩, .inr (.inl ⟨rfl, by decide +kernel, rfl⟩), .inr (.inr ⟨.inl rfl, rfl, rfl⟩),
    .inr (.inr (.inl ⟨_, rfl, by decide +kernel, rfl, rfl⟩)), .inr (.inl ⟨_, rfl, by decide +kernel, rfl, rfl⟩),
    .inr (.inr (.inr ⟨.inr ⟨_, rfl, ?_⟩, rfl, rfl⟩)), .inl ⟨rfl, rfl, rfl⟩, .inl ⟨rfl, rfl, rfl⟩,
    .inr (.inl ⟨_, adult, rfl, by decide +kernel, rfl, rfl⟩),
    .inr (.inr (.inl ⟨_, rfl, by decide +kernel, by decide, rfl, rfl⟩)),
    .inr (.inr (.inr ⟨.inr ⟨_, rfl, ?_⟩, rfl, rfl⟩)),
    .inr (.inl ⟨_, rfl, by decide +kernel, rfl, rfl⟩), .inr (.inr ⟨.inl rfl, rfl, rfl⟩), .inl ⟨rfl, rfl, rfl⟩,
    .inr (.inr ⟨.inl rfl, rfl, rfl⟩)⟩
  · rintro i ⟨⟩; decide
  · rintro i ⟨⟩; exact ⟨fun _ => rfl, fun p h => absurd h.1 (by decide)⟩

/-- A LIVE slot 1 whose token slot 2 shares: the token law makes slot 2 DAMAGED, and not slot 3 (R40). -/
theorem test_token_law :
    let kid' : Profile := .child ⟨7, some 0x22, some 0x11⟩ Rules.newChild
    let s := { ready with slots := ((ready.slots.set 1 (.live kid)).set 2 (.live kid')).set 3 (.live adult) }
    s.tokenLaw.slots[2] = .damaged ∧ s.tokenLaw.slots[1] = .live kid ∧ s.tokenLaw.slots[3] = .live adult
      ∧ s.tokenLaw.store.status[2] = .damaged := by decide +kernel

/-- A child watches, the window is OPEN with a buffer, and a command waits: every law holds, and the step answers
a next state. -/
def lawful : State := { opened (watching kid (.clear .allPass)) with
  edit := some ⟨3, true, adult⟩, pending := [.leave (.fields ⟨0, 1, 1⟩)] }

theorem witness_O50 : lawful.PinsFollow ∧ step lawful = .next (ran (.leave (.fields ⟨0, 1, 1⟩))
    { lawful with pending := [] }) := ⟨by unfold State.PinsFollow; decide +kernel, rfl⟩

theorem witness_O51_O56 : lawful.PoolLaw ∧ lawful.SeatLaw ∧ lawful.QueueLaw ∧ lawful.GuardianLaw
    ∧ lawful.LinkLaw ∧ lawful.ClockLaw := by
  refine ⟨⟨by decide +kernel, by decide +kernel⟩, ?_, ⟨by decide +kernel, by decide +kernel⟩, ?_,
    ⟨rfl, nofun⟩, ?_⟩
  · unfold State.SeatLaw; decide +kernel
  · exact ⟨by decide +kernel, fun _ => rfl, fun _ => rfl, nofun, by decide +kernel, by decide +kernel,
      by decide +kernel⟩
  · unfold State.ClockLaw; decide +kernel

/-- Each row of R46's table comes first for some entries: no entry, no programme, DENIED behind the rest, WINDING,
WAITING, LOW and none of them. -/
theorem witness_O52_rows :
    seatStateOf [] (some film) = .vacant ∧ seatStateOf [⟨1, .idle⟩] none = .browsing
      ∧ seatStateOf [⟨1, .winding .allPass 9⟩, ⟨0, .denied .time⟩] (some film) = .blocked
      ∧ seatStateOf [⟨1, .waiting .allPass⟩, ⟨0, .winding .allPass 9⟩] (some film) = .windDown
      ∧ seatStateOf [⟨1, .low .allPass⟩, ⟨0, .waiting .allPass⟩] (some film) = .poolWait
      ∧ seatStateOf [⟨2, .exempt⟩, ⟨0, .low .allPass⟩] (some film) = .warned
      ∧ seatStateOf [⟨2, .exempt⟩, ⟨0, .clear .allPass⟩] (some film) = .permitted := by decide

theorem witness_O57 :
    let s := { lawful with grants := (lawful.grants.set 0 (some ⟨1, .extraTime 5 100⟩)).set 1
                                       (some ⟨1, .windowWaiver ⟨101, 0⟩⟩) }
    s.ClockLaw ∧ s.GrantLaw ∧ s.ExtraLaw ∧ s.FactorySchemes := by
  refine ⟨?_, ⟨?_, ?_⟩, ⟨?_, ?_⟩, ?_⟩
  · unfold State.ClockLaw; decide +kernel
  · decide +kernel
  · decide +kernel
  · intro e k m d h
    have only : ∀ e : Fin 16, ∀ g ∈ ((lawful.grants.set 0 (some ⟨1, .extraTime 5 100⟩)).set 1
        (some ⟨1, .windowWaiver ⟨101, 0⟩⟩))[e], g.body.isPastExtra 100 = false := by decide +kernel
    exact .inl (of_decide_eq_false (only e _ h) |> Decidable.not_not.mp)
  · rintro (h | h) <;> exact absurd h (by decide +kernel)
  · unfold State.FactorySchemes; decide +kernel

theorem witness_O59 : ({ lawful with store := { lawful.store with
      blocks := lawful.store.blocks.set 22 ⟨true, .erased⟩ } } : State).store.blocks[householdBlock].written = true
    ∧ (commandCode (.leave (.fields ⟨0, 1, 1⟩))).isSome = true := by decide +kernel

theorem witness_O60 : (home kid).GuardianLaw ∧ (home kid).authority.window = none
    ∧ (commandCode (.clkset (.fields ⟨101, 0, 3⟩))).isSome = true
    ∧ exec (.clkset (.fields ⟨101, 0, 3⟩)) (home kid) = .next (ran (.clkset (.fields ⟨101, 0, 3⟩)) (home kid)) :=
  ⟨⟨by decide +kernel, nofun, nofun, fun _ => rfl, by decide +kernel, nofun, nofun⟩, rfl, rfl, rfl⟩

end Sys2Proof.Tests
end

section
/-! SUPPORT. A command that the link port handed over is answered with its owner's reply, and what operand bytes name. -/

namespace Sys2Proof.Machine

/-- The step of a command that the link port handed over, from what its owner answers (R199). -/
theorem exec_of_owner {s t : State} {i : Instr} {owner : State → State × Reply} {status : Status}
    {payload : List Byte} (h : s.Handed i) (arm : exec i s = .next (s.taken i (State.command i owner)))
    (answers : owner s = (t, ⟨status, payload⟩)) : exec i s = .next (t.replied i status payload) := by
  rw [arm, taken_command h, answers]

theorem inRange_of_eq {n : Nat} {b : Byte} {k : Fin n} (h : b.toNat = k.val) : inRange n b = some k := by
  simp [inRange, h]

theorem inRange_of_le {n : Nat} {b : Byte} (h : n ≤ b.toNat) : inRange n b = none := by
  simp [inRange, h]

theorem operatorSlot?_of_eq {b : Byte} {k : Fin 8} (h : b.toNat = k.val) (h2 : 2 ≤ k.val) :
    operatorSlot? b = some k := by
  simp [operatorSlot?, inRange_of_eq h, Option.filter, h2]

/-- The slots 0 and 1 and those above 7 are not the operator's (R6, R8, R9). -/
theorem operatorSlot?_eq_none {b : Byte} (h : b.toNat < 2 ∨ 7 < b.toNat) : operatorSlot? b = none := by
  unfold operatorSlot? inRange
  split
  · simp only [Option.filter, decide_eq_true_eq]; exact if_neg (by omega)
  · rfl

end Sys2Proof.Machine
end

section
/-! PROOFS. The scheme table's commands past the check of the slot (R6, R8, R9), and O13. -/

namespace Sys2Proof.Machine

section
variable {s : State} {k : Fin 8} (h2 : 2 ≤ k.val)
include h2

theorem sload_of_slot {a : SloadArgs} (hk : a.slot.toNat = k.val) : sload (.fields a) s =
    if s.schemes[k].locked then (s, refuse .locked)
    else if a.n.toNat ≠ a.levels.length || !(Scheme.mk a.tag (a.levels.map (·.toNat))).valid then
      (s, refuse .badArgument)
    else (s.changeScheme k ⟨false, some ⟨a.tag, a.levels.map (·.toNat)⟩⟩, ok (be1 k.val ++ be1 (s.seatsNaming k))) := by
  simp only [sload, withFields_fields, operatorSlot?_of_eq hk h2, List.length_map]

theorem sclr_of_slot {b : Byte} (hk : b.toNat = k.val) : sclr (.fields b) s =
    if s.schemes[k].locked then (s, refuse .locked)
    else if s.schemes[k].scheme.isNone then (s, ok (be1 k.val ++ be1 0))
    else (s.changeScheme k SchemeSlot.empty, ok (be1 k.val ++ be1 (s.seatsNaming k))) := by
  simp only [sclr, withFields_fields, operatorSlot?_of_eq hk h2]

theorem slock_of_slot {b : Byte} (hk : b.toNat = k.val) : slock (.fields b) s =
    if s.schemes[k].scheme.isNone then (s, refuse .state)
    else if s.schemes[k].locked then (s, ok [])
    else (State.commit { s with schemes := s.schemes.set k { s.schemes[k] with locked := true } } (schemeBlock k),
      ok []) := by
  simp only [slock, withFields_fields, operatorSlot?_of_eq hk h2]

end

/-- What R6 asks of n and the map levels is what the ranges of R1 and the count of the levels say. -/
theorem sload_fits_iff (a : SloadArgs) :
    (a.n.toNat ≠ a.levels.length || !(Scheme.mk a.tag (a.levels.map (·.toNat))).valid) = false ↔
      a.n.toNat = a.levels.length ∧ 1 ≤ a.levels.length ∧ a.levels.length ≤ 32 ∧ ∀ l ∈ a.levels, l.toNat ≤ 31 := by
  simp [Scheme.valid, and_assoc]

/-- Settles O13: past the check of the slot the lock is looked at first, but by **slock** after the contents. -/
theorem lockedSlotsStand : Obligations.LockedSlotsStand := by
  unfold Obligations.LockedSlotsStand
  refine ⟨fun s b k h h2 hk => ⟨fun loaded free => ?_, fun loaded locked => ?_, fun empty => ?_⟩,
    fun s b a i hi h out => ?_, fun s b a i k hi h h2 hk locked => ?_⟩
  · have loaded' : s.schemes[k].scheme.isNone = false := by simpa using loaded
    exact exec_of_owner h rfl (by rw [slock_of_slot h2 hk, loaded', free]; rfl)
  · have loaded' : s.schemes[k].scheme.isNone = false := by simpa using loaded
    exact exec_of_owner h rfl (by rw [slock_of_slot h2 hk, loaded', locked]; rfl)
  · exact exec_of_owner h rfl (by rw [slock_of_slot h2 hk, empty]; rfl)
  · have none_named := operatorSlot?_eq_none out
    rcases hi with rfl | rfl | ⟨rfl, rfl⟩
    · exact exec_of_owner h rfl (by simp only [sclr, withFields_fields, none_named]; rfl)
    · exact exec_of_owner h rfl (by simp only [slock, withFields_fields, none_named]; rfl)
    · exact exec_of_owner h rfl (by simp only [sload, withFields_fields, none_named]; rfl)
  · rcases hi with rfl | ⟨rfl, rfl⟩
    · exact exec_of_owner h rfl (by rw [sclr_of_slot h2 hk, locked]; rfl)
    · exact exec_of_owner h rfl (by rw [sload_of_slot h2 hk, locked]; rfl)

end Sys2Proof.Machine
end

section
/-! PROOFS. Tokens (R21) and the commands that answer from the working copy, and O19. -/

namespace Sys2Proof.Machine

/-! ## Token resolution -/

theorem find?_finRange_of_unique {n : Nat} {p : Fin n → Bool} {k : Fin n} (hk : p k = true)
    (only : ∀ j, p j = true → j = k) : (List.finRange n).find? p = some k := by
  cases h : (List.finRange n).find? p with
  | none => exact absurd hk (List.find?_eq_none.mp h k (List.mem_finRange k))
  | some j => rw [only j (List.find?_some h)]

theorem hasPrimary_iff (s : State) (t : Word) (k : Fin 16) : s.hasPrimary t k = true ↔
    k ≠ 0 ∧ ∃ p, s.profile? k = some p ∧ p.who.primary = some t := by
  simp [State.hasPrimary, Option.any_eq_true]

theorem hasSecondary_iff (s : State) (t : Word) (k : Fin 16) : s.hasSecondary t k = true ↔
    ∃ p, s.profile? k = some p ∧ p.who.secondary = some t := by
  simp [State.hasSecondary, Option.any_eq_true]

theorem resolve_zero (s : State) : s.resolve 0 = (0, .anonymous) := rfl

section
variable {s : State} {t : Word} (ht : t ≠ 0)
include ht

theorem resolve_primary {k : Fin 16} (hk : s.hasPrimary t k = true) (only : ∀ j, s.hasPrimary t j = true → j = k) :
    s.resolve t = (k, .primary) := by
  simp only [State.resolve, if_neg ht, find?_finRange_of_unique hk only]

theorem resolve_secondary (none_primary : ∀ k, ¬ s.hasPrimary t k = true) {k : Fin 16}
    (hk : s.hasSecondary t k = true) (only : ∀ j, s.hasSecondary t j = true → j = k) :
    s.resolve t = (k, .secondary) := by
  simp only [State.resolve, if_neg ht, List.find?_eq_none.mpr fun k _ => none_primary k,
    find?_finRange_of_unique hk only]

theorem resolve_unknown (none_primary : ∀ k, ¬ s.hasPrimary t k = true)
    (none_secondary : ∀ k, ¬ s.hasSecondary t k = true) : s.resolve t = (0, .unknown) := by
  simp only [State.resolve, if_neg ht, List.find?_eq_none.mpr fun k _ => none_primary k,
    List.find?_eq_none.mpr fun k _ => none_secondary k]

end

/-! ## The reads -/

theorem sread_of_slot {s : State} {b : Byte} {k : Fin 8} (hk : b.toNat = k.val) :
    sread (.fields b) s = (s, ok (schemePayload s.schemes[k])) := by
  simp only [sread, withFields_fields, inRange_of_eq hk]

theorem pread_of_slot {s : State} {b : Byte} {k : Fin 16} (hk : b.toNat = k.val) : pread (.fields b) s =
    (s, ok (be1 s.slots[k].code ++ flagByte (s.edit.any (·.slot = k))
      ++ ((s.profile? k).map profilePayload).getD [])) := by
  simp only [pread, withFields_fields, inRange_of_eq hk]

theorem lookup_of_profile {s : State} {t : Word} {p : Profile} (hp : s.profile? (s.resolve t).1 = some p) :
    lookup (.fields t) s = (s, ok (be1 (s.resolve t).1.val ++ be1 (s.resolve t).2.code ++ be1 p.kind.code
      ++ be2 p.who.label)) := by
  simp [lookup, State.kind?, hp]

/-- Settles O19: each read answers what the slot's decoding finds, and a token is looked for among the primary
tokens before the secondary ones. -/
theorem tableReadsAnswer : Obligations.TableReadsAnswer := by
  unfold Obligations.TableReadsAnswer
  refine ⟨fun s b h => ⟨fun out => ?_, fun k hk => ⟨fun empty => ?_, fun c loaded => ?_⟩⟩,
    fun s b h => ⟨fun out => ?_, fun k hk => ?_⟩, fun s t p h hp => ?_, fun s t => ⟨?_, ?_, ?_⟩⟩
  · exact exec_of_owner h rfl (by simp only [sread, withFields_fields, inRange_of_le out]; rfl)
  · exact exec_of_owner h rfl (by rw [sread_of_slot hk, schemePayload, empty]; rfl)
  · exact exec_of_owner h rfl (by rw [sread_of_slot hk, schemePayload, loaded]; rfl)
  · exact exec_of_owner h rfl (by simp only [pread, withFields_fields, inRange_of_le out]; rfl)
  · rw [exec_of_owner h rfl (pread_of_slot hk)]
    cases s.profile? k <;> rfl
  · exact exec_of_owner h rfl (lookup_of_profile hp)
  · rintro rfl; exact resolve_zero s
  · intro ht k hk only
    simp only [← hasPrimary_iff] at hk only
    exact resolve_primary ht hk only
  · intro ht none_primary
    simp only [← hasPrimary_iff, ← hasSecondary_iff] at none_primary ⊢
    exact ⟨fun k hk only => resolve_secondary ht none_primary hk only, resolve_unknown ht none_primary⟩

end Sys2Proof.Machine
end

section
/-! SUPPORT. What every evaluation, wait and draw leaves of the seats: the profiles in their join order, the
programmes, and the guardians in EXEMPT (R42, R66). -/

namespace Sys2Proof.Machine

/-- An entry after an event that seats nobody: the same profile, still EXEMPT where it is a guardian's. -/
def EntryKept (s : State) (e e' : Entry) : Prop :=
  e'.slot = e.slot ∧ (s.kind? e.slot = some .guardian → e.state = .exempt → e'.state = .exempt)

theorem EntryKept.refl (s : State) (e : Entry) : EntryKept s e e := ⟨rfl, fun _ h => h⟩

/-- A seat after an event that seats nobody and plays nothing. -/
def SeatKept (s : State) (seat seat' : Seat) : Prop :=
  seat'.programme = seat.programme ∧ List.Forall₂ (EntryKept s) seat.entries seat'.entries

/-- Every seat holds the profiles and the programme that it held, and the profiles are the same. -/
def SeatsKept (s t : State) : Prop := t.slots = s.slots ∧ ∀ j : Fin 6, SeatKept s s.seats[j] t.seats[j]

theorem SeatKept.refl (s : State) (seat : Seat) : SeatKept s seat seat :=
  ⟨rfl, List.forall₂_same.mpr fun e _ => .refl s e⟩

/-- Work on seats, waits and draws installs no profile. -/
theorem SeatWork.slots {s t : State} (h : SeatWork s t) : t.slots = s.slots := by rw [h]

theorem SeatsKept.of_eq {s t : State} (slots : t.slots = s.slots) (seats : t.seats = s.seats) : SeatsKept s t :=
  ⟨slots, fun j => by rw [seats]; exact .refl s _⟩

theorem SeatsKept.refl (s : State) : SeatsKept s s := .of_eq rfl rfl

theorem kind_of_slots {s t : State} (h : t.slots = s.slots) (k : Fin 16) : t.kind? k = s.kind? k := by
  unfold State.kind? State.profile?; rw [h]

theorem SeatsKept.trans {s t u : State} (h : SeatsKept s t) (h' : SeatsKept t u) : SeatsKept s u := by
  obtain ⟨slots, seats⟩ := h
  obtain ⟨slots', seats'⟩ := h'
  refine ⟨slots'.trans slots, fun j => ⟨(seats' j).1.trans (seats j).1, ?_⟩⟩
  have step : ∀ e e' e'', EntryKept s e e' → EntryKept t e' e'' → EntryKept s e e'' := by
    rintro e e' e'' ⟨same, exempt⟩ ⟨same', exempt'⟩
    refine ⟨same'.trans same, fun guardian h => exempt' ?_ (exempt guardian h)⟩
    rw [kind_of_slots slots, same]; exact guardian
  generalize s.seats[j].entries = es, t.seats[j].entries = es', u.seats[j].entries = es'',
    (seats j).2 = h, (seats' j).2 = h'
  induction h generalizing es'' with
  | nil => cases h'; exact .nil
  | cons one _ ih => cases h' with
    | cons one' rest' => exact .cons (step _ _ _ one one') (ih _ rest')

theorem SeatsKept.foldl {α : Type} {f : State → α → State} (hf : ∀ s a, SeatsKept s (f s a)) (l : List α)
    (s : State) : SeatsKept s (l.foldl f s) := by
  induction l generalizing s with
  | nil => exact .refl s
  | cons a l ih => exact (hf s a).trans (ih _)

/-! ## What the relation gives -/

theorem SeatsKept.viewers {s t : State} (h : SeatsKept s t) (j : Fin 6) : t.viewers j = s.viewers j := by
  unfold State.viewers
  generalize s.seats[j].entries = es, t.seats[j].entries = es', (h.2 j).2 = kept
  induction kept with
  | nil => rfl
  | cons one _ ih => rw [List.map_cons, List.map_cons, one.1, ih]

theorem SeatsKept.programme {s t : State} (h : SeatsKept s t) (j : Fin 6) :
    t.seats[j].programme = s.seats[j].programme := (h.2 j).1

/-- Every guardian on the seat is EXEMPT (R66). -/
def State.GuardiansExempt (s : State) (j : Fin 6) : Prop :=
  ∀ e ∈ s.seats[j].entries, s.kind? e.slot = some .guardian → e.state = .exempt

theorem SeatsKept.guardiansExempt {s t : State} (h : SeatsKept s t) {j : Fin 6} (hs : s.GuardiansExempt j) :
    t.GuardiansExempt j := by
  unfold State.GuardiansExempt at *
  simp only [kind_of_slots h.1]
  generalize s.seats[j].entries = es, t.seats[j].entries = es', (h.2 j).2 = kept at *
  induction kept with
  | nil => simp
  | cons one _ ih =>
    obtain ⟨same, exempt⟩ := one
    rw [List.forall_mem_cons] at hs ⊢
    exact ⟨fun guardian => exempt (same ▸ guardian) (hs.1 (same ▸ guardian)), ih hs.2⟩

/-! ## Which operations keep the seats -/

/-- New contents for one seat. -/
theorem putSeat_seat (s : State) (j j' : Fin 6) (es : List Entry) (p : Option Programme) :
    (s.putSeat j es p).seats[j'] = if j' = j then s.deriveSeat es p else s.seats[j'] := by
  rw [State.putSeat_seats]
  by_cases h : j' = j
  · subst h; rw [if_pos rfl]; exact Vector.getElem_set_self ..
  · rw [if_neg h]
    exact Vector.getElem_set_ne (hi := j.isLt) (hj := j'.isLt) fun e => h (Fin.ext e.symm)

theorem SeatsKept.putSeat {s t : State} {j : Fin 6} {es : List Entry} {p : Option Programme}
    (slots : t.slots = s.slots) (seats : t.seats = s.seats) (programme : p = s.seats[j].programme)
    (entries : List.Forall₂ (EntryKept s) s.seats[j].entries es) : SeatsKept s (t.putSeat j es p) := by
  refine ⟨slots, fun j' => ?_⟩
  rw [putSeat_seat, seats]
  split
  · next e => subst e; exact ⟨programme, entries⟩
  · exact .refl s _

/-- A direct write that leaves EXEMPT alone (R59). -/
theorem SeatsKept.writeEntries (s : State) (f : Seat → Entry → EntryState)
    (h : ∀ seat e, e.state = .exempt → f seat e = .exempt) : SeatsKept s (s.writeEntries f) := by
  refine ⟨rfl, fun j => ⟨writeEntries_programme s f j, ?_⟩⟩
  rw [writeEntries_entries, List.forall₂_map_right_iff, List.forall₂_same]
  exact fun e _ => ⟨rfl, fun _ => h _ e⟩

theorem raiseRequest_seats (s : State) (k : Fin 16) : (s.raiseRequest k).seats = s.seats := by
  unfold State.raiseRequest; dsimp only
  split
  · rfl
  · split <;> rfl

theorem SeatsKept.raiseRequest (s : State) (k : Fin 16) : SeatsKept s (s.raiseRequest k) :=
  .of_eq (SeatWork.raiseRequest s k).slots (raiseRequest_seats s k)

theorem judge_seats (s : State) (p : Programme) (g w : Bool) (e : Entry) : (s.judge p g w e).1.seats = s.seats := by
  unfold State.judge; dsimp only
  split
  · rfl
  · split
    · dsimp only
      generalize State.evaluate _ _ _ _ _ _ = v
      split
      · exact raiseRequest_seats ..
      · rfl
    · rfl

/-- A re-evaluated guardian is EXEMPT (R66). -/
theorem judge_guardian {s : State} (p : Programme) (g w : Bool) {e : Entry} (h : s.kind? e.slot = some .guardian) :
    s.judge p g w e = (s, ⟨e.slot, .exempt⟩) := by
  simp [State.judge, State.isGuardian, h]

theorem judge_kept (s : State) (p : Programme) (g w : Bool) (e : Entry) : EntryKept s e (s.judge p g w e).2 := by
  by_cases h : s.kind? e.slot = some .guardian
  · rw [judge_guardian p g w h]; exact ⟨rfl, fun _ _ => rfl⟩
  · refine ⟨?_, fun guardian => absurd guardian h⟩
    unfold State.judge; split
    · rfl
    · split <;> rfl

theorem judgeAll_kept (p : Programme) (g w : Bool) (sel : Entry → Bool) (s : State) (es : List Entry) :
    (State.judgeAll p g w sel s es).1.seats = s.seats
      ∧ List.Forall₂ (EntryKept s) es (State.judgeAll p g w sel s es).2 := by
  induction es generalizing s with
  | nil => exact ⟨rfl, .nil⟩
  | cons e es ih =>
    unfold State.judgeAll; dsimp only
    split
    · have slots : (s.judge p g w e).1.slots = s.slots := (SeatWork.judge s p g w e).slots
      have same : EntryKept (s.judge p g w e).1 = EntryKept s := by
        unfold EntryKept; simp only [kind_of_slots slots]
      exact ⟨(ih _).1.trans (judge_seats ..), .cons (judge_kept ..) (same ▸ (ih _).2)⟩
    · exact ⟨(ih s).1, .cons (.refl s e) (ih s).2⟩

theorem SeatsKept.reevalSeat (w : Bool) (sel : Entry → Bool) (s : State) (j : Fin 6) :
    SeatsKept s (s.reevalSeat w sel j) := by
  unfold State.reevalSeat; split
  · exact .refl s
  · next p hp =>
    dsimp only
    obtain ⟨seats, entries⟩ := judgeAll_kept p s.seats[j].guardianPresent w sel s s.seats[j].entries
    exact .putSeat (SeatWork.judgeAll ..).slots seats hp.symm entries

theorem SeatsKept.reeval (s : State) (sel : Entry → Bool) : SeatsKept s (s.reeval sel) :=
  .foldl (.reevalSeat true sel) _ s

/-- The end of a profile's time, for a selection that leaves EXEMPT out (R105). -/
theorem SeatsKept.windDownOrDeny (s : State) (k : Fin 16) {sel : Seat → Entry → Bool}
    (h : ∀ seat e, e.state = .exempt → sel seat e = false) : SeatsKept s (s.windDownOrDeny k sel) := by
  unfold State.windDownOrDeny State.denyTime; dsimp only
  split
  · refine (SeatsKept.writeEntries s _ fun seat e he => ?_).trans
      (.of_eq (State.useWindDown_slots ..) (State.useWindDown_seats ..))
    rw [h seat e he]; exact he
  · refine .writeEntries s _ fun seat e he => ?_
    rw [h seat e he]; exact he

theorem isWaitingOf_exempt (k : Fin 16) (seat : Seat) (e : Entry) (h : e.state = .exempt) :
    isWaitingOf k seat e = false := by simp [isWaitingOf, h, EntryState.isWaiting]

theorem SeatsKept.creditDraw (s : State) (k : Fin 16) (g : Nat) : SeatsKept s (s.creditDraw k g) := by
  unfold State.creditDraw; dsimp only
  refine SeatsKept.trans (t := { s with
    meters := s.meters.set k { s.meters[k] with drawn := s.meters[k].drawn + g, draws := s.meters[k].draws + 1 },
    meterDirty := true }) (.of_eq rfl rfl) ?_
  split
  · exact .reeval ..
  · split
    · exact .raiseRequest ..
    · exact .windDownOrDeny _ k (isWaitingOf_exempt k)

theorem SeatsKept.drawFor (s : State) (r : Request) : SeatsKept s (s.drawFor r) := by
  unfold State.drawFor; dsimp only
  refine SeatsKept.trans ?_ (SeatsKept.creditDraw ..)
  exact .of_eq rfl rfl

theorem SeatsKept.draws (fuel : Nat) (s : State) : SeatsKept s (State.draws fuel s).1 := by
  induction fuel generalizing s with
  | zero => exact .refl s
  | succ n ih =>
    unfold State.draws; split
    · exact .refl s
    · split
      · exact .refl s
      · exact (SeatsKept.drawFor s _).trans (ih _)

theorem SeatsKept.opportunity (s : State) : SeatsKept s s.opportunity.1 := by
  unfold State.opportunity; dsimp only; split
  · exact (SeatsKept.draws ..).trans (.of_eq rfl rfl)
  · exact .draws ..

theorem SeatsKept.noteSeats (before s : State) : SeatsKept s (State.noteSeats before s) :=
  .of_eq (SeatWork.noteSeats before s).slots (noteSeats_seats before s)

/-- The end of an event seats nobody and plays nothing (R46, R60, R128). -/
theorem SeatsKept.settled (s before : State) (offered : Bool) : SeatsKept s (s.settled before offered) := by
  unfold State.settled State.settle State.settleWaits; dsimp only
  refine SeatsKept.trans (t := s.releaseWaits) (.of_eq rfl rfl) ?_
  split
  · exact (SeatsKept.opportunity ..).trans (.noteSeats ..)
  · exact .noteSeats ..

end Sys2Proof.Machine
end

section
/-! PROOFS. A command's reply beside what its owner did, translation (R4), what a new programme does to a seat, and
O22. -/

namespace Sys2Proof.Machine

/-! ## Replies -/

theorem SeatWork.replied {s t : State} (h : SeatWork s t) (i : Instr) (status : Status) (payload : List Byte) :
    CommandWork s (t.replied i status payload) := by
  rw [h]; rfl

theorem replied_holds (s : State) (i : Instr) (status : Status) (payload : List Byte) :
    (s.replied i status payload).Holds i status payload := ⟨rfl, rfl⟩

/-- Holding the response touches nothing that a re-evaluation speaks of. -/
theorem Rejudges.replied {before x t : State} {keepWind : Bool} {sel : Fin 6 → Entry → Bool}
    (h : Rejudges before x t keepWind sel) (i : Instr) (status : Status) (payload : List Byte) :
    Rejudges before x (t.replied i status payload) keepWind sel := h

/-! ## Translation -/

theorem translate_of_slot {scheme : Byte} {k : Fin 8} (hk : scheme.toNat = k.val) (s : State) (rating : Byte) :
    s.translate scheme rating = s.schemes[k].scheme.bind fun c => c.levels[rating.toNat]? := by
  simp only [State.translate, inRange_of_eq hk]

theorem translate_of_lt {scheme : Byte} (h : 7 < scheme.toNat) (s : State) (rating : Byte) :
    s.translate scheme rating = none := by
  simp only [State.translate, inRange_of_le h]

theorem translate_of_schemes {s t : State} (h : t.schemes = s.schemes) : t.translate = s.translate := by
  funext scheme rating; unfold State.translate; rw [h]

/-! ## No evaluation begins a wind-down -/

theorem timeGroup_ne_winding {s : State} {k : Fin 16} {r : Rules} {c : TimePass}
    (h : s.timeGroup k r none = some c) (ends : Nat) : c ≠ .winding ends := by
  rintro rfl
  unfold State.timeGroup at h
  split at h
  · cases h
  · split at h
    · split at h <;> cases h
    · dsimp only at h
      split at h
      · cases h
      · split at h <;> cases h

theorem permit_windEnd {s : State} {k : Fin 16} {r : Rules} {why : Pass} {carried : Option TimePass}
    {decider : Option RuleGroup} (h : ∀ ends, carried ≠ some (.winding ends)) :
    (s.permit k r why carried decider).state.windEnd? = none := by
  unfold State.permit
  match carried with
  | none => dsimp only [State.unjudgedState]; split <;> rfl
  | some .clear | some .low | some (.waiting _) => rfl
  | some (.winding ends) => exact absurd rfl (h ends)

/-- An entry that is not judged as one in wind-down comes out in none (R54, R79). -/
theorem evaluate_windEnd (s : State) (k : Fin 16) (r : Rules) (p : Programme) (g : Bool) :
    (s.evaluate k r p g none).state.windEnd? = none := by
  suffices ∀ (order : List RuleGroup) (carried : Option TimePass), (∀ ends, carried ≠ some (.winding ends)) →
      (s.walk k r p g none order carried).state.windEnd? = none from this _ none nofun
  intro order
  induction order with
  | nil => exact fun carried h => permit_windEnd h
  | cons group rest ih =>
    intro carried h
    cases group <;> unfold State.walk
    case grant => split; exacts [permit_windEnd h, ih carried h]
    case rating => split; exacts [rfl, ih carried h]
    case window => split; exacts [rfl, ih carried h]
    case time =>
      split
      · next c hc => exact ih (some c) fun ends e => timeGroup_ne_winding hc ends (Option.some.inj e)
      · rfl

theorem rules_of_kind {s : State} {k : Fin 16} (live : (s.kind? k).isSome = true)
    (h : s.kind? k ≠ some .guardian) : ∃ r, s.rules? k = some r := by
  unfold State.kind? at live h
  unfold State.rules?
  match hp : s.profile? k with
  | none => rw [hp] at live; cases live
  | some (.guest _ r) | some (.child _ r) => exact ⟨r, rfl⟩
  | some (.guardian _) => rw [hp] at h; exact absurd rfl h

theorem verdictOn_slot (s : State) (p : Programme) (g : Bool) (w : Option Nat) (e : Entry) :
    (s.verdictOn p g w e).slot = e.slot := by
  unfold State.verdictOn; split
  · rfl
  · split <;> rfl

/-- The verdict on a LIVE profile's entry, judged as in no wind-down, is no wind-down. -/
theorem verdictOn_windEnd {s : State} (p : Programme) (g : Bool) {e : Entry}
    (live : (s.kind? e.slot).isSome = true) : (s.verdictOn p g none e).state.windEnd? = none := by
  unfold State.verdictOn
  by_cases h : s.kind? e.slot = some .guardian
  · rw [if_pos h]; rfl
  · obtain ⟨r, hr⟩ := rules_of_kind live h
    rw [if_neg h, hr]; exact evaluate_windEnd ..

/-! ## A new programme -/

theorem putSeat_viewers (s : State) (j j' : Fin 6) (p : Option Programme) :
    (s.putSeat j s.seats[j].entries p).viewers j' = s.viewers j' := by
  unfold State.viewers
  rw [putSeat_seat]
  split
  · next e => rw [e]; rfl
  · rfl

theorem judgeAll_guardians (p : Programme) (g w : Bool) (s : State) (es : List Entry) :
    ∀ e ∈ (State.judgeAll p g w everyEntry s es).2, s.kind? e.slot = some .guardian → e.state = .exempt := by
  induction es generalizing s with
  | nil => nofun
  | cons e es ih =>
    have same := kind_of_slots (SeatWork.judge s p g w e).slots
    have rest := ih (s.judge p g w e).1
    simp only [same] at rest
    refine List.forall_mem_cons.mpr ⟨fun guardian => ?_, rest⟩
    have here : s.kind? e.slot = some .guardian := (judge_kept s p g w e).1 ▸ guardian
    show (s.judge p g w e).2.state = _
    rw [judge_guardian p g w here]

/-- A re-evaluation of a whole seat leaves its guardians EXEMPT (R57, R66). -/
theorem reevalSeat_guardiansExempt {s : State} {j : Fin 6} {p : Programme} (hp : s.seats[j].programme = some p)
    (w : Bool) : (s.reevalSeat w everyEntry j).GuardiansExempt j := by
  have run : s.reevalSeat w everyEntry j = (State.judgeAll p s.seats[j].guardianPresent w everyEntry s
      s.seats[j].entries).1.putSeat j (State.judgeAll p s.seats[j].guardianPresent w everyEntry s
      s.seats[j].entries).2 (some p) := by
    unfold State.reevalSeat; rw [hp]
  intro e he
  rw [kind_of_slots (SeatWork.reevalSeat w everyEntry s j).slots]
  rw [run, putSeat_seat, if_pos rfl] at he
  exact judgeAll_guardians p _ w s _ e he

section
variable (s : State) (j : Fin 6) (p : Programme)

/-- After the seat has its new programme, **play** seats nobody and plays nothing more. -/
theorem startProgramme_kept : SeatsKept (s.putSeat j s.seats[j].entries (some p)) (s.startProgramme j p) :=
  (SeatsKept.reevalSeat ..).trans (.settled ..)

theorem startProgramme_work : SeatWork s (s.startProgramme j p) :=
  (SeatWork.putSeat ..).trans ((SeatWork.reevalSeat ..).trans (.settled ..))

theorem startProgramme_programme (j' : Fin 6) : (s.startProgramme j p).seats[j'].programme =
    if j' = j then some p else s.seats[j'].programme := by
  rw [(startProgramme_kept s j p).programme, putSeat_seat]; split <;> rfl

theorem startProgramme_viewers (j' : Fin 6) : (s.startProgramme j p).viewers j' = s.viewers j' := by
  rw [(startProgramme_kept s j p).viewers, putSeat_viewers]

theorem startProgramme_guardiansExempt : (s.startProgramme j p).GuardiansExempt j :=
  (SeatsKept.settled ..).guardiansExempt
    (reevalSeat_guardiansExempt (p := p) (by rw [putSeat_seat, if_pos rfl]; rfl) false)

/-- The seat as **play** finds it, with the new programme and the guardian-present flag of its entries. -/
def State.played (s : State) (j : Fin 6) (p : Programme) : State :=
  { s with seats := s.seats.set j { s.seats[j] with
      programme := some p
      guardianPresent := (s.viewers j).any fun x => s.kind? x = some .guardian } }

theorem guardianAmong_viewers : s.guardianAmong s.seats[j].entries =
    (s.viewers j).any fun x => s.kind? x = some .guardian := by
  unfold State.viewers; rw [List.any_map]; rfl

theorem startProgramme_rejudges :
    Rejudges s (s.played j p) (s.startProgramme j p) false fun j' _ => decide (j' = j) := by
  have h := rejudges_seat s j s.seats[j].entries (some p) false everyEntry false
  simp only [everyEntry, Bool.and_true, guardianAmong_viewers] at h
  exact h

/-- With none asked for, no LIVE profile's entry of the seat is left in a wind-down (R54). -/
theorem startProgramme_windEnd (quiet : s.requests = [])
    (asks : ∀ e ∈ s.seats[j].entries, ∀ r, s.rules? e.slot = some r →
      (s.evaluate e.slot r p ((s.viewers j).any fun x => s.kind? x = some .guardian) none).asks = false) :
    ∀ e ∈ (s.startProgramme j p).seats[j].entries, (s.kind? e.slot).isSome = true → e.state.windEnd? = none := by
  have tables : SameTables (s.played j p) s := ⟨rfl, rfl, rfl, rfl, rfl, rfl⟩
  have seat : (s.played j p).seats[j] = { s.seats[j] with
      programme := some p
      guardianPresent := (s.viewers j).any fun x => s.kind? x = some .guardian } := Vector.getElem_set_self ..
  obtain ⟨-, -, -, -, judged, -⟩ := startProgramme_rejudges s j p quiet fun j' p' hp' e he sel r hr => by
    obtain rfl : j' = j := of_decide_eq_true sel
    rw [seat] at hp' he ⊢
    rw [tables.evaluate]
    cases hp'
    exact asks e he r (tables.rules e.slot ▸ hr)
  intro e he live
  rw [(judged j).2, seat] at he
  obtain ⟨e, -, rfl⟩ := List.mem_map.mp he
  simp only [decide_true, if_true, Bool.false_eq_true, if_false] at live ⊢
  rw [verdictOn_slot, ← tables.kind] at live
  exact verdictOn_windEnd p _ live

end

theorem play_of_seat {s : State} {a : PlayArgs} {j : Fin 6} {c : Fin 8} (hj : a.seat.toNat = j.val)
    (hc : a.programme.category.toNat = c.val) : play (.fields a) s =
      let ends := endMoment s.clock.counter a.programme.duration.toNat
      let s' := s.startProgramme j (s.programmeOf a.programme c)
      (s', ok (be1 ((s.translate a.programme.scheme a.programme.rating).getD 255) ++ flagByte ends.isSome
        ++ be4 (ends.getD 0) ++ be1 s.seats[j].entries.length ++ be1 s'.seats[j].state.code)) := by
  simp only [play, withFields_fields, inRange_of_eq hj, inRange_of_eq hc, optField, List.append_assoc]; rfl

theorem play_of_lt {s : State} {a : PlayArgs} (h : 5 < a.seat.toNat ∨ 7 < a.programme.category.toNat) :
    play (.fields a) s = (s, refuse .badArgument) := by
  rw [play, withFields_fields]
  rcases h with h | h
  · rw [inRange_of_le h]
  · rw [inRange_of_le h]; cases inRange 6 a.seat <;> rfl

/-- R44, with the duration as the field's bits. -/
theorem endMoment_of_half (counter : Nat) (d : Half) : endMoment counter d.toNat =
    if d = 0 then none else some (min (counter + 60 * min d.toNat 720) 4294967295) := by
  have h : d.toNat = 0 ↔ d = 0 := (BitVec.toNat_eq (x := d) (y := 0)).symm
  simp only [endMoment, h, counterMax]

/-- Settles O22: the seat takes the programme, and everything after that keeps viewers and programmes and judges the
entries of this seat alone. -/
theorem playSetsTheProgramme : Obligations.PlaySetsTheProgramme := by
  unfold Obligations.PlaySetsTheProgramme
  refine ⟨fun s scheme rating => ⟨fun out => translate_of_lt out s rating, fun k hk => ?_⟩, fun s a h => ?_⟩
  · rw [translate_of_slot hk]
    refine ⟨fun empty => by rw [empty]; rfl, fun c loaded => ?_⟩
    rw [loaded]
    exact ⟨fun out => List.getElem?_eq_none out, fun inside => List.getElem?_eq_getElem inside⟩
  · refine ⟨fun out => exec_of_owner h rfl (play_of_lt out), fun j c hj hc => ?_⟩
    rw [← endMoment_of_half]
    intro ends m
    have programme := startProgramme_programme s j (s.programmeOf a.programme c)
    have slots := (startProgramme_work s j (s.programmeOf a.programme c)).slots
    refine ⟨_, exec_of_owner h rfl (play_of_seat hj hc), ?_, ?_, ?_, ?_, ?_, ?_, ?_, ?_⟩
    · exact replied_holds ..
    · exact (programme j).trans (if_pos rfl)
    · exact startProgramme_viewers s j _
    · exact fun j' ne => (programme j').trans (if_neg ne)
    · exact fun e he guardian => startProgramme_guardiansExempt s j _ e he ((kind_of_slots slots _).trans guardian)
    · exact (startProgramme_work s j _).replied ..
    · exact Rejudges.replied (startProgramme_rejudges s j _) _ _ _
    · exact startProgramme_windEnd s j _

end Sys2Proof.Machine
end

section
/-! SUPPORT. What a scheme change does to the seats that name the slot (R7, R8, R11). -/

namespace Sys2Proof.Machine

/-- A programme with its maturity derived anew, where it names the slot (R11). -/
def State.retranslate (s : State) (k : Fin 8) (p : Programme) : Programme :=
  if p.scheme.toNat = k.val then { p with maturity := s.translate p.scheme p.rating } else p

theorem retranslate_of_schemes {s t : State} (h : t.schemes = s.schemes) (k : Fin 8) :
    t.retranslate k = s.retranslate k := by
  funext p; unfold State.retranslate; rw [translate_of_schemes h]

theorem map_retranslate_of_not_named {s : State} {k : Fin 8} {seat : Seat} (h : namesScheme k seat = false) :
    seat.programme.map (s.retranslate k) = seat.programme := by
  unfold namesScheme at h
  cases hp : seat.programme with
  | none => rfl
  | some p =>
    rw [hp, Option.any_some, decide_eq_false_iff_not] at h
    rw [Option.map_some, State.retranslate, if_neg h]

/-- One seat's part: a seat that names the slot takes its programme anew and is re-evaluated (R11). -/
theorem rederiveSeat_eq (k : Fin 8) (s : State) (j : Fin 6) : s.rederiveSeat k j =
    if namesScheme k s.seats[j] then
      (s.putSeat j s.seats[j].entries (s.seats[j].programme.map (s.retranslate k))).reevalSeat true everyEntry j
    else s := by
  unfold State.rederiveSeat namesScheme State.retranslate
  cases hp : s.seats[j].programme with
  | none => rfl
  | some p => by_cases h : p.scheme.toNat = k.val <;> simp [h]

theorem SeatWork.schemes {s t : State} (h : SeatWork s t) : t.schemes = s.schemes := by rw [h]

theorem SeatWork.store {s t : State} (h : SeatWork s t) : t.store = s.store := by rw [h]

theorem SeatWork.withStore {s t : State} (h : SeatWork s t) (x : Store) :
    SeatWork { s with store := x } { t with store := x } := by
  rw [h]; rfl

theorem SeatWork.rederiveSeat (k : Fin 8) (s : State) (j : Fin 6) : SeatWork s (s.rederiveSeat k j) := by
  rw [rederiveSeat_eq]; split
  · exact (SeatWork.putSeat ..).trans (.reevalSeat ..)
  · exact .refl s

theorem rederiveSeat_viewers (k : Fin 8) (s : State) (j j' : Fin 6) :
    (s.rederiveSeat k j).viewers j' = s.viewers j' := by
  rw [rederiveSeat_eq]; split
  · rw [(SeatsKept.reevalSeat ..).viewers, putSeat_viewers]
  · rfl

theorem rederiveSeat_programme (k : Fin 8) (s : State) (j j' : Fin 6) : (s.rederiveSeat k j).seats[j'].programme =
    if j' = j then s.seats[j'].programme.map (s.retranslate k) else s.seats[j'].programme := by
  rw [rederiveSeat_eq]
  by_cases named : namesScheme k s.seats[j] = true
  · rw [if_pos named, (SeatsKept.reevalSeat ..).programme, putSeat_seat]
    split
    · next e => rw [e]; rfl
    · rfl
  · rw [if_neg named]
    split
    · next e => rw [e, map_retranslate_of_not_named (by simpa using named)]
    · rfl

/-- Every seat in turn (R11). -/
theorem rederive_programme (k : Fin 8) (l : List (Fin 6)) (hl : l.Nodup) (s : State) (j : Fin 6) :
    (l.foldl (State.rederiveSeat k) s).seats[j].programme =
      if j ∈ l then s.seats[j].programme.map (s.retranslate k) else s.seats[j].programme := by
  induction l generalizing s with
  | nil => rfl
  | cons i l ih =>
    obtain ⟨hi, hl⟩ := List.nodup_cons.mp hl
    rw [List.foldl_cons, ih hl, rederiveSeat_programme, retranslate_of_schemes (SeatWork.rederiveSeat k s i).schemes]
    by_cases h : j = i
    · subst h; simp [hi]
    · simp [h]

theorem rederive_viewers (k : Fin 8) (l : List (Fin 6)) (s : State) (j : Fin 6) :
    (l.foldl (State.rederiveSeat k) s).viewers j = s.viewers j := by
  induction l generalizing s with
  | nil => rfl
  | cons i l ih => rw [List.foldl_cons, ih, rederiveSeat_viewers]

/-! ## Where none is asked for -/

/-- A seat that names the slot, with its programme taken anew and before its entries are judged. -/
def State.renamedSeat (s : State) (k : Fin 8) (seat : Seat) : Seat :=
  s.deriveSeat seat.entries (seat.programme.map (s.retranslate k))

/-- What a scheme change makes of one seat. -/
def State.rederivedSeat (s : State) (k : Fin 8) (seat : Seat) : Seat :=
  if namesScheme k seat then s.judgedSeat true everyEntry (s.renamedSeat k seat) else seat

theorem deriveSeat_of_slots {s t : State} (h : t.slots = s.slots) : t.deriveSeat = s.deriveSeat := by
  funext es p; unfold State.deriveSeat State.guardianAmong State.isGuardian; simp only [kind_of_slots h]

theorem judgedSeat_of_tables {s t : State} (h : SameTables s t) (w : Bool) (sel : Entry → Bool) (seat : Seat) :
    s.judgedSeat w sel seat = t.judgedSeat w sel seat := by
  unfold State.judgedSeat State.judgedEntries
  simp only [h.verdictOn, deriveSeat_of_slots h.1.symm]

theorem State.AsksNone.of_tables {s t : State} (h : SameTables s t) {w : Bool} {sel : Entry → Bool} {seat : Seat}
    (asks : t.AsksNone w sel seat) : s.AsksNone w sel seat := by
  intro p hp e he hs r hr
  rw [h.evaluate]; exact asks p hp e he hs r (h.rules e.slot ▸ hr)

theorem set_own_seat (s : State) (j : Fin 6) : { s with seats := s.seats.set j s.seats[j] } = s :=
  congrArg (fun v => { s with seats := v }) (Vector.set_getElem_self ..)

/-- A re-evaluation of one seat writes that seat alone. -/
theorem reevalSeat_set {s : State} {w : Bool} {sel : Entry → Bool} {j : Fin 6} (h : s.AsksNone w sel s.seats[j]) :
    s.reevalSeat w sel j = { s with seats := s.seats.set j (s.judgedSeat w sel s.seats[j]) } := by
  rw [reevalSeat_quiet s w sel j h, State.judgedSeat]
  cases s.seats[j].programme with
  | none => exact (set_own_seat s j).symm
  | some p => rfl

theorem rederiveSeat_quiet {s : State} {k : Fin 8} {j : Fin 6}
    (h : namesScheme k s.seats[j] = true → s.AsksNone true everyEntry (s.renamedSeat k s.seats[j])) :
    s.rederiveSeat k j = { s with seats := s.seats.set j (s.rederivedSeat k s.seats[j]) } := by
  rw [rederiveSeat_eq]
  unfold State.rederivedSeat
  split
  · next named =>
    have at_j : (s.putSeat j s.seats[j].entries (s.seats[j].programme.map (s.retranslate k))).seats[j]
        = s.renamedSeat k s.seats[j] := by rw [putSeat_seat, if_pos rfl]; rfl
    have tables : SameTables (s.putSeat j s.seats[j].entries (s.seats[j].programme.map (s.retranslate k))) s :=
      ⟨rfl, rfl, rfl, rfl, rfl, rfl⟩
    rw [reevalSeat_set (at_j ▸ State.AsksNone.of_tables tables (h named)), at_j, judgedSeat_of_tables tables,
      State.putSeat_seats, Vector.set_set]
    rfl
  · exact (set_own_seat s j).symm

theorem rederive_quiet (s : State) (k : Fin 8)
    (h : ∀ j : Fin 6, namesScheme k s.seats[j] = true → s.AsksNone true everyEntry (s.renamedSeat k s.seats[j])) :
    (List.finRange 6).foldl (State.rederiveSeat k) s =
      { s with seats := Vector.ofFn fun j => s.rederivedSeat k s.seats[j] } := by
  rw [foldl_seats s _ (fun j => s.rederivedSeat k s.seats[j]) _ _ (List.nodup_finRange 6)]
  · simp only [List.mem_finRange, if_true]
  · intro v j hv
    have tables : SameTables { s with seats := v } s := ⟨rfl, rfl, rfl, rfl, rfl, rfl⟩
    have renamed : ({ s with seats := v } : State).renamedSeat k v[j] = s.renamedSeat k s.seats[j] := by rw [hv]; rfl
    have derived : ({ s with seats := v } : State).rederivedSeat k v[j] = s.rederivedSeat k s.seats[j] := by
      unfold State.rederivedSeat; rw [renamed, judgedSeat_of_tables tables, hv]
    rw [rederiveSeat_quiet fun named => ?_, derived]
    rw [renamed]
    exact .of_tables tables (h j (hv ▸ named))

end Sys2Proof.Machine
end

section
/-! PROOFS. What a scheme change leaves of the whole part (R7, R8, R12), and O12. -/

namespace Sys2Proof.Machine

section
variable (s : State) (k : Fin 8) (c : SchemeSlot)

/-- The part with the slot's new contents, before any seat is looked at. -/
def State.withScheme : State := { s with schemes := s.schemes.set k c }

/-- The part with the seats that name the slot derived anew. -/
def State.rederived : State := (List.finRange 6).foldl (State.rederiveSeat k) (s.withScheme k c)

theorem rederived_work : SeatWork (s.withScheme k c) (s.rederived k c) := .foldl (.rederiveSeat k) _ _

/-- The commit queue of a scheme change (R12). -/
def State.schemeQueued : Store := { s.store with queue := s.queueWith [schemeBlock k] }

theorem changeScheme_eq : s.changeScheme k c =
    { s.rederived k c with store := s.schemeQueued k }.settled s false := by
  have store : (s.rederived k c).store = s.store := (rederived_work s k c).store
  show ((s.rederived k c).commit (schemeBlock k)).settled s false = _
  rw [State.commit_queueWith, State.schemeQueued, State.queueWith, State.queueWith]
  unfold State.queued
  rw [store]

/-- The slot and the commit queue change, and beyond them only what seats, waits and draws touch. -/
theorem changeScheme_work : SeatWork { s.withScheme k c with store := s.schemeQueued k } (s.changeScheme k c) := by
  rw [changeScheme_eq]
  exact ((rederived_work s k c).withStore _).trans (.settled ..)

theorem changeScheme_kept : SeatsKept (s.rederived k c) (s.changeScheme k c) := by
  rw [changeScheme_eq]
  refine SeatsKept.trans ?_ (SeatsKept.settled ..)
  exact .of_eq rfl rfl

theorem changeScheme_viewers (j : Fin 6) : (s.changeScheme k c).viewers j = s.viewers j := by
  rw [(changeScheme_kept s k c).viewers, State.rederived, rederive_viewers]; rfl

theorem changeScheme_programme (j : Fin 6) : (s.changeScheme k c).seats[j].programme =
    s.seats[j].programme.map ((s.withScheme k c).retranslate k) := by
  rw [(changeScheme_kept s k c).programme, State.rederived, rederive_programme k _ (List.nodup_finRange 6),
    if_pos (List.mem_finRange j)]; rfl

/-- The part as a scheme change judges it: the slot's new contents, and the seats that name it with their
programmes and guardian-present flags taken anew. -/
def State.renamed : State :=
  { s.withScheme k c with seats := Vector.ofFn fun j => if namesScheme k s.seats[j] then { s.seats[j] with
      programme := (s.changeScheme k c).seats[j].programme
      guardianPresent := (s.viewers j).any fun x => s.kind? x = some .guardian } else s.seats[j] }

theorem renamed_seat_of_named {j : Fin 6} (h : namesScheme k s.seats[j] = true) : (s.renamed k c).seats[j] =
    { (s.withScheme k c).renamedSeat k s.seats[j] with state := s.seats[j].state } := by
  have : (s.renamed k c).seats[j] = _ := Vector.getElem_ofFn ..
  rw [this, if_pos h, changeScheme_programme, ← guardianAmong_viewers]
  rfl

theorem renamed_seat_of_not_named {j : Fin 6} (h : namesScheme k s.seats[j] = false) :
    (s.renamed k c).seats[j] = s.seats[j] := by
  have : (s.renamed k c).seats[j] = _ := Vector.getElem_ofFn ..
  rw [this, if_neg (by rw [h]; nofun)]

/-- The entries of the seats that name the slot, and no others, take their verdicts (R11). -/
theorem changeScheme_rejudges :
    Rejudges s (s.renamed k c) (s.changeScheme k c) true fun j _ => namesScheme k s.seats[j] := by
  have tables : SameTables (s.withScheme k c) (s.renamed k c) := ⟨rfl, rfl, rfl, rfl, rfl, rfl⟩
  rw [changeScheme_eq]
  refine Rejudges.of_settled false rfl fun _ asks => ⟨(s.rederived k c).seats, ?_⟩
  have quiet := rederive_quiet (s.withScheme k c) k fun j named => by
    intro p hp e he _ r hr
    have := asks j
    rw [renamed_seat_of_named s k c named] at this
    exact State.AsksNone.of_tables tables this p hp e he named r hr
  rw [State.rederived, quiet]
  refine ⟨rfl, rfl, rfl, rfl, rfl, rfl, fun j => ?_⟩
  have seat : (Vector.ofFn fun j : Fin 6 => (s.withScheme k c).rederivedSeat k (s.withScheme k c).seats[j])[j]
      = (s.withScheme k c).rederivedSeat k s.seats[j] := Vector.getElem_ofFn ..
  dsimp only
  rw [seat]
  unfold State.rederivedSeat
  by_cases named : namesScheme k s.seats[j] = true
  · rw [if_pos named, renamed_seat_of_named s k c named, judgedSeat_programme,
      judgedSeat_entries, judgedSeat_entries]
    simp only [tables.verdictOn, everyEntry, named, and_self]
  · rw [if_neg named, renamed_seat_of_not_named s k c (by simpa using named), judgedSeat_entries]
    refine ⟨rfl, (List.map_id'' (fun e => ?_) _).symm⟩
    split
    · exact if_neg named
    · rfl

end

/-- Settles O12: past the checks both commands are the one scheme change. -/
theorem schemeSlotsChange : Obligations.SchemeSlotsChange := by
  unfold Obligations.SchemeSlotsChange
  refine ⟨fun s i k c h h2 unlocked hi => ?_, fun s b k h h2 hk empty => ?_, fun s a k h h2 hk unlocked bad => ?_⟩
  · have run : exec i s = .next ((s.changeScheme k c).replied i .ok (be1 k.val ++ be1 (s.seatsNaming k))) := by
      rcases hi with ⟨a, rfl, hk, count, low, high, levels, rfl⟩ | ⟨b, rfl, hk, loaded, rfl⟩
      · have fits := (sload_fits_iff a).mpr ⟨count, low, high, levels⟩
        exact exec_of_owner h rfl (by rw [sload_of_slot h2 hk, unlocked, fits]; rfl)
      · have loaded' : s.schemes[k].scheme.isNone = false := by simpa using loaded
        exact exec_of_owner h rfl (by rw [sclr_of_slot h2 hk, unlocked, loaded']; rfl)
    have work := changeScheme_work s k c
    have schemes : (s.changeScheme k c).schemes = s.schemes.set k c := by rw [work.schemes]; rfl
    have queue : (s.changeScheme k c).store.queue = s.queueWith [schemeBlock k] := by rw [work.store]; rfl
    refine ⟨_, run, replied_holds .., schemes, queue, changeScheme_viewers s k c, changeScheme_programme s k c, ?_,
      Rejudges.replied (changeScheme_rejudges s k c) _ _ _⟩
    show CommandWork { s with
      schemes := (s.changeScheme k c).schemes
      store := { s.store with queue := (s.changeScheme k c).store.queue } } _
    rw [schemes, queue]
    exact work.replied ..
  · exact exec_of_owner h rfl (by rw [sclr_of_slot h2 hk, empty]; rfl)
  · have unfit : (a.n.toNat ≠ a.levels.length || !(Scheme.mk a.tag (a.levels.map (·.toNat))).valid) = true := by
      refine Bool.of_not_eq_false fun fits => ?_
      obtain ⟨count, low, high, levels⟩ := (sload_fits_iff a).mp fits
      rcases bad with bad | bad | bad | ⟨l, hl, bad⟩
      · omega
      · omega
      · exact bad count.symm
      · exact absurd (levels l hl) (by omega)
    exact exec_of_owner h rfl (by rw [sload_of_slot h2 hk, unlocked, unfit]; rfl)

end Sys2Proof.Machine
end

section
/-! PROOFS. The edit buffer's opening and discarding (R26, R33), the ends of the guardian unit's countdowns (R169,
R171), and O14, O17 and O42. -/

namespace Sys2Proof.Machine

/-! ## edrop and the countdowns -/

/-- Settles O17: **edrop** is one assignment, and its answer tells whether it found a buffer. -/
theorem edropDiscardsTheBuffer : Obligations.EdropDiscardsTheBuffer := by
  unfold Obligations.EdropDiscardsTheBuffer
  exact fun s h => exec_of_owner h rfl rfl

/-- The step of an event that the part takes. -/
theorem exec_of_effect {s : State} {i : Instr} {effect : State → State} (h : s.Awake)
    (arm : exec i s = .next (s.taken i effect)) : exec i s = .next (effect s).drivePins := by
  rw [arm, taken_awake h]

theorem closeWindow_of_open {s : State} (h : s.authority.window.isSome = true) : s.closeWindow = { s with
    authority := { s.authority with window := none }, edit := none
    due := { s.due with window := false }, notices := s.notices ||| 0x2000 } := by
  obtain ⟨n, hn⟩ := Option.isSome_iff_exists.mp h
  unfold State.closeWindow
  rw [hn]; rfl

/-- Settles O42: each row does its work when its countdown's end was handed over, and otherwise nothing. -/
theorem countdownsEnd : Obligations.CountdownsEnd := by
  unfold Obligations.CountdownsEnd
  refine fun s h => ⟨fun due isOpen => ?_, fun due => ?_, fun due => ?_, fun due => ?_⟩
  · rw [exec_of_effect h (effect := takeWindowExpiry) rfl, takeWindowExpiry, due, if_pos rfl,
      closeWindow_of_open isOpen]
  · rw [exec_of_effect h (effect := takeWindowExpiry) rfl, takeWindowExpiry, due]; rfl
  · rw [exec_of_effect h (effect := takeLockoutEnd) rfl, takeLockoutEnd, due]; rfl
  · rw [exec_of_effect h (effect := takeLockoutEnd) rfl, takeLockoutEnd, due]; rfl

/-! ## eopen -/

section
variable {s : State} {a : EopenArgs} (isOpen : s.authority.window.isSome = true)
include isOpen

/-- The slot, the mode and the kind of a NEW edit are looked at before anything else (R25). -/
theorem eopen_of_bad (bad : 15 < a.slot.toNat ∨ 1 < a.mode.toNat ∨ (a.mode = 0 ∧ a.kind ≠ 1 ∧ a.kind ≠ 2)) :
    eopen (.fields a) s = (s, refuse .badArgument) := by
  rw [eopen, guarded_open isOpen, withFields_fields]
  rcases bad with slot | mode | ⟨mode, child, guardian⟩
  · rw [inRange_of_le slot]
  · have new : a.mode ≠ 0 := fun e => by rw [e] at mode; cases mode
    have change : a.mode ≠ 1 := fun e => by rw [e] at mode; exact absurd mode (by decide)
    cases inRange 16 a.slot with
    | none => rfl
    | some k => simp only [if_neg new, if_neg change]
  · have kind : newImage? a.kind = none := by rw [newImage?, if_neg child, if_neg guardian]
    cases inRange 16 a.slot with
    | none => rfl
    | some k => simp only [if_pos mode, kind]

section
variable {k : Fin 16} (hk : a.slot.toNat = k.val)
include hk

theorem eopen_new {image : Profile} (mode : a.mode = 0) (kind : newImage? a.kind = some image) :
    eopen (.fields a) s =
      if s.edit.isSome then (s, refuse .state)
      else if k = 0 || (s.profile? k).isSome then (s, refuse .noSuch)
      else s.openEdit k true image := by
  simp only [eopen, guarded_open isOpen, withFields_fields, inRange_of_eq hk, if_pos mode, kind]

theorem eopen_change (mode : a.mode = 1) : eopen (.fields a) s =
      if s.edit.isSome then (s, refuse .state)
      else (s.profile? k).elim (s, refuse .noSuch) (s.openEdit k false) := by
  have new : a.mode ≠ 0 := by rw [mode]; decide
  simp only [eopen, guarded_open isOpen, withFields_fields, inRange_of_eq hk, if_neg new, if_pos mode]
  cases s.profile? k <;> rfl

end

end

/-- The two kinds that a NEW edit may name (R25, R26). -/
theorem newImage?_iff {kind : Byte} {image : Profile} : newImage? kind = some image ↔
    (kind = 1 ∧ image = .child ⟨0, none, none⟩ Rules.newChild) ∨ (kind = 2 ∧ image = .guardian ⟨0, none, none⟩) := by
  unfold newImage? Ident.blank
  by_cases child : kind = 1
  · subst child; simp [eq_comm]
  · by_cases guardian : kind = 2
    · subst guardian; simp [eq_comm]
    · rw [if_neg child, if_neg guardian]
      exact ⟨nofun, fun h => h.elim (fun h => absurd h.1 child) fun h => absurd h.1 guardian⟩

/-- An **eopen** that is not refused BAD_ARGUMENT is NEW, of one of the two kinds, or CHANGE (R25). -/
theorem eopen_modes {a : EopenArgs}
    (good : ¬ (15 < a.slot.toNat ∨ 1 < a.mode.toNat ∨ (a.mode = 0 ∧ a.kind ≠ 1 ∧ a.kind ≠ 2))) :
    (∃ k : Fin 16, a.slot.toNat = k.val) ∧ ((a.mode = 0 ∧ ∃ image, newImage? a.kind = some image) ∨ a.mode = 1) := by
  obtain ⟨slot, mode, kind⟩ : a.slot.toNat ≤ 15 ∧ a.mode.toNat ≤ 1 ∧ ¬ (a.mode = 0 ∧ a.kind ≠ 1 ∧ a.kind ≠ 2) := by
    simpa only [not_or, Nat.not_lt] using good
  refine ⟨⟨⟨a.slot.toNat, by omega⟩, rfl⟩, ?_⟩
  by_cases new : a.mode = 0
  · refine .inl ⟨new, ?_⟩
    by_cases child : a.kind = 1
    · exact ⟨_, newImage?_iff.mpr (.inl ⟨child, rfl⟩)⟩
    · exact ⟨_, newImage?_iff.mpr (.inr ⟨by_contra fun guardian => kind ⟨new, child, guardian⟩, rfl⟩)⟩
  · exact .inr (by bv_omega)

/-- Settles O14: past the arguments the buffer is looked at, and then the slot against the mode. -/
theorem eopenCreatesTheBuffer : Obligations.EopenCreatesTheBuffer := by
  unfold Obligations.EopenCreatesTheBuffer
  refine ⟨fun s a k h isOpen hk empty => ⟨fun image mode hk0 free kind => ?_, fun p mode live => ?_⟩,
    fun s a h isOpen => ⟨fun bad => ?_, fun good busy => ?_, fun k good empty hk misplaced => ?_⟩⟩
  · have run := eopen_new isOpen hk mode (newImage?_iff.mpr kind)
    exact exec_of_owner h rfl (by simp only [run, empty, free, hk0]; rfl)
  · exact exec_of_owner h rfl (by rw [eopen_change isOpen hk mode, empty, live]; rfl)
  · exact exec_of_owner h rfl (eopen_of_bad isOpen bad)
  · obtain ⟨⟨k, hk⟩, ⟨mode, image, kind⟩ | mode⟩ := eopen_modes good
    · exact exec_of_owner h rfl (by rw [eopen_new isOpen hk mode kind, if_pos busy]; rfl)
    · exact exec_of_owner h rfl (by rw [eopen_change isOpen hk mode, if_pos busy]; rfl)
  · rcases misplaced with ⟨mode, taken⟩ | ⟨mode, free⟩
    · obtain ⟨-, ⟨-, image, kind⟩ | change⟩ := eopen_modes good
      · have occupied : (decide (k = 0) || (s.profile? k).isSome) = true := by simpa using taken
        exact exec_of_owner h rfl (by rw [eopen_new isOpen hk mode kind, empty, if_pos occupied]; rfl)
      · rw [mode] at change; cases change
    · exact exec_of_owner h rfl (by rw [eopen_change isOpen hk mode, empty, free]; rfl)

end Sys2Proof.Machine
end

section
/-! PROOFS. The fields of the edit buffer (R18, R19, R20, R27, R28), and O15. -/

namespace Sys2Proof.Machine

/-! ## Which fields there are, and which a kind takes -/

theorem fieldKnown_iff (id : Nat) : fieldKnown id = true ↔ KnownField id := by
  simp only [fieldKnown, KnownField, Bool.or_eq_true, Bool.and_eq_true, decide_eq_true_eq, or_assoc]

theorem KnownField.lt {id : Nat} (h : KnownField id) : id < 256 := by
  unfold KnownField at h; omega

/-- A GUARDIAN takes label and tokens alone, and a GUEST no token (R27). -/
theorem kindTakes_eq_false_iff (kind : Kind) (id : Nat) : kindTakes kind id = false ↔
    (kind = .guardian ∧ 4 ≤ id) ∨ (kind = .guest ∧ (id = 2 ∨ id = 3)) := by
  cases kind <;> simp [kindTakes]
  all_goals omega

/-! ## The value of one field -/

section
variable (v : BitVec 48) (r : Rules)

theorem below_of_eq {n m : Nat} {k : Fin n} (h : m = k.val) : below n m = some k := by
  simp [below, h]

theorem below_of_le {n m : Nat} (h : n ≤ m) : below n m = none := by
  simp [below, h]

theorem setRules_rate (c : Fin 8) : setRules (0x10 + c.val) v r =
    if fieldNumber v ≤ 400 then some { r with rates := r.rates.set c (fieldNumber v) } else none := by
  have rate : below 8 (0x10 + c.val - 0x10) = some c := below_of_eq (by omega)
  unfold setRules
  split
  any_goals omega
  simp only [rate, Nat.le_add_right, decide_true, Bool.true_and, decide_eq_true_eq]

theorem setRules_allowance (d : Fin 7) : setRules (0x20 + d.val) v r =
    if fieldNumber v ≤ 1440 then some { r with allowances := r.allowances.set d (fieldNumber v) } else none := by
  have rate : below 8 (0x20 + d.val - 0x10) = none := below_of_le (by omega)
  have allowance : below 7 (0x20 + d.val - 0x20) = some d := below_of_eq (by omega)
  unfold setRules
  split
  any_goals omega
  simp only [rate, allowance]

theorem setRules_window (q : Fin 4) : setRules (0x30 + q.val) v r =
    (fieldWindow v).map fun w => { r with windows := r.windows.set q w } := by
  have rate : below 8 (0x30 + q.val - 0x10) = none := below_of_le (by omega)
  have allowance : below 7 (0x30 + q.val - 0x20) = none := below_of_le (by omega)
  have window : below 4 (0x30 + q.val - 0x30) = some q := below_of_eq (by omega)
  unfold setRules
  split
  any_goals omega
  simp only [rate, allowance, window]

end

/-- A number that is not 0 is a present token (R28). -/
theorem fieldToken_eq (v : BitVec 48) : fieldToken v =
    if (v.extractLsb' 16 32).toNat = 0 then none else some (v.extractLsb' 16 32) := by
  have h : (v.extractLsb' 16 32).toNat = 0 ↔ v.extractLsb' 16 32 = 0 := (BitVec.toNat_eq (y := 0)).symm
  simp only [fieldToken, h]

theorem fieldWindow_absent {v : BitVec 48} (kind : v.extractLsb' 40 8 = 0) : fieldWindow v = some none := by
  simp [fieldWindow, kind]

/-- A window entry of kind 1 or 2 within the ranges of R20. -/
theorem fieldWindow_present {v : BitVec 48} {kind : WindowKind}
    (code : v.extractLsb' 40 8 = if kind = .allow then 1 else 2)
    (start : (v.extractLsb' 24 16).toNat ≤ 1439) (stop : (v.extractLsb' 8 16).toNat ≤ 1439)
    (days : v.extractLsb' 0 8 ≠ 0) (top : (v.extractLsb' 0 8).msb = false) : fieldWindow v = some (some
      ⟨kind, (v.extractLsb' 24 16).toNat, (v.extractLsb' 8 16).toNat, v.extractLsb' 0 8⟩) := by
  have formed : ∀ kind, Window.wellFormed
      ⟨kind, (v.extractLsb' 24 16).toNat, (v.extractLsb' 8 16).toNat, v.extractLsb' 0 8⟩ = true := by
    intro kind
    unfold Window.wellFormed
    rw [decide_eq_true start, decide_eq_true stop, decide_eq_true days, top]; rfl
  unfold fieldWindow
  cases kind
  · rw [code]; dsimp only; rw [formed]; rfl
  · rw [code]; dsimp only; rw [formed, formed]; rfl

/-- A window entry of another kind, or outside the ranges of R20, is malformed (R28). -/
theorem fieldWindow_malformed {v : BitVec 48} (present : (v.extractLsb' 40 8).toNat ≠ 0)
    (bad : 2 < (v.extractLsb' 40 8).toNat ∨ 1439 < (v.extractLsb' 24 16).toNat
      ∨ 1439 < (v.extractLsb' 8 16).toNat ∨ v.extractLsb' 0 8 = 0 ∨ (v.extractLsb' 0 8).msb = true) :
    fieldWindow v = none := by
  unfold fieldWindow
  rcases bad with kind | bad
  · have ne1 : (v.extractLsb' 40 8).toNat ≠ 1 := by omega
    have ne2 : (v.extractLsb' 40 8).toNat ≠ 2 := by omega
    simp only [if_neg present, if_neg ne1, if_neg ne2]
  · have formed : ∀ kind, Window.wellFormed
        ⟨kind, (v.extractLsb' 24 16).toNat, (v.extractLsb' 8 16).toNat, v.extractLsb' 0 8⟩ = false := by
      intro kind
      unfold Window.wellFormed
      rcases bad with start | stop | days | top
      · rw [decide_eq_false (Nat.not_le.mpr start)]; rfl
      · rw [decide_eq_false (Nat.not_le.mpr stop), Bool.and_false]; rfl
      · rw [decide_eq_false (not_not.mpr days), Bool.and_false]; rfl
      · rw [top]; exact Bool.and_false _
    simp only [if_neg present, formed, Bool.false_eq_true, if_false, ite_self]

/-! ## One field of a record -/

theorem setField_judged_ident {id : Nat} {v : BitVec 48} {w w' : Ident} (low : id ≤ 3)
    (h : setIdent id v w = some w') (guest : Bool) (r : Rules) :
    setField id v (judgedRecord guest w r) = some (judgedRecord guest w' r) := by
  cases guest <;> simp [setField, judgedRecord, Profile.who, low, h]

theorem setField_guardian {id : Nat} {v : BitVec 48} {w w' : Ident} (low : id ≤ 3)
    (h : setIdent id v w = some w') : setField id v (.guardian w) = some (.guardian w') := by
  simp [setField, Profile.who, low, h]

theorem setField_judged_rules {id : Nat} {v : BitVec 48} {r r' : Rules} (high : 3 < id)
    (h : setRules id v r = some r') (guest : Bool) (w : Ident) :
    setField id v (judgedRecord guest w r) = some (judgedRecord guest w r') := by
  cases guest <;> simp [setField, judgedRecord, Nat.not_le.mpr high, h]

theorem setField_eq_none {id : Nat} {v : BitVec 48} (high : 3 < id) (h : ∀ r, setRules id v r = none) (p : Profile) :
    setField id v p = none := by
  cases p <;> simp [setField, Nat.not_le.mpr high, h]

/-- A value out of its field's range is taken by no record (R18, R27, R28). -/
theorem setField_of_outOfRange {id : Nat} {v : BitVec 48} (h : OutOfRange id v) (p : Profile) :
    setField id v p = none := by
  unfold OutOfRange at h
  dsimp only at h
  rw [← fieldNumber] at h
  have single : ∀ {limit : Nat} {set : Rules → Option Rules}, limit < fieldNumber v → 3 < id →
      (∀ r, setRules id v r = if fieldNumber v ≤ limit then set r else none) → setField id v p = none :=
    fun big high run => setField_eq_none high (fun r => (run r).trans (if_neg (Nat.not_le.mpr big))) p
  rcases h with ⟨rfl, big⟩ | ⟨rfl | rfl | rfl, big⟩ | ⟨rfl, big⟩ | ⟨lo, hi, big⟩ | ⟨lo, hi, big⟩ | ⟨rfl, big⟩
    | ⟨rfl | rfl, big⟩ | ⟨rfl, big, odd⟩ | ⟨rfl, out⟩ | ⟨rfl, big⟩ | ⟨lo, hi, present, bad⟩
  · have label : ∀ w, setIdent 0x01 v w = none := fun w => if_neg (Nat.not_le.mpr big)
    simp [setField, label]
  · exact single big (by decide) fun _ => rfl
  · exact single big (by decide) fun _ => rfl
  · exact single big (by decide) fun _ => rfl
  · exact single big (by decide) fun _ => rfl
  · obtain ⟨c, rfl⟩ : ∃ c : Fin 8, id = 0x10 + c.val := ⟨⟨id - 0x10, by omega⟩, by dsimp only; omega⟩
    exact single big (by omega) (setRules_rate v · c)
  · obtain ⟨d, rfl⟩ : ∃ d : Fin 7, id = 0x20 + d.val := ⟨⟨id - 0x20, by omega⟩, by dsimp only; omega⟩
    exact single big (by omega) (setRules_allowance v · d)
  · exact single big (by decide) fun _ => rfl
  · exact single big (by decide) fun _ => rfl
  · exact single big (by decide) fun _ => rfl
  · exact single big (by decide) fun _ => (if_congr Iff.rfl rfl (if_neg odd))
  · have outside : ¬ (decide (5 ≤ fieldNumber v) && decide (fieldNumber v ≤ 60)) = true := by
      rw [Bool.and_eq_true, decide_eq_true_eq, decide_eq_true_eq]; omega
    exact setField_eq_none (id := 0x39) (by decide) (fun r => if_neg outside) p
  · exact single big (by decide) fun _ => rfl
  · obtain ⟨q, rfl⟩ : ∃ q : Fin 4, id = 0x30 + q.val := ⟨⟨id - 0x30, by omega⟩, by dsimp only; omega⟩
    exact setField_eq_none (by omega) (fun r => by rw [setRules_window, fieldWindow_malformed present bad]; rfl) p

/-- Only a known field has a range, and none of a token's is left (R18). -/
theorem OutOfRange.known {id : Nat} {v : BitVec 48} (h : OutOfRange id v) : KnownField id ∧ id ≠ 2 ∧ id ≠ 3 := by
  unfold OutOfRange at h
  unfold KnownField
  dsimp only at h
  omega

/-! ## eset -/

/-- The checks of **eset** past the buffer, in their order (R27). -/
theorem eset_of_buffer {s : State} {b : EditBuffer} (hb : s.edit = some b) {id : Nat} (hid : id < 256)
    (v : BitVec 48) : eset (.fields ⟨BitVec.ofNat 8 id, v⟩) s =
      if fieldKnown id = false then (s, refuse .badArgument)
      else if kindTakes b.image.kind id = false then (s, refuse .state)
      else (setField id v b.image).elim (s, refuse .badArgument) fun image =>
        ({ s with edit := some { b with image := image } },
          ok (BitVec.ofNat 8 id :: valueBytes (echoValue id v))) := by
  have field : (BitVec.ofNat 8 id).toNat = id := Nat.mod_eq_of_lt hid
  simp only [eset, hb, withFields_fields, field, Bool.not_eq_true']
  cases setField id v b.image <;> rfl

theorem setsField_of {s : State} {b : EditBuffer} (hb : s.edit = some b) {id : Nat} (known : fieldKnown id = true)
    (takes : kindTakes b.image.kind id = true) {v echo : BitVec 48} (he : echoValue id v = echo) {p : Profile}
    (hp : setField id v b.image = some p) : SetsField s b id v echo p := by
  refine fun h => exec_of_owner h rfl ?_
  rw [eset_of_buffer hb ((fieldKnown_iff id).mp known).lt, known, takes, hp, he]; rfl

theorem judgedRecord_takes {guest : Bool} {id : Nat} (h : guest = false ∨ (id ≠ 2 ∧ id ≠ 3)) (w : Ident)
    (r : Rules) : kindTakes (judgedRecord guest w r).kind id = true := by
  cases guest
  · rfl
  · simpa [judgedRecord, Profile.kind, kindTakes] using h

/-! ## The echo -/

theorem echo_of_ne {id : Nat} (h : id ≠ 6) (v : BitVec 48) : echoValue id v = v := if_neg h

/-- A value whose number is one byte has no bits above that byte (11.6). -/
theorem echo_of_byte {v : BitVec 48} (h : fieldNumber v ≤ 255) : echoValue 6 v = v := by
  have low : v.toNat < 2 ^ 24 := by
    rw [fieldNumber, BitVec.extractLsb'_toNat, Nat.shiftRight_eq_div_pow] at h
    omega
  refine BitVec.eq_of_toNat_eq ?_
  show (v &&& 0xFFFFFF).toNat = v.toNat
  rw [BitVec.toNat_and]
  exact Nat.and_two_pow_sub_one_of_lt_two_pow low

/-! ## The buffer of a CHILD or a GUEST -/

section
variable {s : State} {k : Fin 16} {isNew guest : Bool} {w : Ident} {r : Rules}
  (hb : s.edit = some ⟨k, isNew, judgedRecord guest w r⟩) {id : Nat} {v echo : BitVec 48}
include hb

/-- A field beyond label and tokens. -/
theorem setsField_rules (known : fieldKnown id = true) (high : 3 < id) (he : echoValue id v = echo) {r' : Rules}
    (hr : setRules id v r = some r') :
    SetsField s ⟨k, isNew, judgedRecord guest w r⟩ id v echo (judgedRecord guest w r') :=
  setsField_of hb known (judgedRecord_takes (.inr (by omega)) w r) he (setField_judged_rules high hr guest w)

/-- The label, or a token of a CHILD. -/
theorem setsField_ident (known : fieldKnown id = true) (low : id ≤ 3) (token : guest = false ∨ (id ≠ 2 ∧ id ≠ 3))
    {w' : Ident} (hw : setIdent id v w = some w') :
    SetsField s ⟨k, isNew, judgedRecord guest w r⟩ id v v (judgedRecord guest w' r) :=
  setsField_of hb known (judgedRecord_takes token w r) (echo_of_ne (by omega) v) (setField_judged_ident low hw guest r)

end

/-- Settles O15: each field is one case of the setter, and past the buffer the checks come in the order of R27. -/
theorem esetSetsOneField : Obligations.EsetSetsOneField := by
  unfold Obligations.EsetSetsOneField
  refine ⟨fun s k isNew guest w r v => ?_, fun s k isNew w v => ?_,
    fun s id v hid => ⟨fun empty h => ?_, fun b hb => ⟨fun unknown h => ?_, fun known untaken h => ?_,
      fun takes bad h => ?_⟩⟩⟩
  · intro b hb n token sets put
    have rules : ∀ {id : Nat} {r' : Rules}, fieldKnown id = true → 3 < id → id ≠ 6 → setRules id v r = some r' →
        sets id w r' := fun known high ne hr => setsField_rules hb known high (echo_of_ne ne v) hr
    have rate : ∀ c : Fin 8, fieldKnown (0x10 + c.val) = true := by decide
    have allowance : ∀ d : Fin 7, fieldKnown (0x20 + d.val) = true := by decide
    have window : ∀ q : Fin 4, fieldKnown (0x30 + q.val) = true := by decide
    have toWindow : ∀ (q : Fin 4) (x : Option Window), fieldWindow v = some x → sets (0x30 + q.val) w (put q x) :=
      fun q x hx => rules (window q) (by omega) (by omega) (by rw [setRules_window, hx]; rfl)
    refine ⟨fun label => setsField_ident hb rfl (by decide) (.inr (by decide)) (if_pos label),
      fun child => ⟨?_, ?_⟩,
      fun level => ⟨rules rfl (by decide) (by decide) (if_pos level), rules rfl (by decide) (by decide) (if_pos level),
        rules rfl (by decide) (by decide) (if_pos level)⟩,
      fun byte => setsField_rules hb rfl (by decide) (echo_of_byte byte) rfl,
      fun _ => setsField_rules hb rfl (by decide) rfl ?_,
      fun relief => rules rfl (by decide) (by decide) (if_pos relief),
      fun c small => rules (rate c) (by omega) (by omega) (by rw [setRules_rate]; exact if_pos small),
      fun d small => rules (allowance d) (by omega) (by omega) (by rw [setRules_allowance]; exact if_pos small),
      fun flag => rules rfl (by decide) (by decide) (if_pos flag),
      fun minutes => ⟨rules rfl (by decide) (by decide) (if_pos minutes),
        rules rfl (by decide) (by decide) (if_pos minutes)⟩,
      fun q absent => toWindow q none (fieldWindow_absent absent),
      fun q kind code start stop days top => toWindow q _ (fieldWindow_present code start stop days top),
      fun tier => rules rfl (by decide) (by decide) (if_pos tier),
      fun noTier => rules rfl (by decide) (by decide) ?_,
      fun low high => rules rfl (by decide) (by decide) (if_pos ?_),
      fun draws => rules rfl (by decide) (by decide) (if_pos draws)⟩
    · exact setsField_ident hb rfl (by decide) (.inl child) (by rw [setIdent, fieldToken_eq])
    · exact setsField_ident hb rfl (by decide) (.inl child) (by rw [setIdent, fieldToken_eq])
    · have wraps : BitVec.ofNat 8 (n % 256) = BitVec.ofNat 8 n := BitVec.eq_of_toNat_eq (by simp)
      rw [wraps]; rfl
    · exact (if_neg (show ¬ n ≤ 3 by omega)).trans (if_pos noTier)
    · rw [Bool.and_eq_true]; exact ⟨decide_eq_true low, decide_eq_true high⟩
  · intro b hb n token
    refine ⟨fun label => ?_, ?_, ?_⟩
    · exact setsField_of hb rfl rfl rfl (setField_guardian (by decide) (if_pos label))
    · exact setsField_of hb rfl rfl rfl (setField_guardian (by decide) (by rw [setIdent, fieldToken_eq]))
    · exact setsField_of hb rfl rfl rfl (setField_guardian (by decide) (by rw [setIdent, fieldToken_eq]))
  · exact exec_of_owner h rfl (by rw [eset, empty]; rfl)
  · have unknown' : fieldKnown id = false := by rwa [← Bool.not_eq_true, fieldKnown_iff]
    exact exec_of_owner h rfl (by rw [eset_of_buffer hb hid, if_pos unknown']; rfl)
  · have known' := (fieldKnown_iff id).mpr known
    have untaken' := (kindTakes_eq_false_iff b.image.kind id).mpr untaken
    exact exec_of_owner h rfl (by rw [eset_of_buffer hb hid, known', untaken']; rfl)
  · have known := (fieldKnown_iff id).mpr bad.known.1
    have taken : kindTakes b.image.kind id = true := by
      rw [← Bool.not_eq_false, kindTakes_eq_false_iff]
      obtain ⟨-, ne2, ne3⟩ := bad.known
      have label : b.image.kind = .guardian → id = 1 := takes.resolve_left ∘ not_not.mpr
      rintro (⟨guardian, high⟩ | ⟨-, token⟩)
      · have := label guardian; omega
      · omega
    exact exec_of_owner h rfl (by
      rw [eset_of_buffer hb hid, known, taken, setField_of_outOfRange bad]; rfl)

end Sys2Proof.Machine
end

section
/-! SUPPORT. What no evaluation, wait or draw writes: the used meters and the minutes topped up (R89, R108, R123). -/

namespace Sys2Proof.Machine

/-- Every used meter and the day's top-ups are what they were. -/
def UsedKept (s t : State) : Prop :=
  (∀ k : Fin 16, t.meters[k].used = s.meters[k].used) ∧ t.pool.toppedUp = s.pool.toppedUp

theorem UsedKept.of_eq {s t : State} (meters : t.meters = s.meters) (pool : t.pool = s.pool) : UsedKept s t :=
  ⟨fun k => by rw [meters], by rw [pool]⟩

theorem UsedKept.refl (s : State) : UsedKept s s := .of_eq rfl rfl

theorem UsedKept.trans {s t u : State} (h : UsedKept s t) (h' : UsedKept t u) : UsedKept s u :=
  ⟨fun k => (h'.1 k).trans (h.1 k), h'.2.trans h.2⟩

theorem UsedKept.foldl {α : Type} {f : State → α → State} (hf : ∀ s a, UsedKept s (f s a)) (l : List α)
    (s : State) : UsedKept s (l.foldl f s) := by
  induction l generalizing s with
  | nil => exact .refl s
  | cons a l ih => exact (hf s a).trans (ih _)

/-- A meter record that takes draws or the wind-down flag keeps what is used. -/
theorem UsedKept.setMeter {s t : State} {k : Fin 16} {m : Meter} (meters : t.meters = s.meters.set k m)
    (used : m.used = s.meters[k].used) (pool : t.pool.toppedUp = s.pool.toppedUp) : UsedKept s t := by
  refine ⟨fun k' => ?_, pool⟩
  rw [meters]
  by_cases h : k' = k
  · subst h
    have : (s.meters.set k' m)[k'] = m := Vector.getElem_set_self ..
    rw [this, used]
  · have : (s.meters.set k m)[k'] = s.meters[k'] :=
      Vector.getElem_set_ne (hi := k.isLt) (hj := k'.isLt) fun e => h (Fin.ext e.symm)
    rw [this]

theorem raiseRequest_meters (s : State) (k : Fin 16) : (s.raiseRequest k).meters = s.meters := by
  unfold State.raiseRequest; dsimp only
  split
  · rfl
  · split <;> rfl

theorem raiseRequest_pool (s : State) (k : Fin 16) : (s.raiseRequest k).pool = s.pool := by
  unfold State.raiseRequest; dsimp only
  split
  · rfl
  · split <;> rfl

theorem UsedKept.raiseRequest (s : State) (k : Fin 16) : UsedKept s (s.raiseRequest k) :=
  .of_eq (raiseRequest_meters s k) (raiseRequest_pool s k)

/-! ## Evaluation -/

/-- What an evaluation does to the state: nothing, or the profile's request is raised (R80). -/
theorem judge_cases (s : State) (p : Programme) (g w : Bool) (e : Entry) :
    (s.judge p g w e).1 = s ∨ (s.judge p g w e).1 = s.raiseRequest e.slot := by
  unfold State.judge; split
  · exact .inl rfl
  · split
    · dsimp only
      generalize State.evaluate _ _ _ _ _ _ = v
      split
      · exact .inr rfl
      · exact .inl rfl
    · exact .inl rfl

theorem UsedKept.judge (s : State) (p : Programme) (g w : Bool) (e : Entry) : UsedKept s (s.judge p g w e).1 := by
  rcases judge_cases s p g w e with h | h <;> rw [h]
  · exact .refl s
  · exact .raiseRequest ..

theorem UsedKept.judgeAll (p : Programme) (g w : Bool) (sel : Entry → Bool) (s : State) (es : List Entry) :
    UsedKept s (State.judgeAll p g w sel s es).1 := by
  induction es generalizing s with
  | nil => exact .refl s
  | cons e es ih =>
    unfold State.judgeAll; dsimp only; split
    · exact (UsedKept.judge s p g w e).trans (ih _)
    · exact ih s

theorem UsedKept.reevalSeat (w : Bool) (sel : Entry → Bool) (s : State) (j : Fin 6) :
    UsedKept s (s.reevalSeat w sel j) := by
  unfold State.reevalSeat; split
  · exact .refl s
  · exact (UsedKept.judgeAll ..).trans (.of_eq rfl rfl)

theorem UsedKept.reeval (s : State) (sel : Entry → Bool) : UsedKept s (s.reeval sel) :=
  .foldl (.reevalSeat true sel) _ s

theorem UsedKept.dropEntry (k : Fin 16) (s : State) (j : Fin 6) : UsedKept s (s.dropEntry k j) := by
  unfold State.dropEntry; dsimp only; split
  · split
    · exact UsedKept.trans (.of_eq rfl rfl) (.reevalSeat ..)
    · exact .of_eq rfl rfl
  · exact .refl s

theorem UsedKept.rederiveSeat (k : Fin 8) (s : State) (j : Fin 6) : UsedKept s (s.rederiveSeat k j) := by
  rw [rederiveSeat_eq]; split
  · exact UsedKept.trans (.of_eq rfl rfl) (.reevalSeat ..)
  · exact .refl s

/-! ## Exhaustion, waits and draws -/

theorem UsedKept.windDownOrDeny (s : State) (k : Fin 16) (sel : Seat → Entry → Bool) :
    UsedKept s (s.windDownOrDeny k sel) := by
  unfold State.windDownOrDeny; dsimp only; split
  · exact .setMeter rfl rfl rfl
  · exact .of_eq rfl rfl

theorem UsedKept.exhaustionCheck (s : State) (k : Fin 16) : UsedKept s (s.exhaustionCheck k) := by
  unfold State.exhaustionCheck State.exhaust; dsimp only; split
  · split
    · exact .of_eq rfl rfl
    · split
      · exact (UsedKept.raiseRequest s k).trans (.of_eq rfl rfl)
      · exact .windDownOrDeny ..
  · exact .refl s

theorem UsedKept.afterDecrease (s before : State) (k : Fin 16) : UsedKept s (s.afterDecrease before k) := by
  unfold State.afterDecrease; split
  · exact .exhaustionCheck s k
  · exact .refl s

theorem UsedKept.endOfWait (s : State) (k : Fin 16) : UsedKept s (s.endOfWait k) := by
  unfold State.endOfWait; split
  · split
    · exact .reeval ..
    · exact .windDownOrDeny ..
  · exact .refl s

/-- The credit of a draw is a change of D and of the draw count (R108). -/
theorem UsedKept.creditDraw (s : State) (k : Fin 16) (g : Nat) : UsedKept s (s.creditDraw k g) := by
  unfold State.creditDraw; dsimp only
  refine UsedKept.trans (t := { s with
    meters := s.meters.set k { s.meters[k] with drawn := s.meters[k].drawn + g, draws := s.meters[k].draws + 1 },
    meterDirty := true }) (.setMeter rfl rfl rfl) ?_
  split
  · exact .reeval ..
  · split
    · exact .raiseRequest ..
    · exact .windDownOrDeny ..

/-- A draw moves minutes from P to D, and tops nothing up (R129). -/
theorem UsedKept.drawFor (s : State) (r : Request) : UsedKept s (s.drawFor r) := by
  unfold State.drawFor; dsimp only
  refine UsedKept.trans ?_ (UsedKept.creditDraw ..)
  exact ⟨fun _ => rfl, rfl⟩

theorem UsedKept.draws (fuel : Nat) (s : State) : UsedKept s (State.draws fuel s).1 := by
  induction fuel generalizing s with
  | zero => exact .refl s
  | succ n ih =>
    unfold State.draws; split
    · exact .refl s
    · split
      · exact .refl s
      · exact (UsedKept.drawFor s _).trans (ih _)

theorem UsedKept.opportunity (s : State) : UsedKept s s.opportunity.1 := by
  unfold State.opportunity; dsimp only; split
  · exact (UsedKept.draws ..).trans (.of_eq rfl rfl)
  · exact .draws ..

theorem UsedKept.noteSeats (before s : State) : UsedKept s (State.noteSeats before s) := by
  rw [noteSeats_eq]; exact .of_eq rfl rfl

/-- The end of an event uses nothing and tops nothing up (R46, R60, R128). -/
theorem UsedKept.settled (s before : State) (offered : Bool) : UsedKept s (s.settled before offered) := by
  unfold State.settled State.settle State.settleWaits; dsimp only
  refine UsedKept.trans (t := s.releaseWaits) (.of_eq rfl rfl) ?_
  split
  · exact (UsedKept.opportunity ..).trans (.noteSeats ..)
  · exact .noteSeats ..

end Sys2Proof.Machine
end

section
/-! PROOFS. The checks of a commit (R29), what a change leaves of the part (R31, R32, R102), and O16. -/

namespace Sys2Proof.Machine

/-! ## The checks -/

/-- A NEW record or a changed one needs a primary token, unless it is a GUEST's (R29). -/
def Tokenless (b : EditBuffer) : Prop := b.image.kind ≠ .guest ∧ b.image.who.primary = none

/-- The two tokens of a record are one (R29). -/
def TwinTokens (b : EditBuffer) : Prop :=
  b.image.who.secondary.isSome = true ∧ b.image.who.secondary = b.image.who.primary

/-- Another LIVE slot holds a token of the record (R29). -/
def State.HoldsTokenOf (s : State) (b : EditBuffer) (j : Fin 16) : Prop :=
  j ≠ b.slot ∧ ∃ p t, s.profile? j = some p
    ∧ (b.image.who.primary = some t ∨ b.image.who.secondary = some t) ∧ p.holdsToken t = true

/-- The window at a position is present and empty: its start is its end (R29). -/
def EmptyWindow (b : EditBuffer) (q : Fin 4) : Prop :=
  ∃ r x, b.image.rules? = some r ∧ r.windows[q] = some x ∧ x.start = x.stop

theorem holder?_spec {s : State} {k j : Fin 16} {t : Word} (h : s.holder? k t = some j) :
    j ≠ k ∧ ∃ p, s.profile? j = some p ∧ p.holdsToken t = true := by
  have found := List.find?_some h
  simpa [Option.any_eq_true] using found

theorem holder?_eq_none {s : State} {k : Fin 16} {t : Word} (h : s.holder? k t = none) (j : Fin 16) (ne : j ≠ k)
    {p : Profile} (hp : s.profile? j = some p) : p.holdsToken t = false := by
  have missed := List.find?_eq_none.mp h j (List.mem_finRange j)
  simpa [ne, hp] using missed

/-- CONFLICT names one of the two holders (R29; which of them is free, assumption 13). -/
theorem conflict?_eq_some {s : State} {k j : Fin 16} {w : Ident} (h : s.conflict? k w = some j) :
    w.primary.bind (s.holder? k) = some j ∨ w.secondary.bind (s.holder? k) = some j := by
  unfold State.conflict? at h
  split at h
  next => cases h
  next hp _ => exact .inl (hp.trans h)
  next _ hs => exact .inr (hs.trans h)
  next hp hs =>
    split at h
    · exact .inl (hp.trans h)
    · split at h
      · exact .inr (hs.trans h)
      · exact .inl (hp.trans h)

theorem conflict?_eq_none {s : State} {k : Fin 16} {w : Ident} (h : s.conflict? k w = none) :
    w.primary.bind (s.holder? k) = none ∧ w.secondary.bind (s.holder? k) = none := by
  unfold State.conflict? at h
  split at h
  next hp hs => exact ⟨hp, hs⟩
  next => cases h
  next => cases h
  next =>
    split at h
    · cases h
    · split at h <;> cases h

/-- The slot that CONFLICT names holds a token of the record. -/
theorem holdsTokenOf_of_conflict {s : State} {b : EditBuffer} {j : Fin 16}
    (h : s.conflict? b.slot b.image.who = some j) : s.HoldsTokenOf b j := by
  have of_token : ∀ {o : Option Word}, o.bind (s.holder? b.slot) = some j →
      (∀ t, o = some t → b.image.who.primary = some t ∨ b.image.who.secondary = some t) → s.HoldsTokenOf b j := by
    intro o held own
    obtain ⟨t, ht, found⟩ := Option.bind_eq_some_iff.mp held
    obtain ⟨ne, p, hp, holds⟩ := holder?_spec found
    exact ⟨ne, p, t, hp, own t ht, holds⟩
  rcases conflict?_eq_some h with held | held
  · exact of_token held fun t ht => .inl ht
  · exact of_token held fun t ht => .inr ht

/-- With no CONFLICT no other LIVE slot holds a token of the record. -/
theorem not_holdsTokenOf {s : State} {b : EditBuffer} (h : s.conflict? b.slot b.image.who = none) (j : Fin 16) :
    ¬ s.HoldsTokenOf b j := by
  rintro ⟨ne, p, t, hp, own, holds⟩
  obtain ⟨primary, secondary⟩ := conflict?_eq_none h
  have unheld : s.holder? b.slot t = none := by
    rcases own with own | own
    · simpa [own] using primary
    · simpa [own] using secondary
  rw [holder?_eq_none unheld j ne hp] at holds
  cases holds

theorem emptyWindow_iff {b : EditBuffer} {r : Rules} (hr : b.image.rules? = some r) (q : Fin 4) :
    EmptyWindow b q ↔ (r.windows[q].any fun x => decide (x.start = x.stop)) = true := by
  simp only [EmptyWindow, hr, Option.some.injEq, exists_and_left, exists_eq_left', Option.any_eq_true,
    decide_eq_true_eq]

/-- The lowest empty window (R29). -/
theorem badWindow?_eq_some {b : EditBuffer} {q : Fin 4} (h : EmptyWindow b q) (first : ∀ q' < q, ¬ EmptyWindow b q') :
    badWindow? b.image = some q.val := by
  obtain ⟨r, x, hr, -⟩ := id h
  rw [badWindow?, hr, Option.bind_some, List.findIdx?_eq_some_iff_getElem]
  refine ⟨by simp, (emptyWindow_iff hr q).mp h, fun i hi => ?_⟩
  exact fun bad => first ⟨i, by omega⟩ hi ((emptyWindow_iff hr ⟨i, by omega⟩).mpr bad)

theorem badWindow?_eq_none_iff {b : EditBuffer} : badWindow? b.image = none ↔ ∀ q, ¬ EmptyWindow b q := by
  refine ⟨fun h q empty => ?_, fun h => ?_⟩
  · obtain ⟨r, x, hr, -⟩ := id empty
    rw [badWindow?, hr, Option.bind_some, List.findIdx?_eq_none_iff] at h
    have good := h r.windows[q] (by rw [Vector.mem_toList_iff]; exact Vector.getElem_mem q.isLt)
    rw [(emptyWindow_iff hr q).mp empty] at good
    cases good
  · rw [badWindow?, Option.bind_eq_none_iff]
    intro r hr
    rw [List.findIdx?_eq_none_iff]
    intro w hw
    rw [Vector.mem_toList_iff, Vector.mem_iff_getElem] at hw
    obtain ⟨i, hi, rfl⟩ := hw
    exact Bool.eq_false_of_not_eq_true fun bad => h ⟨i, hi⟩ ((emptyWindow_iff hr ⟨i, hi⟩).mpr bad)

/-! ## The order of the checks -/

section
variable {s : State} {b : EditBuffer}

theorem commitRefusal?_of_tokenless (h : Tokenless b) : s.commitRefusal? b = some ⟨.invalidRecord, [0x02]⟩ := by
  obtain ⟨kind, primary⟩ := h
  simp [State.commitRefusal?, kind, primary]

theorem commitRefusal?_of_twins (h : TwinTokens b) :
    s.commitRefusal? b = some ⟨.invalidRecord, [0x03]⟩ := by
  obtain ⟨present, same⟩ := h
  have some_primary : b.image.who.primary.isSome = true := same ▸ present
  unfold State.commitRefusal?
  rw [if_neg (by simp [Option.isSome_iff_ne_none.mp some_primary]), if_pos (by simp [same, some_primary])]

/-- Past the record's own tokens those of the other profiles are looked at, and then the windows (R29). -/
theorem commitRefusal?_of_tokens (token : ¬ Tokenless b) (twins : ¬ TwinTokens b) : s.commitRefusal? b =
    (s.conflict? b.slot b.image.who).elim ((badWindow? b.image).map fun q => ⟨.invalidRecord, be1 q⟩)
      fun j => some ⟨.conflict, be1 j.val⟩ := by
  unfold Tokenless at token
  unfold TwinTokens at twins
  unfold State.commitRefusal?
  rw [if_neg (by simpa using token), if_neg (by simpa using twins)]
  cases s.conflict? b.slot b.image.who <;> rfl

/-- What R29 asks, check by check. -/
theorem mayCommit_iff : MayCommit s b ↔
    ¬ Tokenless b ∧ ¬ TwinTokens b ∧ (∀ j, ¬ s.HoldsTokenOf b j) ∧ ∀ q, ¬ EmptyWindow b q := by
  refine and_congr ?_ (and_congr ?_ (and_congr ?_ ?_))
  · unfold Tokenless
    rw [not_and, ← Ne, ← Option.isSome_iff_ne_none]
  · unfold TwinTokens
    rw [not_and]
  · unfold State.HoldsTokenOf
    refine ⟨fun h j ⟨ne, p, t, hp, own, holds⟩ => ?_, fun h j p t ne hp own => ?_⟩
    · rw [h j p t ne hp own] at holds; cases holds
    · exact Bool.eq_false_of_not_eq_true fun holds => h j ⟨ne, p, t, hp, own, holds⟩
  · unfold EmptyWindow
    refine ⟨fun h q ⟨r, x, hr, hx, same⟩ => ?_, fun h r hr w hw x hx same => ?_⟩
    · exact h r hr r.windows[q] (by rw [Vector.mem_toList_iff]; exact Vector.getElem_mem q.isLt) x hx same
    · rw [Vector.mem_toList_iff, Vector.mem_iff_getElem] at hw
      obtain ⟨i, hi, rfl⟩ := hw
      exact h ⟨i, hi⟩ ⟨r, x, hr, hx, same⟩

theorem commitRefusal?_eq_none_iff : s.commitRefusal? b = none ↔ MayCommit s b := by
  rw [mayCommit_iff]
  by_cases token : Tokenless b
  · simp [commitRefusal?_of_tokenless token, token]
  by_cases twins : TwinTokens b
  · simp [commitRefusal?_of_twins twins, twins]
  rw [commitRefusal?_of_tokens token twins]
  cases hc : s.conflict? b.slot b.image.who with
  | none => simp [token, twins, not_holdsTokenOf hc, badWindow?_eq_none_iff]
  | some j =>
    have held : ¬ ∀ j, ¬ s.HoldsTokenOf b j := fun h => h j (holdsTokenOf_of_conflict hc)
    simp only [Option.elim_some, held, false_and, and_false, reduceCtorEq]

theorem commitRefusal?_status {reply : Reply} (h : s.commitRefusal? b = some reply) :
    reply.status ∈ [Status.invalidRecord, Status.conflict] := by
  by_cases token : Tokenless b
  · rw [commitRefusal?_of_tokenless token] at h
    cases h; decide
  by_cases twins : TwinTokens b
  · rw [commitRefusal?_of_twins twins] at h
    cases h; decide
  rw [commitRefusal?_of_tokens token twins] at h
  cases hc : s.conflict? b.slot b.image.who with
  | none =>
    rw [hc] at h
    obtain ⟨q, -, rfl⟩ := Option.map_eq_some_iff.mp h
    exact .head _
  | some j =>
    rw [hc] at h
    cases h; exact .tail _ (.head _)

end

/-! ## A change -/

section
variable (s : State) (b : EditBuffer)

/-- The part with the record replaced, before its meter and its entries are looked at (R31). -/
def State.changed : State := { s with
  slots := s.slots.set b.slot (.live b.image), edit := none
  store := { s.store with queue := s.queueWith [profileBlock b.slot] } }

/-- The exhaustion event that a budget decrease takes at once (R102). -/
def State.decreased : State := (s.changed b).afterDecrease s b.slot

theorem installChange_eq : s.installChange b = ((s.decreased b).reeval (ofProfile b.slot)).settled s false := by
  unfold State.installChange; dsimp only
  rw [State.commit_queueWith]; rfl

theorem installChange_work : SeatWork (s.changed b) (s.installChange b) := by
  rw [installChange_eq]
  exact (SeatWork.afterDecrease ..).trans ((SeatWork.reeval ..).trans (.settled ..))

theorem installChange_used : UsedKept s (s.installChange b) := by
  rw [installChange_eq]
  exact UsedKept.trans (.of_eq rfl rfl)
    ((UsedKept.afterDecrease (s.changed b) s b.slot).trans ((UsedKept.reeval ..).trans (.settled ..)))

end

theorem raiseRequest_prefix (s : State) (k : Fin 16) : s.requests <+: (s.raiseRequest k).requests := by
  unfold State.raiseRequest; dsimp only
  split
  · exact List.prefix_rfl
  · split <;> exact List.prefix_append ..

/-- What a budget decrease does takes no request off the queue (R102, R104). -/
theorem afterDecrease_prefix (s before : State) (k : Fin 16) :
    s.requests <+: (s.afterDecrease before k).requests := by
  unfold State.afterDecrease State.exhaustionCheck State.exhaust State.windDownOrDeny; dsimp only
  split
  · split
    · split
      · exact List.prefix_rfl
      · split
        · exact raiseRequest_prefix s k
        · split <;> exact List.prefix_rfl
    · exact List.prefix_rfl
  · exact List.prefix_rfl

theorem installChange_rejudges (s : State) (b : EditBuffer) :
    Rejudges s (s.decreased b) (s.installChange b) true fun _ e => decide (e.slot = b.slot) := by
  rw [installChange_eq]
  intro quiet
  have quiet_before : s.requests = [] :=
    List.prefix_nil.mp (quiet ▸ afterDecrease_prefix (s.changed b) s b.slot)
  exact rejudges_reeval s (s.decreased b) (ofProfile b.slot) false (quiet_before.trans quiet.symm) quiet

/-! ## ecommit -/

theorem ecommit_of_buffer {s : State} {b : EditBuffer} (hb : s.edit = some b) : ecommit (.fields ()) s =
    (s.commitRefusal? b).elim
      (if b.isNew then (s.installNew b, ok (be1 b.slot.val))
        else (s.installChange b, ok (be1 b.slot.val ++ be1 (s.countEntries (ofProfile b.slot)))))
      fun reply => (s, reply) := by
  simp only [ecommit, hb, withFields_fields]
  cases s.commitRefusal? b <;> rfl

/-- Settles O16: a record that passes every check is installed, and any other is refused by the first that it
fails. -/
theorem ecommitInstallsTheRecord : Obligations.EcommitInstallsTheRecord := by
  unfold Obligations.EcommitInstallsTheRecord
  refine ⟨fun s h empty => exec_of_owner h rfl (by rw [ecommit, empty]; rfl), fun s b h hb => ?_⟩
  intro i who tokenless twins holds empty refused
  have refused_of : ∀ {reply : Reply}, s.commitRefusal? b = some reply → refused reply.status reply.payload :=
    fun hr => exec_of_owner h rfl (by rw [ecommit_of_buffer hb, hr]; rfl)
  refine ⟨fun admitted new => ?_, fun admitted change => ?_, fun denied => ?_,
    fun token => refused_of (commitRefusal?_of_tokenless token),
    fun _ twin => refused_of (commitRefusal?_of_twins twin),
    fun token twin ⟨j, held⟩ => ?_, fun token twin free q bad first => ?_⟩
  · exact exec_of_owner h rfl (by
      rw [ecommit_of_buffer hb, commitRefusal?_eq_none_iff.mpr admitted, new]; rfl)
  · have work := installChange_work s b
    refine ⟨_, exec_of_owner h rfl (by
      rw [ecommit_of_buffer hb, commitRefusal?_eq_none_iff.mpr admitted, change]; rfl), replied_holds .., ?_, ?_,
      (installChange_used s b).1, ?_, s.decreased b, ?_, ?_⟩
    · exact work.slots
    · exact congrArg Store.queue work.store
    · exact work.replied ..
    · exact afterDecrease_fell s (s.changed b) b.slot rfl
    · exact Rejudges.replied (installChange_rejudges s b) _ _ _
  · cases hr : s.commitRefusal? b with
    | none => exact absurd (commitRefusal?_eq_none_iff.mp hr) denied
    | some reply => exact ⟨_, _, commitRefusal?_status hr, refused_of hr⟩
  · cases hc : s.conflict? b.slot b.image.who with
    | none => exact absurd held (not_holdsTokenOf hc j)
    | some i => exact ⟨i, holdsTokenOf_of_conflict hc,
        refused_of (by rw [commitRefusal?_of_tokens token twin, hc]; rfl)⟩
  · cases hc : s.conflict? b.slot b.image.who with
    | some j => exact absurd (holdsTokenOf_of_conflict hc) (free j)
    | none => exact refused_of (by
        rw [commitRefusal?_of_tokens token twin, hc, Option.elim_none, badWindow?_eq_some bad first]; rfl)

end Sys2Proof.Machine
end

section
/-! SUPPORT. What an evaluation, a wait or a draw leaves alone of a profile that has no part in it: its meter record,
and that it has no request (R80, R108, R125). -/

namespace Sys2Proof.Machine

/-- A profile without a request still has none, and its meter record stands. -/
structure LeavesProfile (k : Fin 16) (s t : State) : Prop where
  unasked : s.hasRequest k = false → t.hasRequest k = false
  meter : s.hasRequest k = false → t.meters[k] = s.meters[k]

variable {k : Fin 16}

theorem LeavesProfile.of_eq {s t : State} (requests : t.requests = s.requests) (meters : t.meters[k] = s.meters[k]) :
    LeavesProfile k s t := by
  refine ⟨fun h => ?_, fun _ => meters⟩
  unfold State.hasRequest at *
  rw [requests, h]

theorem LeavesProfile.refl (s : State) : LeavesProfile k s s := .of_eq rfl rfl

theorem LeavesProfile.trans {s t u : State} (h : LeavesProfile k s t) (h' : LeavesProfile k t u) :
    LeavesProfile k s u :=
  ⟨fun quiet => h'.unasked (h.unasked quiet), fun quiet => (h'.meter (h.unasked quiet)).trans (h.meter quiet)⟩

theorem LeavesProfile.foldl {α : Type} {f : State → α → State} (hf : ∀ s a, LeavesProfile k s (f s a)) (l : List α)
    (s : State) : LeavesProfile k s (l.foldl f s) := by
  induction l generalizing s with
  | nil => exact .refl s
  | cons a l ih => exact (hf s a).trans (ih _)

/-- Requests that leave the queue are no new ones (R60, R132). -/
theorem LeavesProfile.of_filter {s t : State} {keep : Request → Bool} (h : t.requests = s.requests.filter keep)
    (meters : t.meters = s.meters) : LeavesProfile k s t := by
  refine ⟨fun quiet => ?_, fun _ => by rw [meters]⟩
  unfold State.hasRequest at *
  rw [List.any_eq_false] at *
  exact fun r hr => quiet r (List.mem_filter.mp (h ▸ hr)).1

theorem LeavesProfile.raiseRequest (s : State) {k' : Fin 16} (ne : k' ≠ k) : LeavesProfile k s (s.raiseRequest k') := by
  refine ⟨fun quiet => ?_, fun _ => by rw [raiseRequest_meters]⟩
  unfold State.raiseRequest; dsimp only
  split
  · exact quiet
  · have joined : ∀ tier arrival, (s.requests ++ [Request.mk k' tier arrival]).any (·.slot = k) = false := by
      intro tier arrival
      rw [List.any_append, show s.requests.any (·.slot = k) = false from quiet]
      simp [ne]
    split
    · exact joined ..
    · exact joined ..

theorem LeavesProfile.judge (s : State) (p : Programme) (g w : Bool) {e : Entry} (ne : e.slot ≠ k) :
    LeavesProfile k s (s.judge p g w e).1 := by
  rcases judge_cases s p g w e with h | h
  · rw [h]; exact .refl s
  · rw [h]; exact .raiseRequest s ne

section
variable {sel : Entry → Bool} (others : ∀ e, sel e = true → e.slot ≠ k)
include others

theorem LeavesProfile.judgeAll (p : Programme) (g w : Bool) (s : State) (es : List Entry) :
    LeavesProfile k s (State.judgeAll p g w sel s es).1 := by
  induction es generalizing s with
  | nil => exact .refl s
  | cons e es ih =>
    unfold State.judgeAll; dsimp only
    split
    · next selected => exact (LeavesProfile.judge s p g w (others e selected)).trans (ih _)
    · exact ih s

theorem LeavesProfile.reevalSeat (w : Bool) (s : State) (j : Fin 6) : LeavesProfile k s (s.reevalSeat w sel j) := by
  unfold State.reevalSeat; split
  · exact .refl s
  · exact (LeavesProfile.judgeAll others ..).trans (.of_eq rfl rfl)

theorem LeavesProfile.reeval (s : State) : LeavesProfile k s (s.reeval sel) :=
  .foldl (LeavesProfile.reevalSeat others true) _ s

end

/-- Another profile's meter record. -/
theorem setMeter_of_ne (v : Vector Meter 16) {k' : Fin 16} (ne : k' ≠ k) (m : Meter) : (v.set k' m)[k] = v[k] :=
  Vector.getElem_set_ne (hi := k'.isLt) (hj := k.isLt) fun e => ne (Fin.ext e)

theorem LeavesProfile.windDownOrDeny (s : State) {k' : Fin 16} (ne : k' ≠ k) (sel : Seat → Entry → Bool) :
    LeavesProfile k s (s.windDownOrDeny k' sel) := by
  unfold State.windDownOrDeny; dsimp only; split
  · exact .of_eq rfl (setMeter_of_ne _ ne _)
  · exact .of_eq rfl rfl

theorem LeavesProfile.creditDraw (s : State) {k' : Fin 16} (ne : k' ≠ k) (g : Nat) :
    LeavesProfile k s (s.creditDraw k' g) := by
  unfold State.creditDraw; dsimp only
  refine LeavesProfile.trans (t := { s with
    meters := s.meters.set k' { s.meters[k'] with drawn := s.meters[k'].drawn + g, draws := s.meters[k'].draws + 1 },
    meterDirty := true }) (.of_eq rfl (setMeter_of_ne _ ne _)) ?_
  split
  · exact .reeval (fun e own => of_decide_eq_true own ▸ ne) _
  · split
    · exact .raiseRequest _ ne
    · exact .windDownOrDeny _ ne _

theorem LeavesProfile.drawFor (s : State) {r : Request} (ne : r.slot ≠ k) : LeavesProfile k s (s.drawFor r) := by
  unfold State.drawFor; dsimp only
  refine LeavesProfile.trans ?_ (LeavesProfile.creditDraw _ ne _)
  exact .of_filter rfl rfl

/-- The winner of a draw comes from the queue (R129). -/
theorem winner?_mem {order : List Nat} {queue : List Request} {r : Request} (h : winner? order queue = some r) :
    r ∈ queue := by
  obtain ⟨tier, -, found⟩ := List.exists_of_findSome?_eq_some h
  exact List.mem_of_find?_eq_some found

theorem LeavesProfile.draws (fuel : Nat) (s : State) : LeavesProfile k s (State.draws fuel s).1 := by
  induction fuel generalizing s with
  | zero => exact .refl s
  | succ n ih =>
    unfold State.draws; split
    · exact .refl s
    · split
      · exact .refl s
      · next r won =>
        have run : s.hasRequest k = false → LeavesProfile k s (State.draws n (s.drawFor r)).1 := fun quiet =>
          have ne : r.slot ≠ k := by simpa using List.any_eq_false.mp quiet r (winner?_mem won)
          (LeavesProfile.drawFor s ne).trans (ih _)
        exact ⟨fun quiet => (run quiet).unasked quiet, fun quiet => (run quiet).meter quiet⟩

theorem LeavesProfile.opportunity (s : State) : LeavesProfile k s s.opportunity.1 := by
  unfold State.opportunity; dsimp only; split
  · exact (LeavesProfile.draws ..).trans (.of_eq rfl rfl)
  · exact .draws ..

theorem LeavesProfile.noteSeats (before s : State) : LeavesProfile k s (State.noteSeats before s) := by
  rw [noteSeats_eq]; exact .of_eq rfl rfl

/-- The end of an event neither asks nor meters for a profile without a request (R46, R60, R128). -/
theorem LeavesProfile.settled (s before : State) (offered : Bool) : LeavesProfile k s (s.settled before offered) := by
  unfold State.settled State.settle State.settleWaits; dsimp only
  refine LeavesProfile.trans (t := s.releaseWaits) (.of_filter rfl rfl) ?_
  split
  · exact (LeavesProfile.opportunity ..).trans (.noteSeats ..)
  · exact .noteSeats ..

end Sys2Proof.Machine
end

section
/-! SUPPORT. What an evaluation reads of one profile, so that it does not see what becomes of another (R65). -/

namespace Sys2Proof.Machine

/-- The two states agree in all that an evaluation of this profile reads. -/
structure SameFor (k : Fin 16) (s t : State) : Prop where
  profile : s.profile? k = t.profile? k
  meter : s.meters[k] = t.meters[k]
  permit : ∀ content, s.titlePermit? k content = t.titlePermit? k content
  waiver : s.hasWaiver k = t.hasWaiver k
  extra : s.extra k = t.extra k
  clock : s.clock = t.clock
  settings : s.settings = t.settings
  requests : s.requests = t.requests

section
variable {k : Fin 16} {s t : State} (h : SameFor k s t)
include h

theorem SameFor.rules : s.rules? k = t.rules? k := by
  unfold State.rules?; rw [h.profile]

theorem SameFor.kind : s.kind? k = t.kind? k := by
  unfold State.kind?; rw [h.profile]

theorem SameFor.remaining : s.remaining k = t.remaining k := by
  simp only [State.remaining, State.budget, State.allowance, h.rules, h.meter, h.extra, h.clock]

theorem SameFor.poolPossible : s.poolPossible k = t.poolPossible k := by
  unfold State.poolPossible
  rw [h.rules, h.meter]

theorem SameFor.timeGroup (r : Rules) (w : Option Nat) : s.timeGroup k r w = t.timeGroup k r w := by
  unfold State.timeGroup State.hasRequest
  rw [h.remaining, h.poolPossible, h.requests]

theorem SameFor.windowGroup (r : Rules) : s.windowGroup k r = t.windowGroup k r := by
  unfold State.windowGroup
  rw [h.clock, h.waiver]

theorem SameFor.permitted (r : Rules) (why : Pass) (carried : Option TimePass) (decider : Option RuleGroup) :
    s.permit k r why carried decider = t.permit k r why carried decider := by
  unfold State.permit State.unjudgedState
  rw [h.remaining]

theorem SameFor.evaluate (r : Rules) (p : Programme) (g : Bool) (w : Option Nat) :
    s.evaluate k r p g w = t.evaluate k r p g w := by
  unfold State.evaluate
  rw [h.settings]
  generalize Option.none = carried
  induction t.settings.groupOrder generalizing carried with
  | nil => exact h.permitted ..
  | cons group rest ih =>
    cases group <;> unfold State.walk
    case grant => simp only [h.permit, h.permitted, ih]
    case rating => simp only [ih]
    case window => simp only [h.windowGroup, ih]
    case time => simp only [h.timeGroup, ih]

theorem SameFor.verdictOn (p : Programme) (g : Bool) (w : Option Nat) {e : Entry} (own : e.slot = k) :
    s.verdictOn p g w e = t.verdictOn p g w e := by
  subst own
  unfold State.verdictOn
  simp only [h.kind, h.rules, h.evaluate]

end

/-! ## Retired grants -/

theorem retireGrants_grants (s : State) (sel : Grant → Bool) :
    (s.retireGrants sel).grants = s.grants.map fun g => g.filter fun g => !sel g := by
  ext1 i hi
  have : (s.retireGrants sel).grants[i] = _ := Vector.getElem_ofFn ..
  rw [this, Vector.getElem_map]
  show (match s.grants[i] with | some g => _ | none => _) = _
  cases s.grants[i] with
  | none => rfl
  | some g => cases h : sel g <;> simp [Option.filter, h]

theorem retireGrants_entry (s : State) (sel : Grant → Bool) (i : Fin 16) :
    (s.retireGrants sel).grants[i] = s.grants[i].filter fun g => !sel g := by
  rw [retireGrants_grants]; exact Vector.getElem_map ..

/-- A search through the grant table that would pass over every grant retired finds what it found. -/
theorem findSome?_retireGrants {β : Type} (s : State) {sel : Grant → Bool} {f : Option Grant → Option β}
    (blind : ∀ g, sel g = true → f (some g) = f none) :
    (s.retireGrants sel).grants.toList.findSome? f = s.grants.toList.findSome? f := by
  rw [retireGrants_grants, Vector.toList_map, List.findSome?_map]
  congr 1
  funext g
  cases g with
  | none => rfl
  | some g => cases h : sel g <;> simp [Option.filter, h, blind]

theorem any_retireGrants (s : State) {sel : Grant → Bool} {f : Option Grant → Bool}
    (blind : ∀ g, sel g = true → f (some g) = f none) :
    (s.retireGrants sel).grants.toList.any f = s.grants.toList.any f := by
  rw [retireGrants_grants, Vector.toList_map, List.any_map]
  congr 1
  funext g
  cases g with
  | none => rfl
  | some g => cases h : sel g <;> simp [Option.filter, h, blind]

section
variable (s : State) {k k' : Fin 16} (ne : k' ≠ k)
include ne

theorem titlePermit?_retireGrants (content : Word) :
    (s.retireGrants fun g => g.slot = k).titlePermit? k' content = s.titlePermit? k' content := by
  unfold State.titlePermit?
  rw [findSome?_retireGrants s]
  rintro ⟨slot, body⟩ own
  have own : slot = k := of_decide_eq_true own
  subst own
  cases body <;> simp [Ne.symm ne]

theorem extra_retireGrants : (s.retireGrants fun g => g.slot = k).extra k' = s.extra k' := by
  unfold State.extra
  rw [findSome?_retireGrants s]
  rintro ⟨slot, body⟩ own
  have own : slot = k := of_decide_eq_true own
  subst own
  cases body <;> simp [Ne.symm ne]

theorem hasWaiver_retireGrants : (s.retireGrants fun g => g.slot = k).hasWaiver k' = s.hasWaiver k' := by
  unfold State.hasWaiver
  rw [any_retireGrants s]
  rintro ⟨slot, body⟩ own
  have own : slot = k := of_decide_eq_true own
  subst own
  cases body <;> simp [Ne.symm ne]

end

/-! ## Commit requests -/

theorem commit_queue (s : State) (b : BlockId) : (s.commit b).store.queue = s.queueWith [b] := by
  rw [State.commit_queueWith]

theorem queued_commit_of_ne (s : State) {b c : BlockId} (ne : b ≠ c) : (s.commit b).queued c = s.queued c := by
  unfold State.queued
  rw [commit_queue, State.queueWith, List.any_append]
  cases hq : s.queued b <;> simp [hq, ne]

theorem queueWith_commit (s : State) {b : BlockId} {blocks : List BlockId} (fresh : b ∉ blocks) :
    (s.commit b).queueWith blocks = s.queueWith (b :: blocks) := by
  have same : blocks.filter (fun c => !(s.commit b).queued c) = blocks.filter fun c => !s.queued c :=
    List.filter_congr fun c hc => by rw [queued_commit_of_ne s (ne_of_mem_of_not_mem hc fresh).symm]
  rw [State.queueWith, same, commit_queue, State.queueWith, State.queueWith, List.append_assoc, ← List.map_append,
    ← List.filter_append, List.singleton_append]

/-- Commit requests for different blocks, one after another (R181). -/
theorem foldl_commit (s : State) {blocks : List BlockId} (h : blocks.Nodup) :
    blocks.foldl State.commit s = { s with store := { s.store with queue := s.queueWith blocks } } := by
  induction blocks generalizing s with
  | nil => simp [State.queueWith]
  | cons b blocks ih =>
    obtain ⟨fresh, rest⟩ := List.nodup_cons.mp h
    rw [List.foldl_cons, ih _ rest, queueWith_commit s fresh, State.commit_queueWith]

end Sys2Proof.Machine
end

section
/-! PROOFS. A profile that leaves the seats (R36, R45, R51), what a **retire** leaves of the part (R36), and O18. -/

namespace Sys2Proof.Machine

/-! ## The entries of a profile leave the seats -/

theorem filter_of_not_holdsEntry {seat : Seat} {k : Fin 16} (h : holdsEntry seat k = false) :
    (seat.entries.filter fun e => e.slot ≠ k) = seat.entries := by
  rw [List.filter_eq_self]
  intro e he
  simpa using List.any_eq_false.mp h e he

theorem dropEntry_viewers (k : Fin 16) (s : State) (j j' : Fin 6) : (s.dropEntry k j).viewers j' =
    if j' = j then (s.viewers j').filter fun x => x ≠ k else s.viewers j' := by
  have left : (s.putSeat j (s.seats[j].entries.filter fun e => e.slot ≠ k) s.seats[j].programme).viewers j'
      = if j' = j then (s.viewers j').filter fun x => x ≠ k else s.viewers j' := by
    unfold State.viewers
    rw [putSeat_seat]
    split
    · next e => rw [e, List.filter_map]; rfl
    · rfl
  unfold State.dropEntry; dsimp only
  split
  · split
    · rw [State.reevalJudged, (SeatsKept.reevalSeat ..).viewers, left]
    · exact left
  · next empty =>
    split
    · next e =>
      unfold State.viewers
      rw [List.filter_map, e]
      exact congrArg (List.map _) (filter_of_not_holdsEntry (Bool.eq_false_of_not_eq_true empty)).symm
    · rfl

/-- The seats after the profile has left every one of them (R36). -/
@[irreducible] def State.unseated (s : State) (k : Fin 16) : State := (List.finRange 6).foldl (State.dropEntry k) s

theorem unseated_work (s : State) (k : Fin 16) : SeatWork s (s.unseated k) := by
  rw [State.unseated]; exact .foldl (.dropEntry k) _ _

theorem unseated_viewers (s : State) (k : Fin 16) (j : Fin 6) :
    (s.unseated k).viewers j = (s.viewers j).filter fun x => x ≠ k := by
  suffices ∀ l : List (Fin 6), l.Nodup → ∀ s : State, (l.foldl (State.dropEntry k) s).viewers j =
      if j ∈ l then (s.viewers j).filter fun x => x ≠ k else s.viewers j by
    rw [State.unseated, this _ (List.nodup_finRange 6), if_pos (List.mem_finRange j)]
  intro l hl
  induction l with
  | nil => exact fun s => rfl
  | cons i l ih =>
    intro s
    obtain ⟨hi, hl⟩ := List.nodup_cons.mp hl
    rw [List.foldl_cons, ih hl, dropEntry_viewers]
    by_cases h : j = i
    · subst h; simp [hi]
    · simp [h]

/-! ## Where none is asked for -/

/-- A seat without the profile, before its entries are judged. -/
def State.seatWithout (s : State) (k : Fin 16) (seat : Seat) : Seat :=
  s.deriveSeat (seat.entries.filter fun e => e.slot ≠ k) seat.programme

/-- The profile is on the seat as its last guardian (R45). -/
def State.losesGuardian (s : State) (k : Fin 16) (seat : Seat) : Bool :=
  holdsEntry seat k && seat.guardianPresent && !(s.seatWithout k seat).guardianPresent

/-- What the profile's departure makes of one seat (R45, R51). -/
def State.leftSeat (s : State) (k : Fin 16) (seat : Seat) : Seat :=
  if holdsEntry seat k then
    if s.losesGuardian k seat then s.judgedSeat true s.judgedEntry (s.seatWithout k seat) else s.seatWithout k seat
  else seat

theorem dropEntry_quiet {s : State} {k : Fin 16} {j : Fin 6}
    (h : s.losesGuardian k s.seats[j] = true → s.AsksNone true s.judgedEntry (s.seatWithout k s.seats[j])) :
    s.dropEntry k j = { s with seats := s.seats.set j (s.leftSeat k s.seats[j]) } := by
  unfold State.dropEntry State.leftSeat; dsimp only
  split
  · next holds =>
    have at_j : (s.putSeat j (s.seats[j].entries.filter fun e => e.slot ≠ k) s.seats[j].programme).seats[j]
        = s.seatWithout k s.seats[j] := by rw [putSeat_seat, if_pos rfl]; rfl
    have loses : (s.seats[j].guardianPresent && !(s.seatWithout k s.seats[j]).guardianPresent)
        = s.losesGuardian k s.seats[j] := by unfold State.losesGuardian; rw [holds, Bool.true_and]
    have tables : SameTables (s.putSeat j (s.seats[j].entries.filter fun e => e.slot ≠ k) s.seats[j].programme) s :=
      ⟨rfl, rfl, rfl, rfl, rfl, rfl⟩
    rw [at_j, loses]
    split
    · next last =>
      rw [State.reevalJudged, reevalSeat_set (at_j ▸ State.AsksNone.of_tables tables (h last)), at_j,
        judgedSeat_of_tables tables, State.putSeat_seats, Vector.set_set]
      rfl
    · rfl
  · exact (set_own_seat s j).symm

theorem unseated_quiet (s : State) (k : Fin 16) (h : ∀ j : Fin 6, s.losesGuardian k s.seats[j] = true →
    s.AsksNone true s.judgedEntry (s.seatWithout k s.seats[j])) :
    s.unseated k = { s with seats := Vector.ofFn fun j => s.leftSeat k s.seats[j] } := by
  rw [State.unseated, foldl_seats s _ (fun j => s.leftSeat k s.seats[j]) _ _ (List.nodup_finRange 6)]
  · simp only [List.mem_finRange, if_true]
  · intro v j hv
    have tables : SameTables { s with seats := v } s := ⟨rfl, rfl, rfl, rfl, rfl, rfl⟩
    have left : ({ s with seats := v } : State).leftSeat k v[j] = s.leftSeat k s.seats[j] := by
      unfold State.leftSeat; rw [judgedSeat_of_tables tables, hv]; rfl
    rw [dropEntry_quiet fun last => ?_, left]
    exact .of_tables tables (by have := h j; rw [← hv] at this; exact this last)

/-! ## A retired profile -/

section
variable (s : State) (k : Fin 16)

/-- The part when the profile, its request, its grants and its meter are gone (R36). -/
def State.cleared : State :=
  (((s.unseated k).dropRequest k).retireGrants fun g => g.slot = k).clearMeter k

/-- The part with the slot freed and the three blocks in the commit queue (R36, R181). -/
def State.freed : State := { s.cleared k with
  slots := (s.cleared k).slots.set k .free
  store := { (s.cleared k).store with
    queue := (s.cleared k).queueWith [profileBlock k, grantBlock, meterBlock] } }

theorem retired_eq : s.retired k = (s.freed k).settled s (s.hasRequest k) := by
  have blocks : [profileBlock k, grantBlock, meterBlock].Nodup := by revert k; decide
  unfold State.retired
  rw [← State.unseated]
  exact congrArg (fun t => t.settled s (s.hasRequest k))
    (foldl_commit { s.cleared k with slots := (s.cleared k).slots.set k .free } blocks)

/-- The part with the slot, the grants and the commit queue written, and the seats as they were. -/
def State.unlisted : State := { s with
  slots := s.slots.set k .free
  grants := (s.retireGrants fun g => g.slot = k).grants
  store := { s.store with queue := s.queueWith [profileBlock k, grantBlock, meterBlock] } }

theorem freed_work : SeatWork (s.unlisted k) (s.freed k) := by
  unfold State.freed State.cleared
  rw [unseated_work s k]
  rfl

theorem retired_work : SeatWork (s.unlisted k) (s.retired k) := by
  rw [retired_eq]
  exact (freed_work s k).trans (.settled ..)

theorem retired_kept : SeatsKept (s.freed k) (s.retired k) := by
  rw [retired_eq]; exact .settled ..

theorem retired_viewers (j : Fin 6) : (s.retired k).viewers j = (s.viewers j).filter fun x => x ≠ k := by
  rw [(retired_kept s k).viewers, ← unseated_viewers]; rfl

theorem freed_hasRequest : (s.freed k).hasRequest k = false := by
  show ((s.unseated k).requests.filter (·.slot ≠ k)).any (·.slot = k) = false
  rw [List.any_eq_false]
  intro r hr
  have := (List.mem_filter.mp hr).2
  simpa using this

theorem retired_leavesProfile : LeavesProfile k (s.freed k) (s.retired k) := by
  rw [retired_eq]; exact .settled ..

theorem retired_requests : ∀ r ∈ (s.retired k).requests, r.slot ≠ k := by
  intro r hr
  have quiet := (retired_leavesProfile s k).unasked (freed_hasRequest s k)
  simpa using List.any_eq_false.mp quiet r hr

theorem retired_meter : (s.retired k).meters[k] = Meter.cleared := by
  rw [(retired_leavesProfile s k).meter (freed_hasRequest s k)]
  exact Vector.getElem_set_self ..

/-- The part as a **retire** judges it: the profile is gone, with its grants, its meter and its entries, and the
seats that held it have their guardian-present flags taken anew. -/
def State.parted : State := { s with
  slots := s.slots.set k .free
  grants := (s.retireGrants fun g => g.slot = k).grants
  meters := s.meters.set k Meter.cleared
  meterDirty := true
  seats := Vector.ofFn fun j => if holdsEntry s.seats[j] k then { s.seats[j] with
    entries := s.seats[j].entries.filter fun e => e.slot ≠ k
    guardianPresent := (s.seatWithout k s.seats[j]).guardianPresent } else s.seats[j] }

/-- What becomes of one profile no other profile's evaluation sees. -/
theorem parted_sameFor {k' : Fin 16} (ne : k' ≠ k) : SameFor k' (s.parted k) s where
  profile := congrArg Slot.profile?
    (Vector.getElem_set_ne (hi := k.isLt) (hj := k'.isLt) fun e => ne (Fin.ext e.symm))
  meter := setMeter_of_ne _ ne.symm _
  permit := titlePermit?_retireGrants s ne
  waiver := hasWaiver_retireGrants s ne
  extra := extra_retireGrants s ne
  clock := rfl
  settings := rfl
  requests := rfl

section
variable (j : Fin 6)

theorem parted_seat : (s.parted k).seats[j] = if holdsEntry s.seats[j] k then { s.seats[j] with
    entries := s.seats[j].entries.filter fun e => e.slot ≠ k
    guardianPresent := (s.seatWithout k s.seats[j]).guardianPresent } else s.seats[j] :=
  Vector.getElem_ofFn ..

theorem parted_programme : (s.parted k).seats[j].programme = s.seats[j].programme := by
  rw [parted_seat]; split <;> rfl

theorem parted_entries : (s.parted k).seats[j].entries = s.seats[j].entries.filter fun e => e.slot ≠ k := by
  rw [parted_seat]
  split
  · rfl
  · next empty => exact (filter_of_not_holdsEntry (Bool.eq_false_of_not_eq_true empty)).symm

theorem parted_guardianPresent (last : s.losesGuardian k s.seats[j] = true) :
    (s.parted k).seats[j].guardianPresent = (s.seatWithout k s.seats[j]).guardianPresent := by
  unfold State.losesGuardian at last
  rw [Bool.and_assoc, Bool.and_eq_true] at last
  rw [parted_seat, if_pos last.1]

end

theorem leftSeat_programme (seat : Seat) : (s.leftSeat k seat).programme = seat.programme := by
  unfold State.leftSeat
  split
  · split
    · exact judgedSeat_programme ..
    · rfl
  · rfl

/-- The entries that stay, judged anew where the last guardian has left (R45). -/
theorem leftSeat_entries (seat : Seat) : (s.leftSeat k seat).entries =
    (seat.entries.filter fun e => e.slot ≠ k).map fun e =>
      match seat.programme with
      | some p => if s.losesGuardian k seat && s.judgedEntry e then
          s.verdictOn p (s.seatWithout k seat).guardianPresent e.state.windEnd? e else e
      | none => e := by
  have stay : ∀ {l : List Entry}, s.losesGuardian k seat = false → l = l.map fun e =>
      match seat.programme with
      | some p => if s.losesGuardian k seat && s.judgedEntry e then
          s.verdictOn p (s.seatWithout k seat).guardianPresent e.state.windEnd? e else e
      | none => e := by
    intro l h
    cases seat.programme <;> simp [h]
  unfold State.leftSeat
  split
  · split
    · next last =>
      rw [judgedSeat_entries, last]
      rfl
    · next more => exact stay (Bool.eq_false_of_not_eq_true more)
  · next empty =>
    have empty := Bool.eq_false_of_not_eq_true empty
    rw [filter_of_not_holdsEntry empty]
    exact stay (by unfold State.losesGuardian; rw [empty]; rfl)

theorem retired_rejudges : Rejudges s (s.parted k) (s.retired k) true fun j e =>
    s.losesGuardian k s.seats[j] && s.judgedEntry e := by
  rw [retired_eq]
  refine Rejudges.of_settled _ rfl fun quiet asks => ⟨(s.freed k).seats, ?_⟩
  have run : s.unseated k = { s with seats := Vector.ofFn fun j => s.leftSeat k s.seats[j] } := by
    refine unseated_quiet s k fun j last p hp e he sel r hr => ?_
    have ne : e.slot ≠ k := by simpa using (List.mem_filter.mp he).2
    have judged := asks j p ((parted_programme s k j).trans hp) e ((parted_entries s k j).symm ▸ he)
      (by rw [last]; exact sel) r ((parted_sameFor s k ne).rules.trans hr)
    rwa [(parted_sameFor s k ne).evaluate, parted_guardianPresent s k j last] at judged
  have requests : (s.freed k).requests = (s.parted k).requests := by
    show (s.unseated k).requests.filter _ = s.requests
    rw [run, show s.requests = [] from quiet]; rfl
  have seat : ∀ j : Fin 6, (s.freed k).seats[j] = s.leftSeat k s.seats[j] := by
    intro j
    show (s.unseated k).seats[j] = _
    rw [run]; exact Vector.getElem_ofFn ..
  refine ⟨requests, ?_, rfl, ?_, ?_, rfl, fun j => ⟨?_, ?_⟩⟩
  · show (s.unseated k).meters.set k _ = _
    rw [run]; rfl
  · show (s.unseated k).pool = _
    rw [run]; rfl
  · show (s.unseated k).notices = _
    rw [run]; rfl
  · rw [seat, leftSeat_programme, parted_programme]
  · rw [seat, leftSeat_entries, judgedSeat_entries, parted_entries, parted_programme]
    refine List.map_congr_left fun e he => ?_
    have ne : e.slot ≠ k := by simpa using (List.mem_filter.mp he).2
    cases s.seats[j].programme with
    | none => rfl
    | some p =>
      dsimp only
      split
      · next sel =>
        rw [(parted_sameFor s k ne).verdictOn p _ _ rfl, parted_guardianPresent s k j (Bool.and_eq_true _ _ ▸ sel).1]
        rfl
      · rfl

end

/-! ## retire -/

section
variable {s : State} {b : Byte} (isOpen : s.authority.window.isSome = true)
include isOpen

theorem retire_of_bad (bad : b = 0 ∨ 15 < b.toNat) : retire (.fields b) s = (s, refuse .badArgument) := by
  rw [retire, guarded_open isOpen, withFields_fields]
  rcases bad with rfl | out
  · rfl
  · rw [inRange_of_le out]

theorem retire_of_slot {k : Fin 16} (hk : b.toNat = k.val) (hk0 : k ≠ 0) : retire (.fields b) s =
    if s.slots[k] = .free then (s, refuse .noSuch)
    else if s.edit.any (·.slot = k) then (s, refuse .state)
    else (s.retired k, ok (be1 k.val ++ be1 (s.entriesOf k)
      ++ be1 (s.grants.toList.filter fun g => g.any fun g => g.slot = k).length)) := by
  simp only [retire, guarded_open isOpen, withFields_fields, inRange_of_eq hk, if_neg hk0]

end

/-- Settles O18: past the checks the profile leaves every seat and every table, and the last guardian's seats are
judged anew. -/
theorem retireFreesTheSlot : Obligations.RetireFreesTheSlot := by
  unfold Obligations.RetireFreesTheSlot
  refine ⟨fun s b k h isOpen hk hk0 live unedited => ?_, fun s b h isOpen => ⟨fun bad => ?_, fun k hk hk0 =>
    ⟨fun free => ?_, fun live ⟨e, he, own⟩ => ?_⟩⟩⟩
  · have noEdit : s.edit.any (·.slot = k) = false := by
      cases he : s.edit with
      | none => rfl
      | some e => simpa using unedited e he
    have work := retired_work s k
    have grants : (s.retired k).grants = (s.retireGrants fun g => g.slot = k).grants := by rw [work]; rfl
    have slots : (s.retired k).slots = s.slots.set k .free := work.slots
    have queue : (s.retired k).store.queue = s.queueWith [profileBlock k, grantBlock, meterBlock] :=
      congrArg Store.queue work.store
    refine ⟨_, exec_of_owner h rfl (by rw [retire_of_slot isOpen hk hk0, if_neg live, noEdit]; rfl), replied_holds ..,
      slots, retired_viewers s k, retired_requests s k, fun i => ?_, retired_meter s k, queue, ?_, ?_⟩
    · show (s.retired k).grants[i] = _
      rw [grants, retireGrants_entry]
      simp only [decide_not]
    · show CommandWork { s with
        slots := (s.retired k).slots, grants := (s.retired k).grants
        store := { s.store with queue := (s.retired k).store.queue } } _
      rw [slots, grants, queue]
      exact work.replied ..
    · intro left present holds
      have judged := retired_rejudges s k
      unfold State.parted at judged
      rw [← slots, ← grants] at judged
      simp only [ne_eq, decide_not]
      exact Rejudges.replied judged _ _ _
  · exact exec_of_owner h rfl (retire_of_bad isOpen bad)
  · exact exec_of_owner h rfl (by rw [retire_of_slot isOpen hk hk0, if_pos free]; rfl)
  · have edited : s.edit.any (·.slot = k) = true := by
      rw [Option.mem_def.mp he]; exact decide_eq_true own
    exact exec_of_owner h rfl (by rw [retire_of_slot isOpen hk hk0, if_neg live, if_pos edited]; rfl)

end Sys2Proof.Machine
end

section
/-! PROOFS. What no command moves while the guardian window is CLOSED (R29, R172, R173), and O60. -/

namespace Sys2Proof.Machine

/-- What the household's rules are made of stands: settings and profiles, no edit buffer where there was none, nothing
topped up, and each grant entry as it was or free. -/
structure RulesStand (s t : State) : Prop where
  settings : t.settings = s.settings
  slots : t.slots = s.slots
  edit : s.edit = none → t.edit = none
  toppedUp : t.pool.toppedUp ≤ s.pool.toppedUp
  grants : ∀ e : Fin 16, t.grants[e] = s.grants[e] ∨ t.grants[e] = none

theorem RulesStand.of_eq {s t : State} (settings : t.settings = s.settings) (slots : t.slots = s.slots)
    (edit : s.edit = none → t.edit = none) (pool : t.pool = s.pool) (grants : t.grants = s.grants) :
    RulesStand s t :=
  ⟨settings, slots, edit, by rw [pool], fun e => .inl (by rw [grants])⟩

theorem RulesStand.refl (s : State) : RulesStand s s := .of_eq rfl rfl id rfl rfl

theorem RulesStand.trans {s t u : State} (h : RulesStand s t) (h' : RulesStand t u) : RulesStand s u where
  settings := h'.settings.trans h.settings
  slots := h'.slots.trans h.slots
  edit := h'.edit ∘ h.edit
  toppedUp := h'.toppedUp.trans h.toppedUp
  grants e := (h'.grants e).elim (fun same => (h.grants e).imp same.trans same.trans) .inr

theorem RulesStand.foldl {α : Type} {f : State → α → State} (hf : ∀ s a, RulesStand s (f s a)) (l : List α)
    (s : State) : RulesStand s (l.foldl f s) := by
  induction l generalizing s with
  | nil => exact .refl s
  | cons a l ih => exact (hf s a).trans (ih _)

/-! ## The shared operations -/

/-- Work on seats, waits and draws that tops nothing up. -/
theorem RulesStand.of_work {s t : State} (work : SeatWork s t) (used : UsedKept s t) : RulesStand s t where
  settings := by rw [work]
  slots := work.slots
  edit := fun noBuffer => by rw [work]; exact noBuffer
  toppedUp := used.2.le
  grants e := .inl (by rw [work])

theorem RulesStand.putSeat (s : State) (j : Fin 6) (es : List Entry) (p : Option Programme) :
    RulesStand s (s.putSeat j es p) := .of_eq rfl rfl id rfl rfl

theorem RulesStand.reevalSeat (w : Bool) (sel : Entry → Bool) (s : State) (j : Fin 6) :
    RulesStand s (s.reevalSeat w sel j) := .of_work (.reevalSeat ..) (.reevalSeat ..)

theorem RulesStand.reeval (s : State) (sel : Entry → Bool) : RulesStand s (s.reeval sel) :=
  .of_work (.reeval ..) (.reeval ..)

theorem RulesStand.settled (s before : State) (offered : Bool) : RulesStand s (s.settled before offered) :=
  .of_work (.settled ..) (.settled ..)

theorem RulesStand.commit (s : State) (b : BlockId) : RulesStand s (s.commit b) := by
  rw [State.commit_queueWith]; exact .of_eq rfl rfl id rfl rfl

theorem RulesStand.retireGrants (s : State) (sel : Grant → Bool) : RulesStand s (s.retireGrants sel) where
  settings := State.retireGrants_settings ..
  slots := State.retireGrants_slots ..
  edit := (State.retireGrants_edit ..).trans
  toppedUp := by rw [State.retireGrants_pool]
  grants e := by
    rw [retireGrants_entry]
    cases s.grants[e] with
    | none => exact .inl rfl
    | some g => cases h : sel g <;> simp [Option.filter, h]

theorem RulesStand.closeWindow (s : State) : RulesStand s s.closeWindow := by
  unfold State.closeWindow
  split
  · exact .refl s
  · exact .of_eq rfl rfl (fun _ => rfl) rfl rfl

theorem UsedKept.withStore {s t : State} (h : UsedKept s t) (x : Store) : UsedKept s { t with store := x } :=
  ⟨h.1, h.2⟩

theorem changeScheme_used (s : State) (k : Fin 8) (c : SchemeSlot) : UsedKept s (s.changeScheme k c) := by
  have written : UsedKept s (s.withScheme k c) := .of_eq rfl rfl
  have derived : UsedKept (s.withScheme k c) (s.rederived k c) := .foldl (.rederiveSeat k) _ _
  rw [changeScheme_eq]
  exact ((written.trans derived).withStore _).trans (.settled ..)

theorem RulesStand.changeScheme (s : State) (k : Fin 8) (c : SchemeSlot) : RulesStand s (s.changeScheme k c) := by
  have written : RulesStand s { s.withScheme k c with store := s.schemeQueued k } := .of_eq rfl rfl id rfl rfl
  refine written.trans (.of_work (changeScheme_work s k c) ?_)
  have used := changeScheme_used s k c
  exact ⟨used.1, used.2⟩

theorem RulesStand.enter (s : State) (j : Fin 6) (k : Fin 16) : RulesStand s (s.enter j k) := by
  unfold State.enter; dsimp only
  have judged : RulesStand s ((s.putSeat j (s.seats[j].entries ++ [⟨k, .idle⟩]) s.seats[j].programme).reevalSeat true
      (ofProfile k) j) := (RulesStand.putSeat ..).trans (.reevalSeat ..)
  refine RulesStand.trans ?_ (RulesStand.settled ..)
  split
  · exact judged.trans (.reevalSeat ..)
  · exact judged

/-! ## The parts of a clkset -/

theorem RulesStand.rollMeters (s : State) : RulesStand s s.rollMeters := by
  unfold State.rollMeters
  refine RulesStand.trans ?_ (RulesStand.reeval ..)
  refine RulesStand.trans ?_ (RulesStand.commit ..)
  exact .of_eq rfl rfl id rfl rfl

theorem RulesStand.rollPool (s : State) : RulesStand s s.rollPool := by
  unfold State.rollPool
  refine RulesStand.trans ?_ (RulesStand.foldl (fun t r => .of_work (.endOfWait ..) (.endOfWait ..)) _ _)
  exact ⟨rfl, rfl, id, Nat.zero_le _, fun _ => .inl rfl⟩

theorem RulesStand.retireExtra (s : State) : RulesStand s s.retireExtra := by
  unfold State.retireExtra; dsimp only
  split
  · refine RulesStand.trans ?_ (RulesStand.reeval ..)
    refine RulesStand.trans ?_ (RulesStand.foldl (fun t k => .of_work (.afterDecrease ..) (.afterDecrease ..)) _ _)
    exact (RulesStand.retireGrants ..).trans (.commit ..)
  · exact .refl s

theorem RulesStand.expireGrants (s : State) (now : Moment) : RulesStand s (s.expireGrants now) := by
  unfold State.expireGrants; dsimp only
  split
  · exact ((RulesStand.retireGrants ..).trans (.commit ..)).trans (.reeval ..)
  · exact .refl s

theorem RulesStand.takeClockWork (s : State) (w : ClockWork) : RulesStand s (s.takeClockWork w) := by
  cases w with
  | compare => exact .expireGrants s s.now
  | roll p =>
    cases p with
    | meters => exact .rollMeters s
    | pool => exact .rollPool s
    | grants => exact .retireExtra s
    | seats => exact .reeval s everyEntry

theorem RulesStand.ordered (s : State) (work : List ClockWork) : RulesStand s (s.ordered work).2 := by
  unfold State.ordered; dsimp only
  split
  · exact .refl s
  · obtain ⟨n, hn⟩ := shuffle_state (work.filter s.active).length (work.filter s.active) s
    rw [hn]; exact .of_eq rfl rfl id rfl rfl

theorem RulesStand.handOver (s before : State) : RulesStand s (s.handOver before) := by
  unfold State.handOver; dsimp only
  refine RulesStand.trans ?_ (RulesStand.settled ..)
  refine RulesStand.trans ?_ (RulesStand.foldl RulesStand.takeClockWork _ _)
  refine RulesStand.trans ?_ (RulesStand.ordered ..)
  split
  · exact .of_eq rfl rfl id rfl rfl
  · exact .refl s

/-! ## How a command is taken -/

/-- The guardian window is CLOSED, and there is no edit buffer. -/
structure State.Shut (s : State) : Prop where
  window : s.authority.window = none
  edit : s.edit = none

/-- The owner of a command moves nothing of the household's rules while the window is CLOSED. -/
def OwnerStands (owner : State → State × Reply) : Prop := ∀ s : State, s.Shut → RulesStand s (owner s).1

theorem dispatch_link (i : Instr) (s : State) : ∃ link, State.dispatch i s = { s with link := link } := by
  have discard : ∃ link, s.discardHeld = { s with link := link } := by
    unfold State.discardHeld; split
    · exact ⟨s.link, rfl⟩
    · exact ⟨_, rfl⟩
  obtain ⟨link, discarded⟩ := discard
  unfold State.dispatch
  split
  · exact ⟨_, by rw [discarded]; rfl⟩
  · exact ⟨_, rfl⟩
  · exact ⟨_, rfl⟩
  · exact ⟨_, by rw [discarded]⟩

section
variable {owner : State → State × Reply} (h : OwnerStands owner) (i : Instr)
include h

theorem RulesStand.answer {s : State} (shut : s.Shut) : RulesStand s (State.answer i (owner s)) :=
  (h s shut).trans (.of_eq rfl rfl id rfl rfl)

theorem RulesStand.command {s : State} (shut : s.Shut) : RulesStand s (State.command i owner s) := by
  unfold State.command; dsimp only
  obtain ⟨link, met⟩ := dispatch_link i { s with link.miso := [] }
  split
  · exact .answer h i shut
  · rw [met]
    have frame : RulesStand s { s with link := link } := .of_eq rfl rfl id rfl rfl
    split
    · exact frame.trans (.answer h i ⟨shut.window, shut.edit⟩)
    · exact frame

/-- The step of a command whose owner moves none of the rules. -/
theorem RulesStand.of_exec {s t : State} (arm : exec i s = .next (s.taken i (State.command i owner)))
    (shut : s.Shut) (run : exec i s = .next t) : RulesStand s t := by
  cases arm.symm.trans run
  unfold State.taken
  split
  · exact .refl s
  · split
    · split
      · exact .of_eq rfl rfl id rfl rfl
      · exact .refl s
    · exact (RulesStand.command h i shut).trans (.of_eq rfl rfl id rfl rfl)

end

/-! ## The owners -/

theorem OwnerStands.guarded (f : State → State × Reply) : OwnerStands fun s => guarded s (f s) := by
  intro s shut
  dsimp only
  rw [guarded_closed shut.window]; exact .refl s

theorem RulesStand.withFields {α : Type} {s : State} {f : α → State × Reply} (h : ∀ a, RulesStand s (f a).1)
    (req : Req α) : RulesStand s (withFields req s f).1 := by
  cases req with
  | fields a => exact h a
  | misfit => exact .refl s

theorem sload_stands (req : Req SloadArgs) : OwnerStands (sload req) := by
  intro s _
  unfold sload
  refine .withFields (fun a => ?_) req
  dsimp only
  split
  · exact .refl s
  · split
    · exact .refl s
    · split
      · exact .refl s
      · dsimp only
        exact .changeScheme ..

theorem sclr_stands (req : Req Byte) : OwnerStands (sclr req) := by
  intro s _
  unfold sclr
  refine .withFields (fun a => ?_) req
  split
  · exact .refl s
  · split
    · exact .refl s
    · split
      · exact .refl s
      · dsimp only
        exact .changeScheme ..

theorem slock_stands (req : Req Byte) : OwnerStands (slock req) := by
  intro s _
  unfold slock
  refine .withFields (fun a => ?_) req
  dsimp only
  split
  · exact .refl s
  · split
    · exact .refl s
    · split
      · exact .refl s
      · refine RulesStand.trans ?_ (RulesStand.commit ..)
        exact .of_eq rfl rfl id rfl rfl

theorem eset_stands (req : Req EsetArgs) : OwnerStands (eset req) := by
  intro s shut
  rw [eset, shut.edit]; exact .refl s

theorem ecommit_stands (req : Req Unit) : OwnerStands (ecommit req) := by
  intro s shut
  rw [ecommit, shut.edit]; exact .refl s

theorem edrop_stands (req : Req Unit) : OwnerStands (edrop req) := by
  intro s _
  unfold edrop
  refine .withFields (fun _ => ?_) req
  exact .of_eq rfl rfl (fun _ => rfl) rfl rfl

theorem join_stands (req : Req JoinArgs) : OwnerStands (join req) := by
  intro s _
  unfold join
  refine .withFields (fun a => ?_) req
  dsimp only
  split
  · exact .refl s
  · split
    · exact .refl s
    · split
      · exact .refl s
      · exact .enter ..

theorem leave_stands (req : Req LeaveArgs) : OwnerStands (leave req) := by
  intro s _
  unfold leave
  refine .withFields (fun a => ?_) req
  dsimp only
  split
  · split
    · exact (RulesStand.of_work (.dropEntry ..) (.dropEntry ..)).trans (.settled ..)
    · exact .refl s
  · exact .refl s

theorem vacate_stands (req : Req Byte) : OwnerStands (vacate req) := by
  intro s _
  unfold vacate
  refine .withFields (fun a => ?_) req
  split
  · exact .refl s
  · exact (RulesStand.putSeat ..).trans (.settled ..)

theorem play_stands (req : Req PlayArgs) : OwnerStands (play req) := by
  intro s _
  unfold play
  refine .withFields (fun a => ?_) req
  split
  · exact ((RulesStand.putSeat ..).trans (.reevalSeat ..)).trans (.settled ..)
  · exact .refl s

theorem endp_stands (req : Req Byte) : OwnerStands (endp req) := by
  intro s _
  unfold endp
  refine .withFields (fun a => ?_) req
  split
  · exact .refl s
  · split
    · exact (RulesStand.putSeat ..).trans (.settled ..)
    · exact .refl s

theorem clkset_stands (req : Req ClksetArgs) : OwnerStands (clkset req) := by
  intro s _
  unfold clkset
  refine .withFields (fun a => ?_) req
  dsimp only
  split
  · exact .refl s
  · split
    · exact .refl s
    · refine RulesStand.trans ?_ (RulesStand.handOver ..)
      exact .of_eq rfl rfl id rfl rfl

theorem pin_stands (req : Req PinArgs) : OwnerStands (pin req) := by
  intro s _
  unfold pin
  refine .withFields (fun a => ?_) req
  dsimp only
  split
  · exact .refl s
  · split
    · exact .refl s
    · split
      · exact .of_eq rfl rfl id rfl rfl
      · split
        · exact .refl s
        · exact .of_eq rfl rfl id rfl rfl

theorem close_stands (req : Req Unit) : OwnerStands (close req) := by
  intro s _
  unfold close
  exact .withFields (fun _ => .closeWindow s) req

theorem retry_stands (req : Req Unit) : OwnerStands (retry req) := by
  intro s _
  unfold retry State.retryFailed
  refine .withFields (fun _ => RulesStand.trans ?_ (RulesStand.foldl .commit _ _)) req
  exact .of_eq rfl rfl id rfl rfl

theorem notices_stands (req : Req Unit) : OwnerStands (notices req) := by
  intro s _
  unfold notices
  refine .withFields (fun _ => ?_) req
  exact .of_eq rfl rfl id rfl rfl

theorem restart_stands (req : Req Unit) : OwnerStands (restart req) := by
  intro s _
  unfold restart State.restarted
  refine .withFields (fun _ => RulesStand.trans ?_ (RulesStand.closeWindow _)) req
  exact .of_eq rfl rfl (fun _ => rfl) rfl rfl

/-! ## The commands that only answer -/

theorem OwnerStands.read {owner : State → State × Reply} (h : ∀ s, (owner s).1 = s) : OwnerStands owner := by
  intro s _
  rw [h]; exact .refl s

theorem withFields_read {α : Type} {s : State} {f : α → State × Reply} (h : ∀ a, (f a).1 = s) (req : Req α) :
    (withFields req s f).1 = s := by
  cases req with
  | fields a => exact h a
  | misfit => rfl

section
variable (s : State)

theorem sread_state (req : Req Byte) : (sread req s).1 = s := by
  unfold sread
  exact withFields_read (fun b => by split <;> rfl) req

theorem pread_state (req : Req Byte) : (pread req s).1 = s := by
  unfold pread
  exact withFields_read (fun b => by split <;> rfl) req

theorem lookup_state (req : Req Word) : (lookup req s).1 = s := by
  unfold lookup
  exact withFields_read (s := s) (fun _ => rfl) req

theorem sstat_state (req : Req Byte) : (sstat req s).1 = s := by
  unfold sstat
  exact withFields_read (fun b => by split <;> rfl) req

theorem preview_state (req : Req PreviewArgs) : (preview req s).1 = s := by
  unfold preview
  refine withFields_read (fun a => ?_) req
  dsimp only
  split
  · split
    · rfl
    · split
      · rfl
      · split <;> rfl
  · rfl

theorem mread_state (req : Req Byte) : (mread req s).1 = s := by
  unfold mread
  exact withFields_read (fun b => by split <;> rfl) req

theorem poolRead_state (req : Req Unit) : (poolRead req s).1 = s := by
  unfold poolRead
  exact withFields_read (s := s) (fun _ => rfl) req

theorem gread_state (req : Req Byte) : (gread req s).1 = s := by
  unfold gread
  exact withFields_read (fun sel => by split <;> rfl) req

theorem clkread_state (req : Req Unit) : (clkread req s).1 = s := by
  unfold clkread
  exact withFields_read (s := s) (fun _ => rfl) req

theorem hread_state (req : Req Unit) : (hread req s).1 = s := by
  unfold hread
  exact withFields_read (s := s) (fun _ => rfl) req

theorem store_state (req : Req Unit) : (store req s).1 = s := by
  unfold store
  exact withFields_read (s := s) (fun _ => rfl) req

theorem describe_state (req : Req Unit) : (describe req s).1 = s := by
  unfold describe
  exact withFields_read (s := s) (fun _ => rfl) req

end

/-! ## Every command -/

/-- No command moves any of the household's rules while the window is CLOSED. -/
theorem exec_rulesStand {i : Instr} {s t : State} (shut : s.Shut) (code : (commandCode i).isSome = true)
    (run : exec i s = .next t) : RulesStand s t := by
  cases i with
  | sload req => exact .of_exec (sload_stands req) _ rfl shut run
  | sclr req => exact .of_exec (sclr_stands req) _ rfl shut run
  | slock req => exact .of_exec (slock_stands req) _ rfl shut run
  | eset req => exact .of_exec (eset_stands req) _ rfl shut run
  | ecommit req => exact .of_exec (ecommit_stands req) _ rfl shut run
  | edrop req => exact .of_exec (edrop_stands req) _ rfl shut run
  | join req => exact .of_exec (join_stands req) _ rfl shut run
  | leave req => exact .of_exec (leave_stands req) _ rfl shut run
  | vacate req => exact .of_exec (vacate_stands req) _ rfl shut run
  | play req => exact .of_exec (play_stands req) _ rfl shut run
  | endp req => exact .of_exec (endp_stands req) _ rfl shut run
  | clkset req => exact .of_exec (clkset_stands req) _ rfl shut run
  | pin req => exact .of_exec (pin_stands req) _ rfl shut run
  | close req => exact .of_exec (close_stands req) _ rfl shut run
  | retry req => exact .of_exec (retry_stands req) _ rfl shut run
  | notices req => exact .of_exec (notices_stands req) _ rfl shut run
  | restart req => exact .of_exec (restart_stands req) _ rfl shut run
  | eopen req => exact .of_exec (owner := eopen req) (.guarded _) _ rfl shut run
  | retire req => exact .of_exec (owner := retire req) (.guarded _) _ rfl shut run
  | topup req => exact .of_exec (owner := topup req) (.guarded _) _ rfl shut run
  | gadd req => exact .of_exec (owner := gadd req) (.guarded _) _ rfl shut run
  | grevoke req => exact .of_exec (owner := grevoke req) (.guarded _) _ rfl shut run
  | repin req => exact .of_exec (owner := repin req) (.guarded _) _ rfl shut run
  | hset req => exact .of_exec (owner := hset req) (.guarded _) _ rfl shut run
  | sread req => exact .of_exec (.read fun s => sread_state s req) _ rfl shut run
  | pread req => exact .of_exec (.read fun s => pread_state s req) _ rfl shut run
  | lookup req => exact .of_exec (.read fun s => lookup_state s req) _ rfl shut run
  | sstat req => exact .of_exec (.read fun s => sstat_state s req) _ rfl shut run
  | preview req => exact .of_exec (.read fun s => preview_state s req) _ rfl shut run
  | mread req => exact .of_exec (.read fun s => mread_state s req) _ rfl shut run
  | pool req => exact .of_exec (.read fun s => poolRead_state s req) _ rfl shut run
  | gread req => exact .of_exec (.read fun s => gread_state s req) _ rfl shut run
  | clkread req => exact .of_exec (.read fun s => clkread_state s req) _ rfl shut run
  | hread req => exact .of_exec (.read fun s => hread_state s req) _ rfl shut run
  | store req => exact .of_exec (.read fun s => store_state s req) _ rfl shut run
  | describe req => exact .of_exec (.read fun s => describe_state s req) _ rfl shut run
  | _ => cases code

/-- Settles O60: without a window there is no edit buffer (R172), and then no owner moves any of the rules. -/
theorem nothingIsGrantedWithoutTheWindow : Obligations.NothingIsGrantedWithoutTheWindow := by
  unfold Obligations.NothingIsGrantedWithoutTheWindow
  intro i s t law closed code run
  obtain ⟨-, buffer, -⟩ := law
  have edit : s.edit = none := by
    rw [← Option.not_isSome_iff_eq_none]
    intro busy
    have isOpen := buffer busy
    rw [closed] at isOpen
    cases isOpen
  have stand := exec_rulesStand ⟨closed, edit⟩ code run
  exact ⟨stand.settings, stand.slots, stand.edit edit, stand.toppedUp, stand.grants⟩

end Sys2Proof.Machine
end

section
/-! SUPPORT. What one step can do, row by row, and when a law is kept by every step (R189, R191). -/

namespace Sys2Proof.Machine

/-- Everything that the step of a row can be: the row is taken as an event, or it is one of the four rows of the supply
and the reset, which no dip defers. -/
theorem exec_cases {i : Instr} {s t : State} (run : exec i s = .next t) :
    t = s.taken i (takeEvent i)
      ∨ t = takeDipBegin s
      ∨ (∃ micros, t = takeDipEnd micros s)
      ∨ (∃ cause lvs1 lvs0, t = takeFullReset cause lvs1 lvs0 s)
      ∨ ∃ high millivolts, t = takeStartUpLoad high millivolts s := by
  cases i with
  | dipBegin => cases run; exact .inr (.inl rfl)
  | dipEnd micros => cases run; exact .inr (.inr (.inl ⟨micros, rfl⟩))
  | fullReset cause lvs1 lvs0 => cases run; exact .inr (.inr (.inr (.inl ⟨cause, lvs1, lvs0, rfl⟩)))
  | startUpLoad high millivolts => cases run; exact .inr (.inr (.inr (.inr ⟨high, millivolts, rfl⟩)))
  | _ => cases run; exact .inl rfl

/-- A law that every step keeps: the rows that wait, those that a dip defers and the dip itself do not touch it, a full
reset brings it about, and the start-up load, every event and the end of a dip keep it. -/
structure StepLaw (law : State → Prop) : Prop where
  pending : ∀ s q, law s → law { s with pending := q }
  deferred : ∀ s q, law s → law { s with deferred := q }
  dipBegin : ∀ s, law s → law { s with supply.dip := true }
  reset : ∀ s straps, law (State.beginReset s straps)
  startUpLoad : ∀ high millivolts s, law s → law (takeStartUpLoad high millivolts s)
  event : ∀ i s, law s → law (takeEvent i s).drivePins
  endDip : ∀ s, law s → law (State.endDip s)

theorem StepLaw.taken {law : State → Prop} (h : StepLaw law) (i : Instr) {s : State} (hs : law s) :
    law (s.taken i (takeEvent i)) := by
  unfold State.taken
  split
  · exact hs
  · split
    · split
      · exact h.deferred s _ hs
      · exact hs
    · exact h.event i s hs

theorem StepLaw.exec {law : State → Prop} (h : StepLaw law) {i : Instr} {s t : State} (hs : law s)
    (run : exec i s = .next t) : law t := by
  rcases exec_cases run with rfl | rfl | ⟨micros, rfl⟩ | ⟨cause, lvs1, lvs0, rfl⟩ | ⟨high, millivolts, rfl⟩
  · exact h.taken i hs
  · unfold takeDipBegin
    split
    · exact hs
    · exact h.dipBegin s hs
  · unfold takeDipEnd
    split
    · exact hs
    · split
      · exact h.reset s _
      · exact h.endDip s hs
  · unfold takeFullReset
    split
    · exact h.reset s _
    · exact hs
  · exact h.startUpLoad high millivolts s hs

theorem StepLaw.keptByEveryStep {law : State → Prop} (h : StepLaw law) : KeptByEveryStep law := by
  intro s t hs run
  unfold step at run
  split at run
  · cases run; exact hs
  · exact h.exec (h.pending s _ hs) run

end Sys2Proof.Machine
end

section
/-! PROOFS. The pins after every step (R47, R202, R208), and O50. -/

namespace Sys2Proof.Machine

theorem drivePins_pinsFollow (s : State) : s.drivePins.PinsFollow := rfl

theorem pinsFollow_stepLaw : StepLaw State.PinsFollow where
  pending _ _ h := h
  deferred _ _ h := h
  dipBegin _ h := h
  reset _ _ := rfl
  startUpLoad high millivolts s h := by
    unfold takeStartUpLoad
    split
    · exact drivePins_pinsFollow _
    · exact h
  event i s _ := drivePins_pinsFollow _
  endDip s _ := drivePins_pinsFollow _

/-- The gate levels of R47, state by state. -/
theorem permits_iff (x : SeatState) :
    x.permits = true ↔ x ∈ [SeatState.browsing, .permitted, .warned, .poolWait, .windDown] := by
  cases x <;> decide

theorem attnCondition_iff (s : State) : s.attnCondition = true ↔
    s.supply.held = false ∧ (s.link.buffer.isSome = true ∨ s.notices ≠ 0) := by
  simp [State.attnCondition]

theorem pinsFollow_iff (s : State) : s.PinsFollow ↔
    s.pins.gate0 = s.seats[0].state.permits ∧ s.pins.gate1 = s.seats[1].state.permits
      ∧ s.pins.attn = s.attnCondition := by
  unfold State.PinsFollow State.pinsOf
  cases s.pins
  exact Pins.mk.injEq .. ▸ Iff.rfl

/-- Settles O50: every row that can change what the pins show ends by driving them, and the others change nothing that
they show. -/
theorem everyStepKeepsThePinsFollowing : Obligations.EveryStepKeepsThePinsFollowing := by
  unfold Obligations.EveryStepKeepsThePinsFollowing
  refine ⟨pinsFollow_stepLaw.keptByEveryStep, fun s => ?_⟩
  dsimp only
  rw [pinsFollow_iff, ← attnCondition_iff, ← permits_iff, ← permits_iff, ← Bool.eq_iff_iff, ← Bool.eq_iff_iff,
    ← Bool.eq_iff_iff]
  rfl

end Sys2Proof.Machine
end

section
/-! PROOFS. The reads of a seat and of a meter (R56, R118), what a **restart** leaves (R206), and O25 and O11. -/

namespace Sys2Proof.Machine

theorem sstat_of_seat {s : State} {b : Byte} {j : Fin 6} (hj : b.toNat = j.val) : sstat (.fields b) s =
    (s, ok (be1 s.seats[j].state.code ++ flagByte s.seats[j].guardianPresent ++ be1 s.seats[j].entries.length
      ++ s.seats[j].entries.flatMap s.entryPayload ++ programmePayload s.clock.counter s.seats[j].programme)) := by
  simp only [sstat, withFields_fields, inRange_of_eq hj]

theorem mread_of_slot {s : State} {b : Byte} {k : Fin 16} (hk : b.toNat = k.val) :
    mread (.fields b) s = (s, ok (s.meterPayload k)) := by
  simp only [mread, withFields_fields, inRange_of_eq hk]

/-- Settles O25: each read answers its payload of the seat or the slot that its byte names. -/
theorem seatAndMeterReadsAnswer : Obligations.SeatAndMeterReadsAnswer := by
  unfold Obligations.SeatAndMeterReadsAnswer
  refine ⟨fun s b j h hj => exec_of_owner h rfl (sstat_of_seat hj),
    fun s b k h hk => exec_of_owner h rfl (mread_of_slot hk), fun s b i h out => ?_⟩
  rcases out with ⟨rfl, out⟩ | ⟨rfl, out⟩
  · exact exec_of_owner h rfl (by simp only [sstat, withFields_fields, inRange_of_le out]; rfl)
  · exact exec_of_owner h rfl (by simp only [mread, withFields_fields, inRange_of_le out]; rfl)

theorem closeWindow_of_closed {s : State} (h : s.authority.window = none) : s.closeWindow = s := by
  unfold State.closeWindow
  rw [h]

/-- What a **restart** empties before it closes the guardian window (R62, R134, R206). -/
def State.emptied (s : State) : State := { s with
  link := { s.link with flags := .clear }, notices := 0, edit := none
  seats := Vector.replicate 6 Seat.vacant, requests := [] }

theorem restarted_eq (s : State) : s.restarted = s.emptied.closeWindow := rfl

theorem restart_eq (s : State) : restart (.fields ()) s = (s.restarted,
    ok (flagByte s.authority.window.isSome ++ flagByte s.edit.isSome ++ be1 s.busySeats ++ be1 s.requests.length)) := rfl

/-- Settles O11: the window is closed after the set is emptied, so that its notice stays. -/
theorem restartEmptiesTheBlocks : Obligations.RestartEmptiesTheBlocks := by
  unfold Obligations.RestartEmptiesTheBlocks
  intro s h wasOpen left
  have left_eq : s.restarted = left := by
    unfold left wasOpen
    rw [restarted_eq]
    cases isOpen : s.authority.window with
    | none =>
      have same : { s.authority with window := none } = s.authority := by rw [← isOpen]
      rw [closeWindow_of_closed (s := s.emptied) isOpen, same]; rfl
    | some n => rw [closeWindow_of_open (s := s.emptied) (by rw [State.emptied, isOpen]; rfl)]; simp [State.emptied]
  rw [exec_of_owner h rfl (restart_eq s), left_eq]
  rfl

end Sys2Proof.Machine
end

section
/-! SUPPORT. What every evaluation, wait and draw makes of a seat: it stands as it was, or its state and its
guardian-present flag are derived anew (R45, R46), and IDLE entries of a seat without a programme stay IDLE (R43). -/

namespace Sys2Proof.Machine

/-- Every entry of the profile on the seat is in this state. -/
def Seat.Shows (seat : Seat) (k : Fin 16) (state : EntryState) : Prop :=
  ∀ e ∈ seat.entries, e.slot = k → e.state = state

/-- A seat after an event that seats nobody and plays nothing, the profiles being those of `s`. -/
structure SeatFollows (s : State) (seat seat' : Seat) : Prop where
  kept : SeatKept s seat seat'
  derived : seat' = seat ∨ seat' = s.deriveSeat seat'.entries seat'.programme
  idle : seat.programme = none → ∀ k, seat.Shows k .idle → seat'.Shows k .idle

/-- Every seat after such an event. -/
structure SeatsFollow (s t : State) : Prop where
  slots : t.slots = s.slots
  seats : ∀ j : Fin 6, SeatFollows s s.seats[j] t.seats[j]

theorem SeatFollows.refl (s : State) (seat : Seat) : SeatFollows s seat seat := ⟨.refl s seat, .inl rfl, fun _ _ => id⟩

theorem SeatsFollow.of_eq {s t : State} (slots : t.slots = s.slots) (seats : t.seats = s.seats) : SeatsFollow s t :=
  ⟨slots, fun j => by rw [seats]; exact .refl s _⟩

theorem SeatsFollow.refl (s : State) : SeatsFollow s s := .of_eq rfl rfl

theorem SeatsFollow.kept {s t : State} (h : SeatsFollow s t) : SeatsKept s t := ⟨h.slots, fun j => (h.seats j).kept⟩

theorem SeatsFollow.trans {s t u : State} (h : SeatsFollow s t) (h' : SeatsFollow t u) : SeatsFollow s u where
  slots := h'.slots.trans h.slots
  seats j := {
    kept := (h.kept.trans h'.kept).2 j
    derived := by
      rcases (h'.seats j).derived with same | derived
      · rw [same]; exact (h.seats j).derived
      · rw [deriveSeat_of_slots h.slots] at derived; exact .inr derived
    idle := fun noProgramme k idle =>
      (h'.seats j).idle ((h.kept.programme j).trans noProgramme) k ((h.seats j).idle noProgramme k idle) }

theorem SeatsFollow.foldl {α : Type} {f : State → α → State} (hf : ∀ s a, SeatsFollow s (f s a)) (l : List α)
    (s : State) : SeatsFollow s (l.foldl f s) := by
  induction l generalizing s with
  | nil => exact .refl s
  | cons a l ih => exact (hf s a).trans (ih _)

/-! ## Evaluation -/

theorem SeatsFollow.raiseRequest (s : State) (k : Fin 16) : SeatsFollow s (s.raiseRequest k) :=
  .of_eq (SeatWork.raiseRequest s k).slots (raiseRequest_seats s k)

theorem SeatsFollow.reevalSeat (w : Bool) (sel : Entry → Bool) (s : State) (j : Fin 6) :
    SeatsFollow s (s.reevalSeat w sel j) := by
  have kept := SeatsKept.reevalSeat w sel s j
  refine ⟨kept.1, fun j' => ?_⟩
  have keptAt := kept.2 j'
  unfold State.reevalSeat at keptAt ⊢
  split at keptAt
  · exact .refl s _
  · next p playing =>
    obtain ⟨seats, -⟩ := judgeAll_kept p s.seats[j].guardianPresent w sel s s.seats[j].entries
    have slots := (SeatWork.judgeAll p s.seats[j].guardianPresent w sel s s.seats[j].entries).slots
    dsimp only at keptAt ⊢
    rw [putSeat_seat, seats, deriveSeat_of_slots slots] at keptAt ⊢
    by_cases here : j' = j
    · subst here
      rw [if_pos rfl] at keptAt ⊢
      exact ⟨keptAt, .inr rfl, fun idle => by rw [playing] at idle; cases idle⟩
    · rw [if_neg here]
      exact .refl s _

theorem SeatsFollow.reeval (s : State) (sel : Entry → Bool) : SeatsFollow s (s.reeval sel) :=
  .foldl (.reevalSeat true sel) _ s

/-! ## Direct writes -/

/-- A direct write that leaves EXEMPT and IDLE entries alone (R59). -/
theorem SeatsFollow.writeEntries (s : State) {f : Seat → Entry → EntryState}
    (exempt : ∀ seat e, e.state = .exempt → f seat e = .exempt) (idle : ∀ seat e, e.state = .idle → f seat e = .idle) :
    SeatsFollow s (s.writeEntries f) := by
  refine ⟨rfl, fun j => ⟨(SeatsKept.writeEntries s f exempt).2 j, .inr ?_, fun _ k h e he own => ?_⟩⟩
  · rw [writeEntries_entries, writeEntries_programme]
    exact Vector.getElem_ofFn ..
  · rw [writeEntries_entries] at he
    obtain ⟨e, mem, rfl⟩ := List.mem_map.mp he
    exact idle _ e (h e mem own)

/-- The selection takes neither EXEMPT nor IDLE entries. -/
structure SparesUnjudged (sel : Seat → Entry → Bool) : Prop where
  exempt : ∀ seat e, e.state = .exempt → sel seat e = false
  idle : ∀ seat e, e.state = .idle → sel seat e = false

theorem isWaitingOf_spares (k : Fin 16) : SparesUnjudged (isWaitingOf k) where
  exempt := isWaitingOf_exempt k
  idle seat e h := by simp [isWaitingOf, h, EntryState.isWaiting]

theorem isTarget_spares (s : State) (k : Fin 16) : SparesUnjudged (s.isTarget k) where
  exempt seat e h := by simp [State.isTarget, h, EntryState.isClearOrLow]
  idle seat e h := by simp [State.isTarget, h, EntryState.isClearOrLow]

section
variable {sel : Seat → Entry → Bool} (spares : SparesUnjudged sel)
include spares

/-- A direct write of the selected entries alone. -/
theorem SeatsFollow.writeSelected (s : State) (f : Seat → Entry → EntryState) :
    SeatsFollow s (s.writeEntries fun seat e => if sel seat e then f seat e else e.state) := by
  refine .writeEntries s (fun seat e h => ?_) (fun seat e h => ?_)
  · rw [spares.exempt seat e h]; exact h
  · rw [spares.idle seat e h]; exact h

theorem SeatsFollow.windDownOrDeny (s : State) (k : Fin 16) : SeatsFollow s (s.windDownOrDeny k sel) := by
  unfold State.windDownOrDeny State.denyTime; dsimp only
  split
  · refine (SeatsFollow.writeEntries s (fun seat e h => ?_) (fun seat e h => ?_)).trans
      (.of_eq (State.useWindDown_slots ..) (State.useWindDown_seats ..))
    · rw [spares.exempt seat e h]; exact h
    · rw [spares.idle seat e h]; exact h
  · exact .writeSelected spares s _

end

theorem SeatsFollow.exhaustionCheck (s : State) (k : Fin 16) : SeatsFollow s (s.exhaustionCheck k) := by
  have spares := isTarget_spares s k
  unfold State.exhaustionCheck State.exhaust; dsimp only
  split
  · split
    · exact .writeSelected spares s _
    · split
      · exact (SeatsFollow.raiseRequest s k).trans (.writeSelected spares _ _)
      · exact .windDownOrDeny spares s k
  · exact .refl s

theorem SeatsFollow.afterDecrease (s before : State) (k : Fin 16) : SeatsFollow s (s.afterDecrease before k) := by
  unfold State.afterDecrease; split
  · exact .exhaustionCheck s k
  · exact .refl s

theorem SeatsFollow.endOfWait (s : State) (k : Fin 16) : SeatsFollow s (s.endOfWait k) := by
  unfold State.endOfWait; split
  · split
    · exact .reeval ..
    · exact .windDownOrDeny (isWaitingOf_spares k) s k
  · exact .refl s

/-- Stage 2 of the metering second writes WINDING entries alone (R106). -/
theorem SeatsFollow.endWindDowns (s : State) : SeatsFollow s s.endWindDowns :=
  .writeEntries s (fun seat e h => by rw [h]) (fun seat e h => by rw [h])

/-- Stage 3 of the metering second writes CLEAR and LOW entries alone (R100, R103). -/
theorem SeatsFollow.checkProfile (s : State) (k : Fin 16) : SeatsFollow s (s.checkProfile k) := by
  unfold State.checkProfile
  split
  · split
    · refine SeatsFollow.trans ?_ (.exhaustionCheck ..)
      exact .writeEntries s (fun seat e h => by simp [h, EntryState.isClearOrLow])
        (fun seat e h => by simp [h, EntryState.isClearOrLow])
    · exact .refl s
  · exact .refl s

/-! ## Draws and the end of an event -/

theorem SeatsFollow.creditDraw (s : State) (k : Fin 16) (g : Nat) : SeatsFollow s (s.creditDraw k g) := by
  unfold State.creditDraw; dsimp only
  refine SeatsFollow.trans (t := { s with
    meters := s.meters.set k { s.meters[k] with drawn := s.meters[k].drawn + g, draws := s.meters[k].draws + 1 },
    meterDirty := true }) (.of_eq rfl rfl) ?_
  split
  · exact .reeval ..
  · split
    · exact .raiseRequest ..
    · exact .windDownOrDeny (isWaitingOf_spares k) _ k

theorem SeatsFollow.drawFor (s : State) (r : Request) : SeatsFollow s (s.drawFor r) := by
  unfold State.drawFor; dsimp only
  refine SeatsFollow.trans ?_ (SeatsFollow.creditDraw ..)
  exact .of_eq rfl rfl

theorem SeatsFollow.draws (fuel : Nat) (s : State) : SeatsFollow s (State.draws fuel s).1 := by
  induction fuel generalizing s with
  | zero => exact .refl s
  | succ n ih =>
    unfold State.draws; split
    · exact .refl s
    · split
      · exact .refl s
      · exact (SeatsFollow.drawFor s _).trans (ih _)

theorem SeatsFollow.opportunity (s : State) : SeatsFollow s s.opportunity.1 := by
  unfold State.opportunity; dsimp only; split
  · exact (SeatsFollow.draws ..).trans (.of_eq rfl rfl)
  · exact .draws ..

theorem SeatsFollow.noteSeats (before s : State) : SeatsFollow s (State.noteSeats before s) :=
  .of_eq (SeatWork.noteSeats before s).slots (noteSeats_seats before s)

/-- The end of an event leaves each seat as it was or derives it anew (R46, R60, R128). -/
theorem SeatsFollow.settled (s before : State) (offered : Bool) : SeatsFollow s (s.settled before offered) := by
  unfold State.settled State.settle State.settleWaits; dsimp only
  refine SeatsFollow.trans (t := s.releaseWaits) (.of_eq rfl rfl) ?_
  split
  · exact (SeatsFollow.opportunity ..).trans (.noteSeats ..)
  · exact .noteSeats ..

end Sys2Proof.Machine
end

section
/-! SUPPORT. What holds of a command's step from what holds of its owner's, and the transactions, which touch the link
alone (R196 to R200). -/

namespace Sys2Proof.Machine

/-- What the state as it was and every outcome of a command's fields meet, the outcome of the request meets (R197). -/
theorem withFields_meets {P : State → Prop} {α : Type} {s : State} {f : α → State × Reply} (same : P s)
    (h : ∀ a, P (f a).1) (req : Req α) : P (withFields req s f).1 := by
  cases req with
  | fields a => exact h a
  | misfit => exact same

/-- A guarded command leaves the state as it was or does what it guards (R173). -/
theorem guarded_meets {P : State → Prop} {s : State} {f : State × Reply} (same : P s) (h : P f.1) :
    P (guarded s f).1 := by
  unfold guarded
  split
  · exact h
  · exact same

/-- A relation of before and after that does not speak of the link holds over a command's step, if it does over its
owner's (R198, R199). -/
theorem command_relates {R : State → State → Prop} (trans : ∀ {s t u}, R s t → R t u → R s u)
    (link : ∀ s l, R s { s with link := l }) {owner : State → State × Reply} (h : ∀ s, R s (owner s).1) (i : Instr)
    (s : State) : R s (State.command i owner s) := by
  have answered : ∀ s, R s (State.answer i (owner s)) := fun s => trans (h s) (link _ _)
  unfold State.command; dsimp only
  obtain ⟨met, run⟩ := dispatch_link i { s with link.miso := [] }
  split
  · exact answered s
  · rw [run]
    split
    · exact trans (link s met) (answered _)
    · exact link s met

/-! ## The transactions -/

theorem discardHeld_link (s : State) : ∃ link, s.discardHeld = { s with link := link } := by
  unfold State.discardHeld
  split
  · exact ⟨s.link, rfl⟩
  · exact ⟨_, rfl⟩

theorem refuseFrame_link (status : Status) (code : Byte) (s : State) :
    ∃ link, s.refuseFrame status code = { s with link := link } := by
  obtain ⟨link, discarded⟩ := discardHeld_link s
  unfold State.refuseFrame
  split
  · exact ⟨_, rfl⟩
  · exact ⟨_, by rw [discarded]; rfl⟩

theorem takeWrite_link (frame : List Byte) (s : State) : ∃ link, takeWrite frame s = { s with link := link } := by
  unfold takeWrite; dsimp only
  split
  · exact ⟨_, rfl⟩
  · split
    · exact refuseFrame_link _ _ { s with link.miso := [] }
    · exact refuseFrame_link _ _ { s with link.miso := [] }
    · exact dispatch_link _ { s with link.miso := [] }

theorem delivered_link (s : State) : ∃ link, s.delivered = { s with link := link } := by
  unfold State.delivered
  split <;> exact ⟨_, rfl⟩

theorem takeFetch_link (clocked : Nat) (s : State) : ∃ link, takeFetch clocked s = { s with link := link } := by
  unfold takeFetch; dsimp only
  split
  · exact delivered_link { s with link.miso := _ }
  · exact ⟨_, rfl⟩

theorem takeBad_link (selector : Option Byte) (s : State) : ∃ link, takeBad selector s = { s with link := link } := by
  unfold takeBad
  split
  · exact ⟨s.link, rfl⟩
  · split
    · exact takeWrite_link [] s
    · split
      · exact takeFetch_link 0 s
      · exact ⟨_, rfl⟩

end Sys2Proof.Machine
end

section
/-! SUPPORT. The rows of the store, of the start-up load and of the guardian unit's window leave the seats as they
are. -/

namespace Sys2Proof.Machine

variable (s : State)

theorem commit_seats (b : BlockId) : (s.commit b).seats = s.seats := (StoreWork.commit s b).frame.1

theorem closeWindow_seats : s.closeWindow.seats = s.seats := by
  unfold State.closeWindow
  split <;> rfl

theorem shuffle_seats {α : Type} (fuel : Nat) (work : List α) : (State.shuffle fuel work s).2.seats = s.seats := by
  obtain ⟨n, run⟩ := shuffle_state fuel work s
  rw [run]

/-! ## The store -/

theorem takeEraseComplete_seats (interrupted : Bool) : (takeEraseComplete interrupted s).seats = s.seats := by
  unfold takeEraseComplete
  split
  · split <;> rfl
  · rfl

theorem takeProgramComplete_seats (interrupted : Bool) : (takeProgramComplete interrupted s).seats = s.seats := by
  unfold takeProgramComplete
  split
  · split <;> rfl
  · rfl

theorem takeNextWrite_seats : s.takeNextWrite.seats = s.seats := (StoreWork.takeNextWrite s).frame.1

theorem takeVerifyComplete_seats (interrupted isMatch : Bool) :
    (takeVerifyComplete interrupted isMatch s).seats = s.seats := by
  unfold takeVerifyComplete
  split
  · split
    · split
      · exact takeNextWrite_seats _
      · split
        · exact (StoreWork.beginErase s _).frame.1
        · exact takeNextWrite_seats _
    · rfl
  · rfl

theorem takeSupplyWarning_seats : (takeSupplyWarning s).seats = s.seats := by
  unfold takeSupplyWarning
  split
  · rfl
  · exact (StoreWork.urgentSave _).frame.1

theorem restartWrite_seats : s.restartWrite.seats = s.seats := by
  unfold State.restartWrite; dsimp only
  split
  · exact (StoreWork.beginErase _ _).frame.1
  · rfl

theorem takeCommitIntervalEnd_seats : (takeCommitIntervalEnd s).seats = s.seats := by
  unfold takeCommitIntervalEnd; dsimp only
  split
  · split
    · exact commit_seats _ _
    · rfl
  · rfl

theorem retryFailed_seats : s.retryFailed.seats = s.seats := by
  suffices ∀ (l : List BlockId) (x : State), (l.foldl State.commit x).seats = x.seats from this ..
  intro l
  induction l with
  | nil => exact fun _ => rfl
  | cons b l ih => exact fun x => (ih _).trans (commit_seats x b)

/-! ## The start-up load -/

theorem settleHousehold_seats (r : ReadResult) : (s.settleHousehold r).seats = s.seats := by
  unfold State.settleHousehold; dsimp only
  split
  · rfl
  · split
    · rfl
    · exact commit_seats _ _
  · exact commit_seats _ _

theorem settleScheme_seats (k : Fin 8) (r : ReadResult) : (s.settleScheme k r).seats = s.seats := by
  unfold State.settleScheme; dsimp only
  split
  · rfl
  · split <;> rfl
  · rfl

theorem withoutRecord_seats (k : Fin 16) (slot : Slot) (v : BlockStatus) : (s.withoutRecord k slot v).seats = s.seats := by
  unfold State.withoutRecord
  split
  · exact commit_seats _ _
  · rfl

theorem tokenLaw_seats : s.tokenLaw.seats = s.seats := by
  unfold State.tokenLaw
  induction List.finRange 16 generalizing s with
  | nil => rfl
  | cons k l ih =>
    rw [List.foldl_cons, ih]
    unfold State.tokenLawAt
    split <;> rfl

theorem settleProfile_seats (k : Fin 16) (r : ReadResult) : (s.settleProfile k r).seats = s.seats := by
  unfold State.settleProfile; dsimp only
  have lawTaken : ∀ x : State, (if k = 15 then x.tokenLaw else x).seats = x.seats := by
    intro x
    split
    · exact tokenLaw_seats x
    · rfl
  rw [lawTaken]
  split
  · exact withoutRecord_seats ..
  · split
    · rfl
    · exact withoutRecord_seats ..
  · exact withoutRecord_seats ..

theorem settleMeters_seats (r : ReadResult) : (s.settleMeters r).seats = s.seats := by
  unfold State.settleMeters
  split
  · rfl
  · split <;> rfl
  · rfl

theorem settleGrants_seats (r : ReadResult) : (s.settleGrants r).seats = s.seats := by
  unfold State.settleGrants; dsimp only
  split
  · rfl
  · split
    · split
      · exact commit_seats _ _
      · rfl
    · exact commit_seats _ _
  · exact commit_seats _ _

theorem handBlock_seats (b : BlockId) (r : ReadResult) : (s.handBlock b r).seats = s.seats := by
  unfold State.handBlock
  split
  · exact settleProfile_seats ..
  · split
    · exact settleScheme_seats ..
    · split
      · exact settleHousehold_seats ..
      · split
        · exact settleGrants_seats ..
        · exact settleMeters_seats ..

theorem endLoad_seats : s.endLoad.seats = s.seats := by
  unfold State.endLoad; dsimp only
  rw [takeNextWrite_seats]
  split <;> rfl

theorem takeStoreBlockRead_seats : (takeStoreBlockRead s).seats = s.seats := by
  have read : ∀ n b, (s.readBlock n b).seats = s.seats := fun n b => handBlock_seats _ b _
  unfold takeStoreBlockRead
  split
  · rfl
  · split
    · rfl
    · dsimp only
      split
      · exact (endLoad_seats _).trans (read ..)
      · exact read ..

end Sys2Proof.Machine
end

section
/-! SUPPORT. Which shared operations keep the seat law (R42, R46, R48). -/

namespace Sys2Proof.Machine

/-- The seats meet their law after, if they did before. -/
structure SeatLawKept (s t : State) : Prop where
  law : s.SeatLaw → t.SeatLaw

theorem SeatLawKept.of_seats {s t : State} (h : t.seats = s.seats) : SeatLawKept s t := by
  constructor
  unfold State.SeatLaw State.viewers
  rw [h]
  exact id

theorem SeatLawKept.refl (s : State) : SeatLawKept s s := ⟨id⟩

theorem SeatLawKept.trans {s t u : State} (h : SeatLawKept s t) (h' : SeatLawKept t u) : SeatLawKept s u :=
  ⟨h'.law ∘ h.law⟩

theorem SeatLawKept.foldl {α : Type} {f : State → α → State} (hf : ∀ s a, SeatLawKept s (f s a)) (l : List α)
    (s : State) : SeatLawKept s (l.foldl f s) := by
  induction l generalizing s with
  | nil => exact .refl s
  | cons a l ih => exact (hf s a).trans (ih _)

/-- One seat written anew, with at most three entries of different profiles (R42, R48). -/
theorem State.SeatLaw.putSeat {s : State} (law : s.SeatLaw) (j : Fin 6) {es : List Entry} (p : Option Programme)
    (short : es.length ≤ 3) (distinct : (es.map (·.slot)).Nodup) : (s.putSeat j es p).SeatLaw := by
  intro j'
  unfold State.viewers
  rw [putSeat_seat]
  split
  · exact ⟨rfl, short, distinct⟩
  · exact law j'

/-- One seat written anew, with entries of profiles that it held. -/
theorem SeatLawKept.putSeat (s : State) (j : Fin 6) {es : List Entry} (p : Option Programme)
    (held : (es.map (·.slot)).Sublist (s.viewers j)) : SeatLawKept s (s.putSeat j es p) := by
  refine ⟨fun law => ?_⟩
  obtain ⟨-, short, distinct⟩ := law j
  refine law.putSeat j p ?_ (distinct.sublist held)
  have := held.length_le
  unfold State.viewers at this
  rw [List.length_map, List.length_map] at this
  exact this.trans short

/-- An event that seats nobody and plays nothing. -/
theorem SeatLawKept.of_follow {s t : State} (h : SeatsFollow s t) : SeatLawKept s t := by
  refine ⟨fun law j => ?_⟩
  obtain ⟨state, short, distinct⟩ := law j
  have viewers := h.kept.viewers j
  refine ⟨?_, ?_, viewers ▸ distinct⟩
  · rcases (h.seats j).derived with same | derived
    · rw [same]; exact state
    · rw [derived]; rfl
  · have := congrArg List.length viewers
    unfold State.viewers at this
    rw [List.length_map, List.length_map] at this
    rw [this]; exact short

theorem SeatLawKept.settled (s before : State) (offered : Bool) : SeatLawKept s (s.settled before offered) :=
  .of_follow (.settled ..)

theorem SeatLawKept.reeval (s : State) (sel : Entry → Bool) : SeatLawKept s (s.reeval sel) := .of_follow (.reeval ..)

theorem SeatLawKept.commit (s : State) (b : BlockId) : SeatLawKept s (s.commit b) := .of_seats (commit_seats s b)

theorem SeatLawKept.afterDecrease (s before : State) (k : Fin 16) : SeatLawKept s (s.afterDecrease before k) :=
  .of_follow (.afterDecrease ..)

/-! ## The seat table -/

theorem SeatLawKept.dropEntry (k : Fin 16) (s : State) (j : Fin 6) : SeatLawKept s (s.dropEntry k j) := by
  have left : SeatLawKept s (s.putSeat j (s.seats[j].entries.filter fun e => e.slot ≠ k) s.seats[j].programme) :=
    .putSeat s j _ (List.filter_sublist.map _)
  unfold State.dropEntry; dsimp only
  split
  · split
    · exact left.trans (.of_follow (.reevalSeat ..))
    · exact left
  · exact .refl s

theorem holdsEntry_eq_false_iff (s : State) (j : Fin 6) (k : Fin 16) :
    holdsEntry s.seats[j] k = false ↔ k ∉ s.viewers j := by
  simp [holdsEntry, State.viewers]

/-- A profile that the seat does not hold joins a seat with fewer than three (R48). -/
theorem enter_seatLaw {s : State} (law : s.SeatLaw) {j : Fin 6} {k : Fin 16} (absent : k ∉ s.viewers j)
    (room : s.seats[j].entries.length < 3) : (s.enter j k).SeatLaw := by
  have distinct : ((s.seats[j].entries ++ [Entry.mk k .idle]).map (·.slot)).Nodup := by
    rw [List.map_append]
    exact (law j).2.2.append (List.nodup_singleton k) (List.disjoint_singleton.mpr absent)
  have seated := law.putSeat j s.seats[j].programme (by rw [List.length_append]; exact room) distinct
  have judged := SeatsFollow.reevalSeat true (ofProfile k) (s.putSeat j (s.seats[j].entries ++ [⟨k, .idle⟩])
    s.seats[j].programme) j
  unfold State.enter; dsimp only
  refine (SeatLawKept.settled ..).law ((SeatLawKept.of_follow ?_).law seated)
  split
  · exact judged.trans (.reevalSeat ..)
  · exact judged

theorem SeatLawKept.rederiveSeat (k : Fin 8) (s : State) (j : Fin 6) : SeatLawKept s (s.rederiveSeat k j) := by
  rw [rederiveSeat_eq]
  split
  · exact (SeatLawKept.putSeat s j _ (.refl _)).trans (.of_follow (.reevalSeat ..))
  · exact .refl s

theorem SeatLawKept.changeScheme (s : State) (k : Fin 8) (c : SchemeSlot) : SeatLawKept s (s.changeScheme k c) := by
  unfold State.changeScheme; dsimp only
  refine SeatLawKept.trans ?_ (SeatLawKept.settled ..)
  refine SeatLawKept.trans ?_ (SeatLawKept.commit ..)
  refine SeatLawKept.trans ?_ (SeatLawKept.foldl (SeatLawKept.rederiveSeat k) _ _)
  exact .of_seats rfl

/-! ## The parts of a rollover and of a clkset -/

theorem SeatLawKept.rollMeters (s : State) : SeatLawKept s s.rollMeters := by
  unfold State.rollMeters; dsimp only
  refine SeatLawKept.trans ?_ (SeatLawKept.reeval ..)
  refine SeatLawKept.trans ?_ (SeatLawKept.commit ..)
  exact .of_seats rfl

theorem SeatLawKept.rollPool (s : State) : SeatLawKept s s.rollPool := by
  unfold State.rollPool; dsimp only
  refine SeatLawKept.trans ?_ (SeatLawKept.foldl (fun t (r : Request) => .of_follow (.endOfWait t r.slot)) _ _)
  exact .of_seats rfl

theorem SeatLawKept.retireGrants (s : State) (sel : Grant → Bool) : SeatLawKept s (s.retireGrants sel) :=
  .of_seats (State.retireGrants_seats ..)

theorem SeatLawKept.retireExtra (s : State) : SeatLawKept s s.retireExtra := by
  unfold State.retireExtra; dsimp only
  split
  · refine SeatLawKept.trans ?_ (SeatLawKept.reeval ..)
    refine SeatLawKept.trans ?_ (SeatLawKept.foldl (fun t k => .afterDecrease t s k) _ _)
    exact (SeatLawKept.retireGrants ..).trans (.commit ..)
  · exact .refl s

theorem SeatLawKept.expireGrants (s : State) (now : Moment) : SeatLawKept s (s.expireGrants now) := by
  unfold State.expireGrants; dsimp only
  split
  · exact ((SeatLawKept.retireGrants ..).trans (.commit ..)).trans (.reeval ..)
  · exact .refl s

theorem SeatLawKept.takeRoll (s : State) (part : RollPart) : SeatLawKept s (s.takeRoll part) := by
  cases part with
  | meters => exact .rollMeters s
  | pool => exact .rollPool s
  | grants => exact .retireExtra s
  | seats => exact .reeval s everyEntry

theorem SeatLawKept.takeClockWork (s : State) (w : ClockWork) : SeatLawKept s (s.takeClockWork w) := by
  cases w with
  | compare => exact .expireGrants s s.now
  | roll part => exact .takeRoll s part

theorem SeatLawKept.ordered (s : State) (work : List ClockWork) : SeatLawKept s (s.ordered work).2 := by
  unfold State.ordered; dsimp only
  split
  · exact .refl s
  · exact .of_seats (shuffle_seats ..)

theorem SeatLawKept.handOver (s before : State) : SeatLawKept s (s.handOver before) := by
  unfold State.handOver; dsimp only
  refine SeatLawKept.trans ?_ (SeatLawKept.settled ..)
  refine SeatLawKept.trans ?_ (SeatLawKept.foldl SeatLawKept.takeClockWork _ _)
  refine SeatLawKept.trans ?_ (SeatLawKept.ordered ..)
  split
  · exact .of_seats rfl
  · exact .refl s

/-! ## The events of a second -/

theorem SeatLawKept.takeHanded (s : State) (w : Handed) : SeatLawKept s (s.takeHanded w) := by
  cases w with
  | boundary =>
    refine SeatLawKept.trans ?_ ((SeatLawKept.reeval _ everyEntry).trans (.settled ..))
    exact .of_seats rfl
  | roll part =>
    refine SeatLawKept.trans ?_ ((SeatLawKept.takeRoll _ part).trans (.settled ..))
    exact .of_seats rfl

theorem SeatLawKept.takeMinuteBoundary (s : State) : SeatLawKept s (takeMinuteBoundary s) := by
  unfold Machine.takeMinuteBoundary; dsimp only
  split
  · exact .refl s
  · exact .takeHanded ..
  · refine SeatLawKept.trans ?_ (SeatLawKept.foldl SeatLawKept.takeHanded _ _)
    exact .of_seats (shuffle_seats ..)

theorem SeatLawKept.takeEveryHanded (s : State) : SeatLawKept s (takeEveryHanded s) := by
  unfold Machine.takeEveryHanded; dsimp only
  split
  · exact .refl s
  · exact .takeHanded ..
  · refine SeatLawKept.trans ?_ (SeatLawKept.foldl SeatLawKept.takeHanded _ _)
    exact .of_seats (shuffle_seats ..)

theorem SeatLawKept.takeGrantExpiry (s : State) : SeatLawKept s (takeGrantExpiry s) := by
  unfold Machine.takeGrantExpiry; dsimp only
  split
  · refine SeatLawKept.trans ?_ ((SeatLawKept.expireGrants _ _).trans (.settled ..))
    exact .of_seats rfl
  · exact .refl s

theorem SeatLawKept.meterSecond (s : State) : SeatLawKept s s.meterSecond := by
  have debited : SeatLawKept s s.debitAll := .of_seats rfl
  have checked := debited.trans (.of_follow ((SeatsFollow.endWindDowns _).trans
    (.foldl SeatsFollow.checkProfile (List.finRange 16) _)))
  unfold State.meterSecond; dsimp only
  have taken : ∀ x : State, SeatLawKept x { x with due.metering := false } := fun x => .of_seats rfl
  exact (checked.trans (taken _)).trans (.settled ..)

theorem SeatLawKept.takeMeteringSecond (s : State) : SeatLawKept s (takeMeteringSecond s) := by
  unfold Machine.takeMeteringSecond
  split
  · exact .meterSecond s
  · exact .refl s

theorem SeatLawKept.takeWindDownEnd (s : State) : SeatLawKept s (takeWindDownEnd s) := by
  unfold Machine.takeWindDownEnd
  split
  · exact .meterSecond s
  · exact .of_follow ((SeatsFollow.endWindDowns s).trans (.settled ..))

theorem SeatLawKept.takePoolWaitTimeout (s : State) : SeatLawKept s (takePoolWaitTimeout s) := by
  unfold Machine.takePoolWaitTimeout State.timeoutCheck; dsimp only
  split
  · refine SeatLawKept.trans ?_ (SeatLawKept.settled ..)
    refine SeatLawKept.trans ?_ (SeatLawKept.foldl (fun t (r : Request) => .of_follow (.endOfWait t r.slot)) _ _)
    exact .of_seats rfl
  · exact .refl s

theorem SeatLawKept.takeWindowExpiry (s : State) : SeatLawKept s (takeWindowExpiry s) := by
  unfold Machine.takeWindowExpiry
  split
  · exact .of_seats (closeWindow_seats s)
  · exact .refl s

theorem SeatLawKept.takeLockoutEnd (s : State) : SeatLawKept s (takeLockoutEnd s) := by
  unfold Machine.takeLockoutEnd
  split
  · exact .of_seats rfl
  · exact .refl s

theorem SeatLawKept.takeCommitIntervalEnd (s : State) : SeatLawKept s (takeCommitIntervalEnd s) :=
  .of_seats (takeCommitIntervalEnd_seats s)

theorem SeatLawKept.flushDue (s : State) : SeatLawKept s s.flushDue :=
  ((((((SeatLawKept.takeEveryHanded s).trans (.takeGrantExpiry _)).trans (.takeMeteringSecond _)).trans
    (.takeCommitIntervalEnd _)).trans (.takePoolWaitTimeout _)).trans (.takeWindowExpiry _)).trans (.takeLockoutEnd _)

theorem SeatLawKept.rollAtMidnight (s before : State) : SeatLawKept s (s.rollAtMidnight before) := by
  have rolled : SeatLawKept s s.installMeterDay := .of_seats rfl
  unfold State.rollAtMidnight; dsimp only
  split
  · exact rolled.trans (((SeatLawKept.rollMeters _).trans (.rollPool _)).trans (.settled ..))
  · refine rolled.trans (SeatLawKept.trans ?_ (SeatLawKept.foldl (fun t p => .takeHanded t (.roll p)) _ _))
    exact .of_seats (shuffle_seats ..)

theorem SeatLawKept.takeSecond (s : State) : SeatLawKept s (takeSecond s) := by
  have ticked : SeatLawKept s s.flushDue.handSecond := (SeatLawKept.flushDue s).trans (.of_seats rfl)
  unfold Machine.takeSecond; dsimp only
  split
  · exact ticked.trans (.rollAtMidnight ..)
  · exact ticked

end Sys2Proof.Machine
end

section
/-! SUPPORT. Every command's owner keeps the seat law. -/

namespace Sys2Proof.Machine

variable (s : State)

/-- A command that only answers. -/
theorem SeatLawKept.of_read {s t : State} (h : t = s) : SeatLawKept s t := by
  rw [h]; exact .refl s

theorem sload_seatLaw (req : Req SloadArgs) : SeatLawKept s (sload req s).1 := by
  unfold sload
  refine withFields_meets (.refl s) (fun a => ?_) req
  dsimp only
  split
  · exact .refl s
  · split
    · exact .refl s
    · split
      · exact .refl s
      · dsimp only
        exact .changeScheme ..

theorem sclr_seatLaw (req : Req Byte) : SeatLawKept s (sclr req s).1 := by
  unfold sclr
  refine withFields_meets (.refl s) (fun b => ?_) req
  split
  · exact .refl s
  · split
    · exact .refl s
    · split
      · exact .refl s
      · dsimp only
        exact .changeScheme ..

theorem slock_seatLaw (req : Req Byte) : SeatLawKept s (slock req s).1 := by
  unfold slock
  refine withFields_meets (.refl s) (fun b => ?_) req
  split
  · exact .refl s
  · split
    · exact .refl s
    · split
      · exact .refl s
      · exact .of_seats (commit_seats ..)

theorem eopen_seatLaw (req : Req EopenArgs) : SeatLawKept s (eopen req s).1 := by
  unfold eopen State.openEdit
  refine guarded_meets (.refl s) (withFields_meets (.refl s) (fun a => .of_seats ?_) req)
  split
  · rfl
  · split
    · split
      · rfl
      · split
        · rfl
        · split <;> rfl
    · split
      · split
        · rfl
        · split <;> rfl
      · rfl

theorem eset_seatLaw (req : Req EsetArgs) : SeatLawKept s (eset req s).1 := by
  unfold eset
  split
  · exact .refl s
  · refine withFields_meets (.refl s) (fun a => .of_seats ?_) req
    dsimp only
    split
    · rfl
    · split
      · rfl
      · split <;> rfl

theorem installNew_seats (b : EditBuffer) : (s.installNew b).seats = s.seats :=
  (commit_seats ..).trans (commit_seats ..)

theorem SeatLawKept.installChange (b : EditBuffer) : SeatLawKept s (s.installChange b) := by
  rw [installChange_eq]
  have decreased : SeatLawKept (s.changed b) (s.decreased b) := .afterDecrease ..
  refine SeatLawKept.trans ?_ (decreased.trans ((SeatLawKept.reeval ..).trans (.settled ..)))
  exact .of_seats rfl

theorem ecommit_seatLaw (req : Req Unit) : SeatLawKept s (ecommit req s).1 := by
  unfold ecommit
  split
  · exact .refl s
  · refine withFields_meets (.refl s) (fun _ => ?_) req
    split
    · exact .refl s
    · split
      · exact .of_seats (installNew_seats ..)
      · dsimp only
        exact .installChange ..

theorem edrop_seatLaw (req : Req Unit) : SeatLawKept s (edrop req s).1 := by
  unfold edrop
  refine withFields_meets (.refl s) (fun _ => ?_) req
  exact .of_seats rfl

theorem SeatLawKept.retired (k : Fin 16) : SeatLawKept s (s.retired k) := by
  rw [retired_eq]
  have unseated : SeatLawKept s (s.unseated k) := by
    rw [State.unseated]; exact SeatLawKept.foldl (SeatLawKept.dropEntry k) _ s
  refine unseated.trans (SeatLawKept.trans ?_ (SeatLawKept.settled ..))
  exact .of_seats rfl

theorem retire_seatLaw (req : Req Byte) : SeatLawKept s (retire req s).1 := by
  unfold retire
  refine guarded_meets (.refl s) (withFields_meets (.refl s) (fun b => ?_) req)
  split
  · exact .refl s
  · split
    · exact .refl s
    · split
      · exact .refl s
      · split
        · exact .refl s
        · exact .retired ..

theorem join_seatLaw (req : Req JoinArgs) : SeatLawKept s (join req s).1 := by
  unfold join
  refine withFields_meets (.refl s) (fun a => ?_) req
  dsimp only
  split
  · exact .refl s
  · next j _ =>
    split
    · exact .refl s
    · next absent =>
      split
      · exact .refl s
      · next room =>
        rw [Bool.not_eq_true, holdsEntry_eq_false_iff] at absent
        exact ⟨fun law => enter_seatLaw law absent (Nat.not_le.mp room)⟩

theorem leave_seatLaw (req : Req LeaveArgs) : SeatLawKept s (leave req s).1 := by
  unfold leave
  refine withFields_meets (.refl s) (fun a => ?_) req
  split
  · split
    · exact (SeatLawKept.dropEntry ..).trans (.settled ..)
    · exact .refl s
  · exact .refl s

theorem vacate_seatLaw (req : Req Byte) : SeatLawKept s (vacate req s).1 := by
  unfold vacate
  refine withFields_meets (.refl s) (fun b => ?_) req
  split
  · exact .refl s
  · exact (SeatLawKept.putSeat s _ (es := []) none (List.nil_sublist _)).trans (.settled ..)

theorem play_seatLaw (req : Req PlayArgs) : SeatLawKept s (play req s).1 := by
  unfold play
  refine withFields_meets (.refl s) (fun a => ?_) req
  split
  · exact (SeatLawKept.putSeat s _ _ (.refl _)).trans (.of_follow ((SeatsFollow.reevalSeat ..).trans (.settled ..)))
  · exact .refl s

theorem endp_seatLaw (req : Req Byte) : SeatLawKept s (endp req s).1 := by
  unfold endp
  refine withFields_meets (.refl s) (fun b => ?_) req
  split
  · exact .refl s
  · split
    · refine (SeatLawKept.putSeat s _ none ?_).trans (.settled ..)
      rw [List.map_map]; exact .refl _
    · exact .refl s

theorem topup_seatLaw (req : Req Half) : SeatLawKept s (topup req s).1 := by
  unfold topup State.topUp
  refine guarded_meets (.refl s) (withFields_meets (.refl s) (fun x => ?_) req)
  dsimp only
  split
  · exact .refl s
  · split
    · refine SeatLawKept.trans ?_ (SeatLawKept.settled _ s true)
      exact .of_seats (commit_seats ..)
    · exact .refl s

theorem SeatLawKept.putGrant (i k : Fin 16) (b : GrantBody) : SeatLawKept s (s.putGrant i k b) := by
  unfold State.putGrant; dsimp only
  refine SeatLawKept.trans ?_ ((SeatLawKept.reeval ..).trans (.settled ..))
  exact .of_seats (commit_seats ..)

theorem addGrant_seatLaw (k : Fin 16) (b : GrantBody) : SeatLawKept s (s.addGrant k b).1 := by
  unfold State.addGrant State.changeGrant State.createGrant
  split
  · split
    · dsimp only
      split
      · exact .refl s
      · dsimp only
        exact .putGrant ..
    · exact .refl s
  · split
    · dsimp only
      exact .putGrant ..
    · exact .refl s

theorem gadd_seatLaw (req : Req GaddArgs) : SeatLawKept s (gadd req s).1 := by
  unfold gadd
  refine guarded_meets (.refl s) (withFields_meets (.refl s) (fun a => ?_) req)
  split
  · split
    · exact .refl s
    · split
      · exact addGrant_seatLaw ..
      · split
        · exact .refl s
        · split
          · exact .refl s
          · exact addGrant_seatLaw ..
  · exact .refl s

theorem grevoke_seatLaw (req : Req Byte) : SeatLawKept s (grevoke req s).1 := by
  unfold grevoke State.revoke
  refine guarded_meets (.refl s) (withFields_meets (.refl s) (fun b => ?_) req)
  split
  · exact .refl s
  · split
    · exact .refl s
    · dsimp only
      refine SeatLawKept.trans ?_ (((SeatLawKept.afterDecrease ..).trans (.reeval ..)).trans (.settled ..))
      exact .of_seats (commit_seats ..)

theorem clkset_seatLaw (req : Req ClksetArgs) : SeatLawKept s (clkset req s).1 := by
  unfold clkset
  refine withFields_meets (.refl s) (fun a => ?_) req
  dsimp only
  split
  · exact .refl s
  · split
    · exact .refl s
    · refine SeatLawKept.trans ?_ (SeatLawKept.handOver ..)
      exact .of_seats rfl

theorem pin_seatLaw (req : Req PinArgs) : SeatLawKept s (pin req s).1 := by
  unfold pin
  refine withFields_meets (.refl s) (fun a => .of_seats ?_) req
  dsimp only
  split
  · rfl
  · split
    · rfl
    · split
      · rfl
      · split <;> rfl

theorem repin_seatLaw (req : Req PinArgs) : SeatLawKept s (repin req s).1 := by
  unfold repin State.setPin
  refine guarded_meets (.refl s) (withFields_meets (.refl s) (fun a => .of_seats ?_) req)
  split
  · exact commit_seats ..
  · split
    · exact commit_seats ..
    · rfl

theorem close_seatLaw (req : Req Unit) : SeatLawKept s (close req s).1 := by
  unfold close
  exact withFields_meets (.refl s) (fun _ => .of_seats (closeWindow_seats s)) req

theorem hset_seatLaw (req : Req HsetArgs) : SeatLawKept s (hset req s).1 := by
  unfold hset State.putSettings
  refine guarded_meets (.refl s) (withFields_meets (.refl s) (fun a => ?_) req)
  have judged : ∀ h : Settings, SeatLawKept s (if h.groupOrder = s.settings.groupOrder then { s with settings := h }
      else (State.reeval { s with settings := h } everyEntry).settled s false) := by
    intro h
    split
    · exact .of_seats rfl
    · refine SeatLawKept.trans ?_ ((SeatLawKept.reeval ..).trans (.settled ..))
      exact .of_seats rfl
  dsimp only
  split
  · exact .refl s
  · dsimp only
    split
    · exact judged _
    · exact (judged _).trans (.commit ..)

theorem retry_seatLaw (req : Req Unit) : SeatLawKept s (retry req s).1 := by
  unfold retry
  exact withFields_meets (.refl s) (fun _ => .of_seats (retryFailed_seats s)) req

theorem notices_seatLaw (req : Req Unit) : SeatLawKept s (notices req s).1 := by
  unfold notices
  refine withFields_meets (.refl s) (fun _ => ?_) req
  exact .of_seats rfl

theorem vacantSeats_seatLaw {s : State} (h : s.seats = Vector.replicate 6 Seat.vacant) : s.SeatLaw := by
  intro j
  have vacant : s.seats[j] = Seat.vacant := by rw [h]; exact Vector.getElem_replicate ..
  unfold State.viewers
  rw [vacant]
  exact ⟨rfl, Nat.zero_le _, List.nodup_nil⟩

theorem restart_seatLaw (req : Req Unit) : SeatLawKept s (restart req s).1 := by
  unfold restart
  refine withFields_meets (.refl s) (fun _ => ⟨fun _ => vacantSeats_seatLaw ?_⟩) req
  exact closeWindow_seats s.emptied

end Sys2Proof.Machine
end

section
/-! PROOFS. The seat law after every step (R42, R46, R48), and O52. -/

namespace Sys2Proof.Machine

theorem command_seatLaw {owner : State → State × Reply} (h : ∀ s, SeatLawKept s (owner s).1) (i : Instr) (s : State) :
    SeatLawKept s (State.command i owner s) := command_relates .trans (fun _ _ => .of_seats rfl) h i s

/-- A transaction that touches the link alone. -/
theorem SeatLawKept.of_link {s t : State} (h : ∃ link, t = { s with link := link }) : SeatLawKept s t := by
  obtain ⟨link, rfl⟩ := h
  exact .of_seats rfl

theorem takeEvent_seatLaw (i : Instr) (s : State) : SeatLawKept s (takeEvent i s) := by
  cases i with
  | writeTransaction frame => exact .of_link (takeWrite_link frame s)
  | fetchTransaction clocked => exact .of_link (takeFetch_link clocked s)
  | badTransaction selector => exact .of_link (takeBad_link selector s)
  | sload req => exact command_seatLaw (sload_seatLaw · req) _ s
  | sclr req => exact command_seatLaw (sclr_seatLaw · req) _ s
  | slock req => exact command_seatLaw (slock_seatLaw · req) _ s
  | sread req => exact command_seatLaw (fun s => .of_read (sread_state s req)) _ s
  | eopen req => exact command_seatLaw (eopen_seatLaw · req) _ s
  | eset req => exact command_seatLaw (eset_seatLaw · req) _ s
  | ecommit req => exact command_seatLaw (ecommit_seatLaw · req) _ s
  | edrop req => exact command_seatLaw (edrop_seatLaw · req) _ s
  | pread req => exact command_seatLaw (fun s => .of_read (pread_state s req)) _ s
  | retire req => exact command_seatLaw (retire_seatLaw · req) _ s
  | lookup req => exact command_seatLaw (fun s => .of_read (lookup_state s req)) _ s
  | join req => exact command_seatLaw (join_seatLaw · req) _ s
  | leave req => exact command_seatLaw (leave_seatLaw · req) _ s
  | vacate req => exact command_seatLaw (vacate_seatLaw · req) _ s
  | play req => exact command_seatLaw (play_seatLaw · req) _ s
  | endp req => exact command_seatLaw (endp_seatLaw · req) _ s
  | sstat req => exact command_seatLaw (fun s => .of_read (sstat_state s req)) _ s
  | preview req => exact command_seatLaw (fun s => .of_read (preview_state s req)) _ s
  | mread req => exact command_seatLaw (fun s => .of_read (mread_state s req)) _ s
  | topup req => exact command_seatLaw (topup_seatLaw · req) _ s
  | pool req => exact command_seatLaw (fun s => .of_read (poolRead_state s req)) _ s
  | gadd req => exact command_seatLaw (gadd_seatLaw · req) _ s
  | grevoke req => exact command_seatLaw (grevoke_seatLaw · req) _ s
  | gread req => exact command_seatLaw (fun s => .of_read (gread_state s req)) _ s
  | clkset req => exact command_seatLaw (clkset_seatLaw · req) _ s
  | clkread req => exact command_seatLaw (fun s => .of_read (clkread_state s req)) _ s
  | pin req => exact command_seatLaw (pin_seatLaw · req) _ s
  | repin req => exact command_seatLaw (repin_seatLaw · req) _ s
  | close req => exact command_seatLaw (close_seatLaw · req) _ s
  | hset req => exact command_seatLaw (hset_seatLaw · req) _ s
  | hread req => exact command_seatLaw (fun s => .of_read (hread_state s req)) _ s
  | store req => exact command_seatLaw (fun s => .of_read (store_state s req)) _ s
  | retry req => exact command_seatLaw (retry_seatLaw · req) _ s
  | describe req => exact command_seatLaw (fun s => .of_read (describe_state s req)) _ s
  | notices req => exact command_seatLaw (notices_seatLaw · req) _ s
  | restart req => exact command_seatLaw (restart_seatLaw · req) _ s
  | secondEvent => exact .takeSecond s
  | minuteBoundary => exact .takeMinuteBoundary s
  | grantExpiry => exact .takeGrantExpiry s
  | meteringSecond => exact .takeMeteringSecond s
  | windDownEnd => exact .takeWindDownEnd s
  | commitIntervalEnd => exact .takeCommitIntervalEnd s
  | poolWaitTimeout => exact .takePoolWaitTimeout s
  | windowExpiry => exact .takeWindowExpiry s
  | lockoutEnd => exact .takeLockoutEnd s
  | blockWriteBegin => exact .of_seats (takeNextWrite_seats s)
  | eraseComplete interrupted => exact .of_seats (takeEraseComplete_seats s interrupted)
  | programComplete interrupted => exact .of_seats (takeProgramComplete_seats s interrupted)
  | verifyComplete interrupted isMatch => exact .of_seats (takeVerifyComplete_seats s interrupted isMatch)
  | supplyWarning => exact .of_seats (takeSupplyWarning_seats s)
  | supplyClear => exact .of_seats rfl
  | storeBlockRead => exact .of_seats (takeStoreBlockRead_seats s)
  | dipBegin | dipEnd _ | fullReset _ _ _ | startUpLoad _ _ => exact .refl s

theorem SeatLawKept.takeWork (s : State) (w : DipWork) : SeatLawKept s (s.takeWork w) := by
  cases w with
  | event i => exact (takeEvent_seatLaw i s).trans (.of_seats rfl)
  | restartWrite => exact .of_seats (restartWrite_seats s)

theorem SeatLawKept.endDip (s : State) : SeatLawKept s s.endDip := by
  have plan : SeatLawKept s s.orderedWork.2 := by
    unfold State.orderedWork
    split
    · exact .refl s
    · exact .of_seats (shuffle_seats ..)
  have live : SeatLawKept s { s.orderedWork.2 with deferred := [], supply.dip := false } := plan.trans (.of_seats rfl)
  exact (live.trans (SeatLawKept.foldl SeatLawKept.takeWork _ _)).trans (.of_seats rfl)

theorem seatLaw_stepLaw : StepLaw State.SeatLaw where
  pending _ _ := (SeatLawKept.of_seats rfl).law
  deferred _ _ := (SeatLawKept.of_seats rfl).law
  dipBegin _ := (SeatLawKept.of_seats rfl).law
  reset _ _ := vacantSeats_seatLaw rfl
  startUpLoad high millivolts s := by
    refine (SeatLawKept.of_seats ?_).law
    unfold takeStartUpLoad
    split <;> rfl
  event i s := ((takeEvent_seatLaw i s).trans (.of_seats rfl)).law
  endDip s := (SeatLawKept.endDip s).law

/-! ## The table of R46 -/

theorem any_isDenied_iff (es : List Entry) :
    es.any (·.state.isDenied) = true ↔ ∃ e ∈ es, ∃ why, e.state = .denied why := by
  rw [List.any_eq_true]
  exact exists_congr fun e => and_congr_right fun _ => by cases e.state <;> simp [EntryState.isDenied]

theorem any_isWinding_iff (es : List Entry) :
    es.any (·.state.isWinding) = true ↔ ∃ e ∈ es, ∃ why ends, e.state = .winding why ends := by
  rw [List.any_eq_true]
  exact exists_congr fun e => and_congr_right fun _ => by cases e.state <;> simp [EntryState.isWinding]

theorem any_isWaiting_iff (es : List Entry) :
    es.any (·.state.isWaiting) = true ↔ ∃ e ∈ es, ∃ why, e.state = .waiting why := by
  rw [List.any_eq_true]
  exact exists_congr fun e => and_congr_right fun _ => by cases e.state <;> simp [EntryState.isWaiting]

theorem any_isLow_iff (es : List Entry) :
    es.any (·.state.isLow) = true ↔ ∃ e ∈ es, ∃ why, e.state = .low why := by
  rw [List.any_eq_true]
  exact exists_congr fun e => and_congr_right fun _ => by cases e.state <;> simp [EntryState.isLow]

/-- Settles O52: a seat changes only by being derived anew, with entries of profiles that it held, but for a **join**,
which checks both that it does not hold the profile and that there is room. -/
theorem everyStepKeepsTheSeatLaw : Obligations.EveryStepKeepsTheSeatLaw := by
  unfold Obligations.EveryStepKeepsTheSeatLaw
  refine ⟨seatLaw_stepLaw.keptByEveryStep, fun es programme => ?_⟩
  dsimp only
  simp only [← any_isDenied_iff, ← any_isWinding_iff, ← any_isWaiting_iff, ← any_isLow_iff, Bool.not_eq_true]
  refine ⟨fun empty => by rw [empty]; rfl, fun seated idle => ?_, fun seated playing => ?_⟩
  · simp [seatStateOf, seated, idle]
  · have programme : programme.isNone = false := by simpa using playing
    have entries : es.isEmpty = false := by simpa using seated
    unfold seatStateOf
    simp only [entries, programme, Bool.false_eq_true, if_false]
    refine ⟨fun denied => ?_, fun denied winding => ?_, fun denied winding waiting => ?_,
      fun denied winding waiting low => ?_, fun denied winding waiting low => ?_⟩
    · simp only [denied, if_true]
    · simp only [denied, winding, Bool.false_eq_true, if_false, if_true]
    · simp only [denied, winding, waiting, Bool.false_eq_true, if_false, if_true]
    · simp only [denied, winding, waiting, low, Bool.false_eq_true, if_false, if_true]
    · simp only [denied, winding, waiting, low, Bool.false_eq_true, if_false]

end Sys2Proof.Machine
end

section
/-! PROOFS. A profile that leaves one seat (R50, R51), a seat that loses its programme (R52, R55), and O21. -/

namespace Sys2Proof.Machine

/-! ## One profile leaves one seat -/

theorem dropEntry_programme (k : Fin 16) (s : State) (j j' : Fin 6) :
    (s.dropEntry k j).seats[j'].programme = s.seats[j'].programme := by
  have left : (s.putSeat j (s.seats[j].entries.filter fun e => e.slot ≠ k) s.seats[j].programme).seats[j'].programme
      = s.seats[j'].programme := by
    rw [putSeat_seat]
    split
    · next here => rw [here]; rfl
    · rfl
  unfold State.dropEntry; dsimp only
  split
  · split
    · rw [State.reevalJudged, (SeatsKept.reevalSeat ..).programme, left]
    · exact left
  · rfl

/-- The part as a **leave** judges it: the profile's entry is gone and the seat's guardian-present flag is taken
anew (R45, R51). -/
def State.left (s : State) (k : Fin 16) (j : Fin 6) : State :=
  let left := s.seats[j].entries.filter fun e => e.slot ≠ k
  { s with seats := s.seats.set j { s.seats[j] with
      entries := left, guardianPresent := left.any fun e => s.kind? e.slot = some .guardian } }

/-- The entries that a **leave** of this profile from this seat re-evaluates (R45, R51). -/
def State.leaveJudges (s : State) (k : Fin 16) (j j' : Fin 6) (e : Entry) : Bool :=
  decide (j' = j) && s.seats[j].guardianPresent
    && !((s.seats[j].entries.filter fun e => e.slot ≠ k).any fun e => s.kind? e.slot = some .guardian)
    && decide (s.kind? e.slot ≠ some .guardian)

section
variable {s : State} {k : Fin 16} {j : Fin 6}

theorem left_tables : SameTables (s.left k j) s := ⟨rfl, rfl, rfl, rfl, rfl, rfl⟩

theorem left_seat : (s.left k j).seats[j] = { s.seats[j] with
    entries := s.seats[j].entries.filter fun e => e.slot ≠ k
    guardianPresent := (s.seatWithout k s.seats[j]).guardianPresent } := Vector.getElem_set_self ..

theorem left_seat_of_ne {j' : Fin 6} (ne : j' ≠ j) : (s.left k j).seats[j'] = s.seats[j'] :=
  Vector.getElem_set_ne (hi := j.isLt) (hj := j'.isLt) fun e => ne (Fin.ext e.symm)

theorem leaveJudges_of_ne {j' : Fin 6} (ne : j' ≠ j) (e : Entry) : s.leaveJudges k j j' e = false := by
  simp [State.leaveJudges, ne]

/-- On its own seat a **leave** re-evaluates where the profile was the last guardian. -/
theorem leaveJudges_own (holds : holdsEntry s.seats[j] k = true) (e : Entry) :
    s.leaveJudges k j j e = (s.losesGuardian k s.seats[j] && s.judgedEntry e) := by
  unfold State.losesGuardian
  rw [holds, Bool.true_and]
  unfold State.leaveJudges
  rw [decide_eq_true rfl, Bool.true_and, decide_not]
  rfl

theorem leave_rejudges (holds : holdsEntry s.seats[j] k = true) :
    Rejudges s (s.left k j) ((s.dropEntry k j).settled s false) true (s.leaveJudges k j) := by
  refine Rejudges.of_settled false rfl fun quiet asks => ⟨s.seats.set j (s.leftSeat k s.seats[j]), ?_⟩
  rw [dropEntry_quiet fun last p playing e he judged r hr => ?quiet]
  case quiet =>
    have none := asks j p (by rw [left_seat]; exact playing) e (by rw [left_seat]; exact he)
      (by rw [leaveJudges_own holds, last]; exact judged) r ((left_tables.rules _).trans hr)
    rwa [left_tables.evaluate, left_seat] at none
  refine ⟨rfl, rfl, rfl, rfl, rfl, rfl, fun j' => ?_⟩
  by_cases here : j' = j
  · subst here
    rw [left_seat, judgedSeat_entries]
    simp only [Fin.getElem_fin, Vector.getElem_set_self]
    refine ⟨leftSeat_programme .., (leftSeat_entries ..).trans (List.map_congr_left fun e _ => ?_)⟩
    cases playing : s.seats[j'].programme with
    | none => rfl
    | some p =>
      have own := leaveJudges_own holds e
      simp only [Fin.getElem_fin] at own
      simp only [own, left_tables.verdictOn, if_true]
  · have other : (s.seats.set j (s.leftSeat k s.seats[j]))[j'] = s.seats[j'] :=
      Vector.getElem_set_ne (hi := j.isLt) (hj := j'.isLt) fun e => here (Fin.ext e.symm)
    rw [other, left_seat_of_ne here, judgedSeat_entries]
    refine ⟨rfl, ?_⟩
    simp only [leaveJudges_of_ne here, Bool.false_eq_true, if_false]
    cases s.seats[j'].programme <;> exact (List.map_id' _).symm

end

/-! ## A seat without a programme -/

/-- Entries that are all IDLE are the profiles that they name. -/
theorem entries_of_idle {es : List Entry} (idle : ∀ e ∈ es, e.state = .idle) :
    es = (es.map (·.slot)).map fun k => ⟨k, .idle⟩ := by
  rw [List.map_map]
  refine (List.map_id _).symm.trans (List.map_congr_left fun e he => ?_)
  rw [id, Function.comp_apply, ← idle e he]

section
variable (s : State) (j : Fin 6)

/-- The seats after the programme of one has gone, the entries of that seat being `es`. -/
def State.ended (es : List Entry) : State := (s.putSeat j es none).settled s false

/-- A seat that has no programme left has nothing judged (R52, R55). -/
theorem ended_rejudges (es : List Entry) {seat : Seat} (entries : seat.entries = es)
    (programme : seat.programme = none) : Rejudges s { s with seats := s.seats.set j seat }
      (s.ended j es) true fun _ _ => false := by
  refine Rejudges.of_settled false rfl fun _ _ =>
    ⟨(s.putSeat j es none).seats, rfl, rfl, rfl, rfl, rfl, rfl, fun j' => ?_⟩
  have stands : ∀ (x : State) (seat : Seat), (x.judgedSeat true (fun _ => false) seat).entries = seat.entries := by
    intro x seat
    rw [judgedSeat_entries]
    cases seat.programme <;> simp
  rw [stands, putSeat_seat]
  by_cases here : j' = j
  · subst here
    simp only [Fin.getElem_fin, Vector.getElem_set_self, if_true]
    exact ⟨programme.symm, entries.symm⟩
  · rw [if_neg here, show (s.seats.set j seat)[j'] = s.seats[j'] from
      Vector.getElem_set_ne (hi := j.isLt) (hj := j'.isLt) fun e => here (Fin.ext e.symm)]
    exact ⟨rfl, rfl⟩

variable (es : List Entry)

theorem ended_follows : SeatsFollow (s.putSeat j es none) (s.ended j es) := .settled ..

theorem ended_work : SeatWork s (s.ended j es) := (SeatWork.putSeat ..).trans (.settled ..)

theorem ended_programme : (s.ended j es).seats[j].programme = none := by
  rw [(ended_follows s j es).kept.programme, putSeat_seat, if_pos rfl]; rfl

theorem ended_viewers : (s.ended j es).viewers j = es.map (·.slot) := by
  rw [(ended_follows s j es).kept.viewers, State.viewers, putSeat_seat, if_pos rfl]; rfl

theorem ended_other {j' : Fin 6} (ne : j' ≠ j) : (s.ended j es).viewers j' = s.viewers j'
    ∧ (s.ended j es).seats[j'].programme = s.seats[j'].programme := by
  have kept := (ended_follows s j es).kept
  rw [kept.viewers, kept.programme, State.viewers, putSeat_seat, if_neg ne]
  exact ⟨rfl, rfl⟩

/-- IDLE entries are the seat's entries to the end of the event (R43). -/
theorem ended_entries (idle : ∀ e ∈ es, e.state = .idle) : (s.ended j es).seats[j].entries = es := by
  have seat : (s.putSeat j es none).seats[j] = s.deriveSeat es none := by rw [putSeat_seat, if_pos rfl]
  have follows := (ended_follows s j es).seats j
  have allIdle : ∀ e ∈ (s.ended j es).seats[j].entries, e.state = .idle := fun e he =>
    follows.idle (by rw [seat]; rfl) e.slot (by rw [seat]; exact fun e he _ => idle e he) e he rfl
  rw [entries_of_idle allIdle, ← State.viewers, ended_viewers, ← entries_of_idle idle]

theorem ended_vacant : (s.ended j []).seats[j] = Seat.vacant := by
  have seat : (s.putSeat j [] none).seats[j] = Seat.vacant := by rw [putSeat_seat, if_pos rfl]; rfl
  rcases ((ended_follows s j []).seats j).derived with same | derived
  · rw [same, seat]
  · rw [derived, ended_entries s j [] (by simp), ended_programme]; rfl

end

/-! ## The commands -/

section
variable {s : State}

theorem leave_of_target {a : LeaveArgs} {j : Fin 6} {k : Fin 16} {m : Nat} (hj : a.seat.toNat = j.val)
    (target : s.target? a.form a.target = some (k, m)) : leave (.fields a) s =
      if holdsEntry s.seats[j] k then
        ((s.dropEntry k j).settled s false, ok (be1 k.val ++ be1 ((s.dropEntry k j).settled s false).seats[j].state.code))
      else (s, refuse .noSuch) := by
  simp only [leave, withFields_fields, inRange_of_eq hj, target]

theorem target?_of_slot {t : Word} {k : Fin 16} (hk : t.toNat = k.val) : s.target? 1 t = some (k, 4) := by
  have form : (1 : Byte) ≠ 0 := by decide
  simp only [State.target?, if_neg form, if_true, below_of_eq hk, Option.map_some]

theorem target?_of_bad {form : Byte} {t : Word} (bad : 1 < form.toNat ∨ (form = 1 ∧ 15 < t.toNat)) :
    s.target? form t = none := by
  unfold State.target?
  rcases bad with out | ⟨rfl, out⟩
  · have token : form ≠ 0 := by rintro rfl; revert out; decide
    have slot : form ≠ 1 := by rintro rfl; revert out; decide
    rw [if_neg token, if_neg slot]
  · have form : (1 : Byte) ≠ 0 := by decide
    rw [if_neg form, if_pos rfl, below_of_le out]; rfl

theorem leave_of_bad {a : LeaveArgs} (bad : 5 < a.seat.toNat ∨ 1 < a.form.toNat ∨ (a.form = 1 ∧ 15 < a.target.toNat)) :
    leave (.fields a) s = (s, refuse .badArgument) := by
  rw [leave, withFields_fields]
  rcases bad with out | bad
  · rw [inRange_of_le out]
  · rw [target?_of_bad bad]; cases inRange 6 a.seat <;> rfl

theorem vacate_of_seat {b : Byte} {j : Fin 6} (hj : b.toNat = j.val) : vacate (.fields b) s =
    (s.ended j [], ok (be1 s.seats[j].entries.length ++ flagByte s.seats[j].programme.isSome)) := by
  simp only [vacate, withFields_fields, inRange_of_eq hj, State.ended]

theorem vacate_of_bad {b : Byte} (out : 5 < b.toNat) : vacate (.fields b) s = (s, refuse .badArgument) := by
  simp only [vacate, withFields_fields, inRange_of_le out]

theorem endp_of_seat {b : Byte} {j : Fin 6} (hj : b.toNat = j.val) : endp (.fields b) s =
    if s.seats[j].programme.isSome then
      (s.ended j (s.seats[j].entries.map fun e => ⟨e.slot, .idle⟩), ok (flagByte true))
    else (s, ok (flagByte false)) := by
  simp only [endp, withFields_fields, inRange_of_eq hj]; rfl

theorem endp_of_bad {b : Byte} (out : 5 < b.toNat) : endp (.fields b) s = (s, refuse .badArgument) := by
  simp only [endp, withFields_fields, inRange_of_le out]

end

/-- Settles O21: an entry or a programme leaves one seat; everything after that keeps viewers, programmes and the IDLE
entries of a seat without a programme, and judges the seat that its last guardian left alone. -/
theorem seatsAreLeft : Obligations.SeatsAreLeft := by
  unfold Obligations.SeatsAreLeft
  refine ⟨fun s a j k m h hj target => ⟨fun absent => ?_, fun present => ?_⟩,
    fun s a h bad => exec_of_owner h rfl (leave_of_bad bad), fun s b i row h out => ?_,
    fun s t => ⟨rfl, fun k hk => target?_of_slot hk⟩, fun s b j h hj => ?_,
    fun s b j h hj => ⟨fun noProgramme => ?_, fun playing => ?_⟩⟩
  · have empty := (holdsEntry_eq_false_iff s j k).mpr absent
    exact exec_of_owner h rfl (by rw [leave_of_target hj target, empty]; rfl)
  · have holds : holdsEntry s.seats[j] k = true :=
      Bool.eq_true_of_not_eq_false fun empty => (holdsEntry_eq_false_iff s j k).mp empty present
    have kept : SeatsKept (s.dropEntry k j) ((s.dropEntry k j).settled s false) := .settled ..
    refine ⟨_, exec_of_owner h rfl (by rw [leave_of_target hj target, if_pos holds]), replied_holds .., ?_, ?_, ?_, ?_, ?_⟩
    · exact (kept.viewers j).trans ((dropEntry_viewers ..).trans (if_pos rfl))
    · exact fun j' ne => (kept.viewers j').trans ((dropEntry_viewers ..).trans (if_neg ne))
    · exact fun j' => (kept.programme j').trans (dropEntry_programme ..)
    · exact ((SeatWork.dropEntry ..).trans (.settled ..)).replied ..
    · exact Rejudges.replied (leave_rejudges holds) _ _ _
  · rcases row with rfl | rfl
    · exact exec_of_owner h rfl (vacate_of_bad out)
    · exact exec_of_owner h rfl (endp_of_bad out)
  · refine ⟨_, exec_of_owner h rfl (vacate_of_seat hj), replied_holds .., ended_vacant s j,
      fun j' ne => ended_other s j [] ne, (ended_work s j []).replied .., ?_⟩
    exact Rejudges.replied (ended_rejudges s j [] rfl rfl) _ _ _
  · exact exec_of_owner h rfl (by rw [endp_of_seat hj, noProgramme]; rfl)
  · have entries := ended_entries s j (s.seats[j].entries.map fun e => ⟨e.slot, .idle⟩) fun e he => by
      obtain ⟨_, -, rfl⟩ := List.mem_map.mp he; rfl
    refine ⟨_, exec_of_owner h rfl (by rw [endp_of_seat hj, if_pos playing]; rfl), replied_holds .., ended_programme s j _,
      entries, fun j' ne => ended_other s j _ ne, (ended_work s j _).replied .., ?_⟩
    exact Rejudges.replied (ended_rejudges s j _
      (seat := { s.seats[j] with entries := (s.ended j _).seats[j].entries, programme := none }) entries rfl) _ _ _

end Sys2Proof.Machine
end

section
/-! SUPPORT. What becomes of a profile's entries where it has no request and others are judged, wait and draw (R57, R80,
R108). -/

namespace Sys2Proof.Machine

variable {k : Fin 16}

/-- A profile without a request is left alone, and its entries stand. -/
structure SparesProfile (k : Fin 16) (s t : State) : Prop where
  leaves : LeavesProfile k s t
  shows : s.hasRequest k = false → ∀ (j : Fin 6) (state : EntryState),
    s.seats[j].Shows k state → t.seats[j].Shows k state

theorem SparesProfile.of_seats {s t : State} (leaves : LeavesProfile k s t) (seats : t.seats = s.seats) :
    SparesProfile k s t := ⟨leaves, fun _ j state h => by rw [seats]; exact h⟩

theorem SparesProfile.refl (s : State) : SparesProfile k s s := .of_seats (.refl s) rfl

theorem SparesProfile.trans {s t u : State} (h : SparesProfile k s t) (h' : SparesProfile k t u) :
    SparesProfile k s u :=
  ⟨h.leaves.trans h'.leaves, fun quiet j state shows =>
    h'.shows (h.leaves.unasked quiet) j state (h.shows quiet j state shows)⟩

theorem SparesProfile.foldl {α : Type} {f : State → α → State} (hf : ∀ s a, SparesProfile k s (f s a)) (l : List α)
    (s : State) : SparesProfile k s (l.foldl f s) := by
  induction l generalizing s with
  | nil => exact .refl s
  | cons a l ih => exact (hf s a).trans (ih _)

theorem SparesProfile.raiseRequest (s : State) {k' : Fin 16} (ne : k' ≠ k) : SparesProfile k s (s.raiseRequest k') :=
  .of_seats (.raiseRequest s ne) (raiseRequest_seats s k')

section
variable {sel : Entry → Bool} (others : ∀ e, sel e = true → e.slot ≠ k)
include others

/-- The profile's entries in a judged list are those it had, where others are judged. -/
theorem judgeAll_others (p : Programme) (g w : Bool) (s : State) (es : List Entry) :
    ∀ e ∈ (State.judgeAll p g w sel s es).2, e.slot = k → e ∈ es := by
  induction es generalizing s with
  | nil => nofun
  | cons e es ih =>
    unfold State.judgeAll; dsimp only
    refine List.forall_mem_cons.mpr ⟨fun own => ?_, fun e' he own => .tail _ (ih _ e' he own)⟩
    split at own
    · next selected => exact absurd ((judge_kept s p g w e).1.symm.trans own) (others e selected)
    · next unselected => rw [if_neg unselected]; exact .head _

theorem SparesProfile.reevalSeat (w : Bool) (s : State) (j : Fin 6) : SparesProfile k s (s.reevalSeat w sel j) := by
  refine ⟨.reevalSeat others w s j, fun _ j' state shows => ?_⟩
  unfold State.reevalSeat
  split
  · exact shows
  · next p _ =>
    dsimp only
    rw [putSeat_seat, (judgeAll_kept p s.seats[j].guardianPresent w sel s s.seats[j].entries).1]
    split
    · next here => exact fun e he own => shows e (here ▸ judgeAll_others others p _ w s _ e he own) own
    · exact shows

theorem SparesProfile.reeval (s : State) : SparesProfile k s (s.reeval sel) :=
  .foldl (SparesProfile.reevalSeat others true) _ s

end

/-- A direct write that leaves the profile's entries alone (R59). -/
theorem SparesProfile.writeEntries (s : State) {f : Seat → Entry → EntryState}
    (own : ∀ seat e, e.slot = k → f seat e = e.state) : SparesProfile k s (s.writeEntries f) := by
  refine ⟨.of_eq rfl rfl, fun _ j state shows e he slot => ?_⟩
  rw [writeEntries_entries] at he
  obtain ⟨e, mem, rfl⟩ := List.mem_map.mp he
  exact (own _ e slot).trans (shows e mem slot)

theorem SparesProfile.useWindDown (s : State) {k' : Fin 16} (ne : k' ≠ k) : SparesProfile k s (s.useWindDown k') :=
  .of_seats (.of_eq rfl (setMeter_of_ne _ ne _)) rfl

theorem SparesProfile.windDownOrDeny (s : State) {k' : Fin 16} (ne : k' ≠ k) :
    SparesProfile k s (s.windDownOrDeny k' (isWaitingOf k')) := by
  have other : ∀ seat (e : Entry), e.slot = k → isWaitingOf k' seat e = false := by
    rintro seat e rfl
    simp [isWaitingOf, ne.symm]
  unfold State.windDownOrDeny State.denyTime; dsimp only
  split
  · refine SparesProfile.trans (.writeEntries s fun seat e own => ?_) (.useWindDown _ ne)
    rw [other seat e own]; rfl
  · refine .writeEntries s fun seat e own => ?_
    rw [other seat e own]; rfl

theorem SparesProfile.creditDraw (s : State) {k' : Fin 16} (ne : k' ≠ k) (g : Nat) :
    SparesProfile k s (s.creditDraw k' g) := by
  unfold State.creditDraw; dsimp only
  refine SparesProfile.trans (t := { s with
    meters := s.meters.set k' { s.meters[k'] with drawn := s.meters[k'].drawn + g, draws := s.meters[k'].draws + 1 },
    meterDirty := true }) (.of_seats (.of_eq rfl (setMeter_of_ne _ ne _)) rfl) ?_
  split
  · exact .reeval (fun e own => of_decide_eq_true own ▸ ne) _
  · split
    · exact .raiseRequest _ ne
    · exact .windDownOrDeny _ ne

theorem SparesProfile.drawFor (s : State) {r : Request} (ne : r.slot ≠ k) : SparesProfile k s (s.drawFor r) := by
  unfold State.drawFor; dsimp only
  refine SparesProfile.trans ?_ (SparesProfile.creditDraw _ ne _)
  exact .of_seats (.of_filter rfl rfl) rfl

theorem SparesProfile.draws (fuel : Nat) (s : State) : SparesProfile k s (State.draws fuel s).1 := by
  induction fuel generalizing s with
  | zero => exact .refl s
  | succ n ih =>
    have spares : s.hasRequest k = false → SparesProfile k s (State.draws (n + 1) s).1 := by
      intro quiet
      unfold State.draws
      split
      · exact .refl s
      · split
        · exact .refl s
        · next r won =>
          have ne : r.slot ≠ k := by simpa using List.any_eq_false.mp quiet r (winner?_mem won)
          exact (SparesProfile.drawFor s ne).trans (ih _)
    exact ⟨.draws .., fun quiet => (spares quiet).shows quiet⟩

theorem SparesProfile.opportunity (s : State) : SparesProfile k s s.opportunity.1 := by
  unfold State.opportunity; dsimp only; split
  · exact (SparesProfile.draws ..).trans (.of_seats (.of_eq rfl rfl) rfl)
  · exact .draws ..

/-- The end of an event leaves the entries of a profile without a request alone (R60, R128). -/
theorem SparesProfile.settled (s before : State) (offered : Bool) : SparesProfile k s (s.settled before offered) := by
  unfold State.settled State.settle State.settleWaits; dsimp only
  refine SparesProfile.trans (t := s.releaseWaits) (.of_seats (.of_filter rfl rfl) rfl) ?_
  have noted : ∀ t : State, SparesProfile k t (State.noteSeats before t) := fun t =>
    .of_seats (.noteSeats before t) (noteSeats_seats before t)
  split
  · exact (SparesProfile.opportunity ..).trans (noted _)
  · exact noted _

/-- With the pool empty the end of an event writes no seat (R128). -/
theorem settled_seats_of_empty {s : State} (before : State) (offered : Bool) (empty : s.pool.remaining = 0) :
    (s.settled before offered).seats = s.seats := by
  have released : s.releaseWaits.pool.remaining = 0 := empty
  have noDraws : s.releaseWaits.opportunity = (s.releaseWaits, 0) := by
    unfold State.opportunity
    rw [released]
    rfl
  unfold State.settled State.settle State.settleWaits; dsimp only
  rw [noteSeats_seats, noDraws, ite_self]
  rfl

end Sys2Proof.Machine
end

section
/-! SUPPORT. What the request queue can change of a verdict (R79, R80). -/

namespace Sys2Proof.Machine

/-- The state with another request queue. -/
def State.withRequests (s : State) (q : List Request) : State := { s with requests := q }

/-- What the time group carries, whether or not a request is to be raised. -/
def TimePass.unasked : TimePass → TimePass
  | .waiting _ => .waiting false
  | c => c

variable (s : State) (q : List Request) (k : Fin 16) (r : Rules)

theorem timeGroup_withRequests (w : Option Nat) (same : (s.withRequests q).hasRequest k = s.hasRequest k) :
    (s.withRequests q).timeGroup k r w = s.timeGroup k r w := by
  unfold State.timeGroup
  rw [same]
  rfl

/-- A request that waits already is not raised again; nothing else changes where the time group passed. -/
theorem timeGroup_asked {c : TimePass} (unasked : s.hasRequest k = false) (w : Option Nat)
    (passed : s.timeGroup k r w = some c) :
    ∃ c', (s.withRequests q).timeGroup k r w = some c' ∧ c'.unasked = c.unasked := by
  by_cases asked : (s.withRequests q).hasRequest k = true
  · unfold State.timeGroup at passed ⊢
    rw [unasked] at passed
    rw [asked]
    split at passed
    · next free => exact ⟨c, by rw [if_pos free]; exact passed, rfl⟩
    · next metered =>
      split at passed
      · next left => exact ⟨c, by rw [if_neg metered]; exact (if_pos left).trans passed, rfl⟩
      · next spent =>
        rw [if_neg metered, if_neg (show ¬ 0 < (s.withRequests q).remaining k from spent)]
        cases w with
        | some ends => exact ⟨c, passed, rfl⟩
        | none =>
          refine ⟨.waiting false, rfl, ?_⟩
          dsimp only at passed
          rw [if_neg Bool.false_ne_true] at passed
          split at passed
          · obtain rfl := Option.some.inj passed; rfl
          · cases passed
  · refine ⟨c, ?_, rfl⟩
    rw [timeGroup_withRequests s q k r w ((Bool.eq_false_of_not_eq_true asked).trans unasked.symm), passed]

theorem permit_asked (why : Pass) {c c' : Option TimePass} (same : c'.map TimePass.unasked = c.map TimePass.unasked)
    (d : Option RuleGroup) : ((s.withRequests q).permit k r why c' d).state = (s.permit k r why c d).state := by
  match c, c', same with
  | none, none, _ => rfl
  | some .clear, some .clear, _ => rfl
  | some .low, some .low, _ => rfl
  | some (.winding _), some (.winding _), same => cases same; rfl
  | some (.waiting _), some (.waiting _), _ => rfl

/-- The state that an evaluation gives does not depend on the queue, where the profile has a request in it only if the
evaluation asks for one. -/
theorem evaluate_withRequests (p : Programme) (g : Bool) (w : Option Nat) (unasked : s.hasRequest k = false)
    (asked : (s.withRequests q).hasRequest k = true → (s.evaluate k r p g w).asks = true) :
    ((s.withRequests q).evaluate k r p g w).state = (s.evaluate k r p g w).state := by
  suffices ∀ (order : List RuleGroup) (c c' : Option TimePass), c'.map TimePass.unasked = c.map TimePass.unasked →
      ((s.withRequests q).hasRequest k = true → (s.walk k r p g w order c).asks = true) →
      ((s.withRequests q).walk k r p g w order c').state = (s.walk k r p g w order c).state from
    this _ none none rfl asked
  intro order
  induction order with
  | nil => exact fun c c' same _ => permit_asked s q k r _ same _
  | cons group rest ih =>
    intro c c' same asked
    cases group <;> unfold State.walk at asked ⊢
    case grant =>
      have permit : (s.withRequests q).titlePermit? k p.content = s.titlePermit? k p.content := rfl
      rw [permit]
      cases found : s.titlePermit? k p.content with
      | some m => exact permit_asked s q k r _ same _
      | none => rw [found] at asked; exact ih c c' same asked
    case rating =>
      cases found : ratingGroup r p g with
      | some d => rfl
      | none => rw [found] at asked; exact ih c c' same asked
    case window =>
      have window : (s.withRequests q).windowGroup k r = s.windowGroup k r := rfl
      rw [window]
      cases found : s.windowGroup k r with
      | some d => rfl
      | none => rw [found] at asked; exact ih c c' same asked
    case time =>
      cases found : s.timeGroup k r w with
      | some t =>
        obtain ⟨t', passed, alike⟩ := timeGroup_asked s q k r unasked w found
        rw [passed]
        rw [found] at asked
        exact ih (some t) (some t') (congrArg some alike) asked
      | none =>
        rw [found] at asked
        have still : (s.withRequests q).hasRequest k = false := Bool.eq_false_of_not_eq_true fun h => nomatch asked h
        rw [timeGroup_withRequests s q k r w (still.trans unasked.symm), found]

/-- An evaluation under a queue without a request of the profile asks as under another. -/
theorem evaluate_unasked (p : Programme) (g : Bool) (w : Option Nat)
    (same : (s.withRequests q).hasRequest k = s.hasRequest k) :
    (s.withRequests q).evaluate k r p g w = s.evaluate k r p g w := by
  suffices ∀ (order : List RuleGroup) (c : Option TimePass),
      (s.withRequests q).walk k r p g w order c = s.walk k r p g w order c from this _ none
  intro order
  induction order with
  | nil => exact fun c => rfl
  | cons group rest ih =>
    intro c
    cases group <;> unfold State.walk
    case grant => rw [ih]; rfl
    case rating => rw [ih]
    case window => rw [ih]; rfl
    case time => simp only [ih, timeGroup_withRequests s q k r w same]

end Sys2Proof.Machine
end

section
/-! SUPPORT. One profile's verdict while the seats are judged around it (R45, R57, R80). -/

namespace Sys2Proof.Machine

theorem ne_guardian_of_rules {s : State} {k : Fin 16} {r : Rules} (h : s.rules? k = some r) :
    s.kind? k ≠ some .guardian := by
  unfold State.rules? at h
  unfold State.kind?
  match hp : s.profile? k with
  | none | some (.guardian _) => rw [hp] at h; cases h
  | some (.child ..) | some (.guest ..) => nofun

theorem isGuardian_of_rules {s : State} {k : Fin 16} {r : Rules} (h : s.rules? k = some r) :
    s.isGuardian k = false := decide_eq_false (ne_guardian_of_rules h)

theorem judge_of_rules {s : State} {e : Entry} {r : Rules} (h : s.rules? e.slot = some r) (p : Programme) (g w : Bool) :
    s.judge p g w e =
      let v := s.evaluate e.slot r p g (if w then e.state.windEnd? else none)
      (if v.asks then s.raiseRequest e.slot else s, ⟨e.slot, v.state⟩) := by
  unfold State.judge
  rw [isGuardian_of_rules h, h]
  rfl

/-- While seats are judged, the tables that an evaluation reads are those of `s` but for the request queue, in which
the profile has a request only if this verdict asks for it. -/
structure AsksLike (s : State) (k : Fin 16) (v : Verdict) (t : State) : Prop where
  tables : SameTables (t.withRequests s.requests) s
  pool : t.pool = s.pool
  asked : t.hasRequest k = true → v.asks = true

section
variable {s t : State} {k : Fin 16}

theorem AsksLike.raiseRequest {v : Verdict} (h : AsksLike s k v t) (k' : Fin 16) (own : k' = k → v.asks = true) :
    AsksLike s k v (t.raiseRequest k') := by
  have work := SeatWork.raiseRequest t k'
  obtain ⟨slots, grants, clock, settings, meters, -⟩ := h.tables
  refine ⟨⟨?_, ?_, ?_, ?_, ?_, rfl⟩, (raiseRequest_pool t k').trans h.pool, fun asked => ?_⟩
  · exact (congrArg State.slots work).trans slots
  · exact (congrArg State.grants work).trans grants
  · exact (congrArg State.clock work).trans clock
  · exact (congrArg State.settings work).trans settings
  · exact (raiseRequest_meters t k').trans meters
  · by_cases same : k' = k
    · exact own same
    · refine h.asked (Bool.eq_true_of_not_eq_false fun quiet => ?_)
      rw [(LeavesProfile.raiseRequest t same).unasked quiet] at asked
      cases asked

section
variable {r : Rules} {p : Programme} {g : Bool} (unasked : s.hasRequest k = false)
include unasked

theorem AsksLike.evaluate (h : AsksLike s k (s.evaluate k r p g none) t) :
    (t.evaluate k r p g none).state = (s.evaluate k r p g none).state
      ∧ ((t.evaluate k r p g none).asks = true → (s.evaluate k r p g none).asks = true) := by
  have before := h.tables.evaluate k r p g none
  have quiet : (t.withRequests s.requests).hasRequest k = false := unasked
  have state := evaluate_withRequests (t.withRequests s.requests) t.requests k r p g none quiet fun asked =>
    (congrArg Verdict.asks before).trans (h.asked asked)
  refine ⟨state.trans (congrArg Verdict.state before), fun asks => ?_⟩
  by_cases asked : t.hasRequest k = true
  · exact h.asked asked
  · have same := evaluate_unasked (t.withRequests s.requests) t.requests k r p g none
      ((Bool.eq_false_of_not_eq_true asked).trans quiet.symm)
    exact (congrArg Verdict.asks (same.trans before)).symm.trans asks

variable (rules : s.rules? k = some r)
include rules

/-- One entry is judged: those of the profile take its verdict. -/
theorem AsksLike.judge (h : AsksLike s k (s.evaluate k r p g none) t) {e : Entry}
    (fresh : e.slot = k → e.state.windEnd? = none) :
    AsksLike s k (s.evaluate k r p g none) (t.judge p g true e).1
      ∧ (e.slot = k → (t.judge p g true e).2.state = (s.evaluate k r p g none).state) := by
  by_cases own : e.slot = k
  · have alike := h.evaluate unasked
    have at_k : t.rules? e.slot = some r := by rw [own]; exact (h.tables.rules k).trans rules
    rw [judge_of_rules at_k, if_pos rfl, fresh own, own]
    dsimp only
    refine ⟨?_, fun _ => alike.1⟩
    split
    · next asks => exact h.raiseRequest k fun _ => alike.2 asks
    · exact h
  · refine ⟨?_, fun same => absurd same own⟩
    rcases judge_cases t p g true e with same | raised
    · rw [same]; exact h
    · rw [raised]; exact h.raiseRequest e.slot fun same => absurd same own

variable {sel : Entry → Bool} (judges : ∀ e, e.slot = k → sel e = true)
include judges

theorem AsksLike.judgeAll (h : AsksLike s k (s.evaluate k r p g none) t) {es : List Entry}
    (fresh : ∀ e ∈ es, e.slot = k → e.state.windEnd? = none) :
    AsksLike s k (s.evaluate k r p g none) (State.judgeAll p g true sel t es).1
      ∧ ∀ e ∈ (State.judgeAll p g true sel t es).2, e.slot = k → e.state = (s.evaluate k r p g none).state := by
  induction es generalizing t with
  | nil => exact ⟨h, nofun⟩
  | cons e es ih =>
    rw [List.forall_mem_cons] at fresh
    unfold State.judgeAll; dsimp only
    split
    · obtain ⟨alike, own⟩ := h.judge unasked rules fresh.1
      obtain ⟨alike, rest⟩ := ih alike fresh.2
      exact ⟨alike, List.forall_mem_cons.mpr
        ⟨fun slot => own ((judge_kept t p g true e).1.symm.trans slot), rest⟩⟩
    · next unselected =>
      obtain ⟨alike, rest⟩ := ih h fresh.2
      exact ⟨alike, List.forall_mem_cons.mpr ⟨fun slot => absurd (judges e slot) unselected, rest⟩⟩

/-- A seat is judged under this guardian-present flag: the profile's entries take its verdict. -/
theorem AsksLike.reevalSeat (h : AsksLike s k (s.evaluate k r p g none) t) {j : Fin 6}
    (playing : t.seats[j].programme = some p) (flag : t.seats[j].guardianPresent = g)
    (fresh : ∀ e ∈ t.seats[j].entries, e.slot = k → e.state.windEnd? = none) :
    AsksLike s k (s.evaluate k r p g none) (t.reevalSeat true sel j)
      ∧ (t.reevalSeat true sel j).seats[j].Shows k (s.evaluate k r p g none).state := by
  obtain ⟨alike, shows⟩ := h.judgeAll unasked rules judges fresh
  unfold State.reevalSeat
  rw [playing]
  dsimp only
  rw [flag, putSeat_seat, if_pos rfl]
  exact ⟨⟨alike.tables, alike.pool, alike.asked⟩, shows⟩

end

end

end Sys2Proof.Machine
end

section
/-! PROOFS. What a **join** leaves of the seat and of its new entry (R45, R48, R49). -/

namespace Sys2Proof.Machine

/-! ## The new entry -/

/-- The entries of a seat that a profile has joined, the new one at the end and IDLE (R49). -/
def Seat.withEntry (seat : Seat) (k : Fin 16) : List Entry := seat.entries ++ [⟨k, .idle⟩]

/-- The seat holds the profile's new entry. -/
def State.seated (s : State) (j : Fin 6) (k : Fin 16) : State := s.putSeat j (s.seats[j].withEntry k) s.seats[j].programme

/-- The new entry is judged. -/
def State.entered (s : State) (j : Fin 6) (k : Fin 16) : State := (s.seated j k).reevalSeat true (ofProfile k) j

/-- The CHILD and GUEST entries are judged as well where the new entry has set the flag. -/
def State.shared (s : State) (j : Fin 6) (k : Fin 16) : State :=
  if (s.entered j k).seats[j].guardianPresent && !s.seats[j].guardianPresent then (s.entered j k).reevalJudged j
  else s.entered j k

theorem enter_eq (s : State) (j : Fin 6) (k : Fin 16) : s.enter j k = (s.shared j k).settled s false := rfl

/-- The entries of an absent profile on the seat that it has joined are the new one. -/
theorem withEntry_own {s : State} {j : Fin 6} {k : Fin 16} (absent : k ∉ s.viewers j) :
    ∀ e ∈ s.seats[j].withEntry k, e.slot = k → e.state = .idle := by
  intro e he own
  rcases List.mem_append.mp he with old | new
  · exact absurd (List.mem_map.mpr ⟨e, old, own⟩) absent
  · rw [List.mem_singleton.mp new]

/-- What every entry of a profile on a seat shows is what the seat shows of the profile. -/
theorem entryState_of_shows {seat : Seat} {k : Fin 16} {state : EntryState} (holds : k ∈ seat.entries.map (·.slot))
    (shows : seat.Shows k state) : entryState seat k = state := by
  obtain ⟨e, he, own⟩ := List.mem_map.mp holds
  unfold entryState
  cases found : seat.entries.find? (ofProfile k) with
  | none => exact absurd (decide_eq_true own) (List.find?_eq_none.mp found e he)
  | some e' => exact shows e' (List.mem_of_find?_eq_some found) (of_decide_eq_true (List.find?_some (p := ofProfile k) found))

/-- A seat whose flag is the one its entries give stays so (R45). -/
theorem SeatsFollow.guardianPresent {s t : State} (h : SeatsFollow s t) {j : Fin 6}
    (flag : s.seats[j].guardianPresent = s.guardianAmong s.seats[j].entries) :
    t.seats[j].guardianPresent = (s.viewers j).any fun x => s.kind? x = some .guardian := by
  rcases (h.seats j).derived with same | derived
  · rw [same, flag, guardianAmong_viewers]
  · have viewers := guardianAmong_viewers t j
    rw [h.kept.viewers j] at viewers
    simp only [kind_of_slots h.slots] at viewers
    rw [← deriveSeat_of_slots h.slots] at derived
    rw [derived]
    exact viewers

/-- A guardian's entries that are EXEMPT stay EXEMPT (R66). -/
theorem SeatsKept.shows_exempt {s t : State} (h : SeatsKept s t) {j : Fin 6} {k : Fin 16}
    (guardian : s.kind? k = some .guardian) (shows : s.seats[j].Shows k .exempt) : t.seats[j].Shows k .exempt := by
  unfold Seat.Shows at *
  generalize s.seats[j].entries = es, t.seats[j].entries = es', (h.2 j).2 = kept at *
  induction kept with
  | nil => exact shows
  | cons one _ ih =>
    obtain ⟨same, exempt⟩ := one
    rw [List.forall_mem_cons] at shows ⊢
    exact ⟨fun own => exempt (same ▸ own ▸ guardian) (shows.1 (same ▸ own)), ih shows.2⟩

section
variable (s : State) (j : Fin 6) (k : Fin 16)

theorem seated_seat : (s.seated j k).seats[j] = s.deriveSeat (s.seats[j].withEntry k) s.seats[j].programme := by
  rw [State.seated, putSeat_seat, if_pos rfl]

theorem seated_viewers (j' : Fin 6) :
    (s.seated j k).viewers j' = if j' = j then s.viewers j ++ [k] else s.viewers j' := by
  unfold State.viewers State.seated
  rw [putSeat_seat]
  split
  · exact List.map_append
  · rfl

theorem seated_programme (j' : Fin 6) : (s.seated j k).seats[j'].programme = s.seats[j'].programme := by
  rw [State.seated, putSeat_seat]
  split
  · next here => rw [here]; rfl
  · rfl

theorem entered_follows : SeatsFollow (s.seated j k) (s.entered j k) := .reevalSeat ..

theorem shared_follows : SeatsFollow (s.seated j k) (s.shared j k) := by
  unfold State.shared
  split
  · exact (entered_follows s j k).trans (.reevalSeat ..)
  · exact entered_follows s j k

/-- After the new entry has its place, a **join** seats nobody and plays nothing. -/
theorem enter_follows : SeatsFollow (s.seated j k) (s.enter j k) := by
  rw [enter_eq]; exact (shared_follows s j k).trans (.settled ..)

theorem shared_work : SeatWork s (s.shared j k) := by
  have entered : SeatWork s (s.entered j k) := (SeatWork.putSeat ..).trans (.reevalSeat ..)
  unfold State.shared
  split
  · exact entered.trans (.reevalSeat ..)
  · exact entered

theorem enter_work : SeatWork s (s.enter j k) := by
  rw [enter_eq]; exact (shared_work s j k).trans (.settled ..)

theorem enter_viewers (j' : Fin 6) :
    (s.enter j k).viewers j' = if j' = j then s.viewers j ++ [k] else s.viewers j' :=
  ((enter_follows s j k).kept.viewers j').trans (seated_viewers s j k j')

theorem enter_programme (j' : Fin 6) : (s.enter j k).seats[j'].programme = s.seats[j'].programme :=
  ((enter_follows s j k).kept.programme j').trans (seated_programme s j k j')

/-- The guardian-present flag of the seat with the new entry in it (R45). -/
theorem guardianPresent_of_follows {t : State} (h : SeatsFollow (s.seated j k) t) :
    t.seats[j].guardianPresent = (s.viewers j ++ [k]).any fun x => s.kind? x = some .guardian := by
  rw [h.guardianPresent (by rw [seated_seat]; rfl), seated_viewers, if_pos rfl]
  rfl

theorem enter_holds : k ∈ (s.enter j k).seats[j].entries.map (·.slot) := by
  rw [← State.viewers, enter_viewers, if_pos rfl]
  exact List.mem_append_right _ (List.mem_singleton_self k)

variable {s j k} (absent : k ∉ s.viewers j)
include absent

theorem enter_idle (noProgramme : s.seats[j].programme = none) : entryState (s.enter j k).seats[j] k = .idle := by
  refine entryState_of_shows (enter_holds s j k) (((enter_follows s j k).seats j).idle ?_ k ?_)
  · rw [seated_programme]; exact noProgramme
  · rw [seated_seat]; exact withEntry_own absent

end

/-- A judged list shows a guardian EXEMPT (R66). -/
theorem judgeAll_exempt {s : State} {k : Fin 16} (guardian : s.kind? k = some .guardian) (p : Programme) (g w : Bool)
    (es : List Entry) : ∀ e ∈ (State.judgeAll p g w (ofProfile k) s es).2, e.slot = k → e.state = .exempt := by
  induction es generalizing s with
  | nil => nofun
  | cons e es ih =>
    unfold State.judgeAll; dsimp only
    split
    · next own =>
      have here : s.kind? e.slot = some .guardian := (of_decide_eq_true own : e.slot = k) ▸ guardian
      rw [judge_guardian p g w here]
      exact List.forall_mem_cons.mpr ⟨fun _ => rfl, ih guardian⟩
    · next other =>
      exact List.forall_mem_cons.mpr ⟨fun own => absurd (decide_eq_true own) other, ih guardian⟩

theorem enter_exempt {s : State} {j : Fin 6} {k : Fin 16} {p : Programme} (playing : s.seats[j].programme = some p)
    (guardian : s.kind? k = some .guardian) : entryState (s.enter j k).seats[j] k = .exempt := by
  refine entryState_of_shows (enter_holds s j k) ?_
  have kept : SeatsKept (s.entered j k) (s.enter j k) := by
    rw [enter_eq, State.shared]
    split
    · exact (SeatsKept.reevalSeat ..).trans (.settled ..)
    · exact .settled ..
  refine kept.shows_exempt ((kind_of_slots (entered_follows s j k).slots k).trans guardian) ?_
  have there : (s.seated j k).seats[j].programme = some p := by rw [seated_programme]; exact playing
  unfold State.entered State.reevalSeat
  rw [there]
  dsimp only
  rw [putSeat_seat, if_pos rfl]
  exact judgeAll_exempt (s := s.seated j k) guardian p _ true _

/-! ## The new entry's verdict -/

section
variable {s : State} {j : Fin 6} {k : Fin 16} {p : Programme} {r : Rules} (absent : k ∉ s.viewers j)
  (playing : s.seats[j].programme = some p) (rules : s.rules? k = some r) (quiet : s.requests = [])
include absent playing rules quiet

/-- Both passes give the new entry its verdict: nothing is asked for in its name between them but what the verdict
itself asks. -/
theorem shared_shows :
    let v := s.evaluate k r p ((s.viewers j).any fun x => s.kind? x = some .guardian) none
    AsksLike s k v (s.shared j k) ∧ (s.shared j k).seats[j].Shows k v.state := by
  intro v
  have unasked : s.hasRequest k = false := by unfold State.hasRequest; rw [quiet]; rfl
  have flag : ∀ {t : State}, SeatsFollow (s.seated j k) t →
      t.seats[j].guardianPresent = (s.viewers j).any fun x => s.kind? x = some .guardian := by
    intro t h
    rw [guardianPresent_of_follows s j k h, List.any_append]
    simp [ne_guardian_of_rules rules]
  have seated : AsksLike s k v (s.seated j k) :=
    ⟨⟨rfl, rfl, rfl, rfl, rfl, rfl⟩, rfl, fun asked => nomatch asked.symm.trans unasked⟩
  obtain ⟨entered, shows⟩ := seated.reevalSeat unasked rules (fun e own => decide_eq_true own)
    ((seated_programme s j k j).trans playing) (flag (.refl _)) fun e he own => by
      rw [seated_seat] at he
      rw [withEntry_own absent e he own]; rfl
  unfold State.shared
  split
  · refine entered.reevalSeat unasked rules (fun e own => ?_)
      (((entered_follows s j k).kept.programme j).trans ((seated_programme s j k j).trans playing))
      (flag (entered_follows s j k)) fun e he own => ?_
    · have rulesThere : (s.entered j k).rules? k = some r := (entered.tables.rules k).trans rules
      unfold State.judgedEntry
      rw [own, isGuardian_of_rules rulesThere]; rfl
    · rw [shows e he own]; exact evaluate_windEnd ..
  · exact ⟨entered, shows⟩

/-- Where no draw can be made, the end of the event leaves the new entry alone. -/
theorem enter_verdict
    (noDraw : (s.evaluate k r p ((s.viewers j).any fun x => s.kind? x = some .guardian) none).asks = true →
      s.pool.remaining = 0) :
    entryState (s.enter j k).seats[j] k =
      (s.evaluate k r p ((s.viewers j).any fun x => s.kind? x = some .guardian) none).state := by
  obtain ⟨alike, shows⟩ := shared_shows absent playing rules quiet
  refine entryState_of_shows (enter_holds s j k) ?_
  rw [enter_eq]
  by_cases asked : (s.shared j k).hasRequest k = true
  · rw [settled_seats_of_empty s false ((congrArg Pool.remaining alike.pool).trans (noDraw (alike.asked asked)))]
    exact shows
  · exact (SparesProfile.settled ..).shows (Bool.eq_false_of_not_eq_true asked) j _ shows

end

end Sys2Proof.Machine
end

section
/-! PROOFS. Two evaluations of a seat, one after the other, where none is asked for, and O20. -/

namespace Sys2Proof.Machine

/-! ## Two evaluations of a seat -/

section
variable (s : State) (p : Programme) (g : Bool)

/-- An entry that is judged as in no wind-down comes out in none (R79). -/
theorem verdictOn_windEnd_none {e : Entry} (fresh : e.state.windEnd? = none) :
    (s.verdictOn p g none e).state.windEnd? = none := by
  unfold State.verdictOn
  split
  · rfl
  · split
    · exact evaluate_windEnd ..
    · exact fresh

/-- A second judgement changes nothing. -/
theorem verdictOn_again (w : Option Nat) (e : Entry) : s.verdictOn p g w (s.verdictOn p g w e) = s.verdictOn p g w e := by
  have slot := verdictOn_slot s p g w e
  by_cases guardian : s.kind? e.slot = some .guardian
  · simp [State.verdictOn, guardian]
  · cases rules : s.rules? e.slot <;> simp [State.verdictOn, guardian, rules]

end

theorem judgedSeat_guardianPresent {s : State} {seat : Seat} (flag : seat.guardianPresent = s.guardianAmong seat.entries)
    (w : Bool) (sel : Entry → Bool) : (s.judgedSeat w sel seat).guardianPresent = seat.guardianPresent := by
  unfold State.judgedSeat
  split
  · show s.guardianAmong (List.map _ _) = _
    rw [flag]
    unfold State.guardianAmong
    rw [List.any_map]
    refine congrArg (seat.entries.any ·) (funext fun e => ?_)
    rw [Function.comp_apply]
    split
    · rw [verdictOn_slot]
    · rfl
  · rfl

/-- What a **join** re-evaluates when the new entry sets the flag: the entry itself, and the CHILD and GUEST entries
(R45, R49). -/
def State.newOrJudged (s : State) (k : Fin 16) (e : Entry) : Bool := ofProfile k e || s.judgedEntry e

theorem State.AsksNone.first {s : State} {k : Fin 16} {seat : Seat} (asks : s.AsksNone true (s.newOrJudged k) seat) :
    s.AsksNone true (ofProfile k) seat :=
  fun p playing e he own => asks p playing e he (by unfold State.newOrJudged; rw [own, Bool.true_or])

section
variable {s : State} {k : Fin 16} {seat : Seat} (flag : seat.guardianPresent = s.guardianAmong seat.entries)
  (fresh : ∀ e ∈ seat.entries, e.slot = k → e.state = .idle)
include flag fresh

/-- The seat judged for the profile and then for its CHILD and GUEST entries is the seat judged for both. -/
theorem judgedSeat_twice : (s.judgedSeat true s.judgedEntry (s.judgedSeat true (ofProfile k) seat)).entries =
    (s.judgedSeat true (s.newOrJudged k) seat).entries := by
  rw [judgedSeat_entries, judgedSeat_programme, judgedSeat_guardianPresent flag, judgedSeat_entries, judgedSeat_entries,
    List.map_map]
  refine List.map_congr_left fun e he => ?_
  rw [Function.comp_apply]
  cases seat.programme with
  | none => rfl
  | some p =>
    dsimp only
    by_cases own : ofProfile k e = true
    · have idle : e.state.windEnd? = none := by rw [fresh e he (of_decide_eq_true own)]; rfl
      have both : s.newOrJudged k e = true := by unfold State.newOrJudged; rw [own, Bool.true_or]
      simp only [own, both, if_true, idle, verdictOn_windEnd_none s p _ idle, verdictOn_again, ite_self]
    · have one : s.newOrJudged k e = s.judgedEntry e := by
        unfold State.newOrJudged; rw [Bool.eq_false_of_not_eq_true own, Bool.false_or]
      simp only [own, one, Bool.false_eq_true, if_false, if_true]

/-- With none asked for by both, none is asked for by the second evaluation. -/
theorem State.AsksNone.second (asks : s.AsksNone true (s.newOrJudged k) seat) :
    s.AsksNone true s.judgedEntry (s.judgedSeat true (ofProfile k) seat) := by
  intro p playing e he judged r rules
  rw [judgedSeat_programme] at playing
  rw [judgedSeat_entries, playing] at he
  rw [judgedSeat_guardianPresent flag]
  obtain ⟨e, mem, rfl⟩ := List.mem_map.mp he
  dsimp only at judged rules ⊢
  by_cases own : ofProfile k e = true
  · have idle : e.state.windEnd? = none := by rw [fresh e mem (of_decide_eq_true own)]; rfl
    have both : s.newOrJudged k e = true := by unfold State.newOrJudged; rw [own, Bool.true_or]
    simp only [own, if_true, idle] at rules ⊢
    rw [verdictOn_slot] at rules ⊢
    rw [verdictOn_windEnd_none s p _ idle]
    have := asks p playing e mem both r rules
    rwa [if_pos rfl, idle] at this
  · rw [if_neg own] at judged rules ⊢
    exact asks p playing e mem (by unfold State.newOrJudged; rw [judged, Bool.or_true]) r rules

end

/-! ## What a join judges -/

/-- The part as a **join** judges it: the new entry has its place, and the seat's guardian-present flag is taken anew
(R45, R49). -/
def State.joined (s : State) (j : Fin 6) (k : Fin 16) : State :=
  { s with seats := s.seats.set j { s.seats[j] with
      entries := s.seats[j].withEntry k
      guardianPresent := (s.viewers j ++ [k]).any fun x => s.kind? x = some .guardian } }

/-- The entries that a **join** of this profile to this seat judges (R45, R49). -/
def State.joinJudges (s : State) (j : Fin 6) (k : Fin 16) (j' : Fin 6) (e : Entry) : Bool :=
  decide (j' = j) && (decide (e.slot = k)
    || ((s.viewers j ++ [k]).any (fun x => s.kind? x = some .guardian) && !s.seats[j].guardianPresent
      && decide (s.kind? e.slot ≠ some .guardian)))

section
variable {s : State} {j : Fin 6} {k : Fin 16}

/-- The seat with the new entry, before an entry of it is judged. -/
def State.newSeat (s : State) (j : Fin 6) (k : Fin 16) : Seat :=
  s.deriveSeat (s.seats[j].withEntry k) s.seats[j].programme

theorem newSeat_guardianPresent : (s.newSeat j k).guardianPresent =
    (s.viewers j ++ [k]).any fun x => s.kind? x = some .guardian := by
  have flag := guardianPresent_of_follows s j k (.refl _)
  rwa [seated_seat] at flag

theorem joined_tables : SameTables (s.joined j k) s := ⟨rfl, rfl, rfl, rfl, rfl, rfl⟩

theorem joined_seat : (s.joined j k).seats[j] = { s.seats[j] with
    entries := s.seats[j].withEntry k, guardianPresent := (s.newSeat j k).guardianPresent } := by
  rw [newSeat_guardianPresent]; exact Vector.getElem_set_self ..

theorem joined_seat_of_ne {j' : Fin 6} (ne : j' ≠ j) : (s.joined j k).seats[j'] = s.seats[j'] :=
  Vector.getElem_set_ne (hi := j.isLt) (hj := j'.isLt) fun e => ne (Fin.ext e.symm)

theorem joinJudges_of_ne {j' : Fin 6} (ne : j' ≠ j) (e : Entry) : s.joinJudges j k j' e = false := by
  simp [State.joinJudges, ne]

/-- The new entry sets the seat's flag (R45). -/
def State.setsGuardian (s : State) (j : Fin 6) (k : Fin 16) : Bool :=
  (s.newSeat j k).guardianPresent && !s.seats[j].guardianPresent

/-- On its own seat a **join** judges the new entry, and the CHILD and GUEST entries where it sets the flag. -/
theorem joinJudges_own :
    s.joinJudges j k j = if s.setsGuardian j k then s.newOrJudged k else ofProfile k := by
  funext e
  have judged : decide (s.kind? e.slot ≠ some .guardian) = s.judgedEntry e := decide_not
  unfold State.joinJudges State.setsGuardian
  rw [newSeat_guardianPresent, judged, decide_eq_true rfl, Bool.true_and]
  split
  · next sets => rw [sets, Bool.true_and]; rfl
  · next same => rw [Bool.eq_false_of_not_eq_true same, Bool.false_and, Bool.or_false]; rfl

/-- The seat after a **join** at which none is asked for. -/
def State.joinedSeat (s : State) (j : Fin 6) (k : Fin 16) : Seat :=
  let entered := s.judgedSeat true (ofProfile k) (s.newSeat j k)
  if s.setsGuardian j k then s.judgedSeat true s.judgedEntry entered else entered

theorem joinedSeat_programme : (s.joinedSeat j k).programme = s.seats[j].programme := by
  unfold State.joinedSeat; dsimp only
  split
  · rw [judgedSeat_programme, judgedSeat_programme]; rfl
  · rw [judgedSeat_programme]; rfl

variable (absent : k ∉ s.viewers j)
include absent

theorem shared_quiet (asks : s.AsksNone true (s.joinJudges j k j) (s.newSeat j k)) :
    s.shared j k = { s with seats := s.seats.set j (s.joinedSeat j k) } := by
  have seat : (s.seated j k).seats[j] = s.newSeat j k := seated_seat s j k
  have tables : SameTables (s.seated j k) s := ⟨rfl, rfl, rfl, rfl, rfl, rfl⟩
  have fresh : ∀ e ∈ (s.newSeat j k).entries, e.slot = k → e.state = .idle := withEntry_own absent
  rw [joinJudges_own] at asks
  have own : s.AsksNone true (ofProfile k) (s.newSeat j k) := by
    split at asks
    · exact asks.first
    · exact asks
  have entered : s.entered j k =
      { s with seats := s.seats.set j (s.judgedSeat true (ofProfile k) (s.newSeat j k)) } := by
    rw [State.entered, reevalSeat_set (seat ▸ State.AsksNone.of_tables tables own), seat, judgedSeat_of_tables tables,
      State.seated, State.putSeat_seats, Vector.set_set]
    rfl
  have enteredSeat : (s.entered j k).seats[j] = s.judgedSeat true (ofProfile k) (s.newSeat j k) := by
    rw [entered]; exact Vector.getElem_set_self ..
  have enteredTables : SameTables (s.entered j k) s := by rw [entered]; exact ⟨rfl, rfl, rfl, rfl, rfl, rfl⟩
  have sets : ((s.entered j k).seats[j].guardianPresent && !s.seats[j].guardianPresent) = s.setsGuardian j k := by
    rw [enteredSeat, judgedSeat_guardianPresent rfl]; rfl
  unfold State.shared State.joinedSeat
  rw [sets]
  split
  · next set =>
    rw [if_pos set] at asks
    have second := State.AsksNone.second rfl fresh asks
    have judgedThere : (s.entered j k).judgedEntry = s.judgedEntry := by rw [entered]; rfl
    rw [State.reevalJudged, judgedThere, reevalSeat_set (enteredSeat ▸ State.AsksNone.of_tables enteredTables second),
      enteredSeat, judgedSeat_of_tables enteredTables, entered]
    dsimp only
    rw [Vector.set_set]
  · exact entered

theorem joinedSeat_entries : (s.joinedSeat j k).entries =
    (s.judgedSeat true (s.joinJudges j k j) (s.newSeat j k)).entries := by
  rw [joinJudges_own]
  unfold State.joinedSeat; dsimp only
  split
  · exact judgedSeat_twice rfl (withEntry_own absent)
  · rfl

theorem enter_rejudges : Rejudges s (s.joined j k) (s.enter j k) true (s.joinJudges j k) := by
  rw [enter_eq]
  refine Rejudges.of_settled false rfl fun quiet asks => ⟨s.seats.set j (s.joinedSeat j k), ?_⟩
  rw [shared_quiet absent fun p playing e he judged r rules => ?quiet]
  case quiet =>
    have none := asks j p (by rw [joined_seat]; exact playing) e (by rw [joined_seat]; exact he) judged r
      ((joined_tables.rules _).trans rules)
    rwa [joined_tables.evaluate, joined_seat] at none
  refine ⟨rfl, rfl, rfl, rfl, rfl, rfl, fun j' => ?_⟩
  by_cases here : j' = j
  · subst here
    have seat : (s.seats.set j' (s.joinedSeat j' k))[j'] = s.joinedSeat j' k := Vector.getElem_set_self ..
    rw [seat, joined_seat, joinedSeat_programme, joinedSeat_entries absent, judgedSeat_of_tables joined_tables,
      judgedSeat_entries, judgedSeat_entries]
    exact ⟨rfl, rfl⟩
  · have other : (s.seats.set j (s.joinedSeat j k))[j'] = s.seats[j'] :=
      Vector.getElem_set_ne (hi := j.isLt) (hj := j'.isLt) fun e => here (Fin.ext e.symm)
    rw [other, joined_seat_of_ne here, judgedSeat_entries]
    refine ⟨rfl, ?_⟩
    simp only [joinJudges_of_ne here, Bool.false_eq_true, if_false]
    cases s.seats[j'].programme <;> exact (List.map_id' _).symm

end

/-! ## join -/

theorem join_of_seat {s : State} {a : JoinArgs} {j : Fin 6} (hj : a.seat.toNat = j.val) : join (.fields a) s =
    let r := s.resolve a.token
    if holdsEntry s.seats[j] r.1 then (s, ok (flagByte true ++ be1 r.1.val ++ be1 r.2.code))
    else if 3 ≤ s.seats[j].entries.length then
      (s, ⟨.full, s.seats[j].entries.map fun e => BitVec.ofNat 8 e.slot.val⟩)
    else
      let t := s.enter j r.1
      (t, ok (be1 r.1.val ++ be1 r.2.code ++ be1 s.seats[j].entries.length ++ be1 (entryState t.seats[j] r.1).code
        ++ be1 (entryState t.seats[j] r.1).reasonCode ++ be1 t.seats[j].state.code)) := by
  simp only [join, withFields_fields, inRange_of_eq hj]

theorem join_of_bad {s : State} {a : JoinArgs} (out : 5 < a.seat.toNat) :
    join (.fields a) s = (s, refuse .badArgument) := by
  simp only [join, withFields_fields, inRange_of_le out]

/-- The three slots that FULL carries (R48, assumption 10). -/
theorem viewers_payload (s : State) (j : Fin 6) : (s.viewers j).flatMap (fun x => be1 x.val) =
    s.seats[j].entries.map fun e => BitVec.ofNat 8 e.slot.val := by
  unfold State.viewers
  rw [List.flatMap_map, List.map_eq_flatMap]
  rfl

/-- Settles O20: past the checks the new entry takes its place, and what follows judges the entries of this seat alone,
in which the new one has its verdict. -/
theorem joinSeatsTheProfile : Obligations.JoinSeatsTheProfile := by
  unfold Obligations.JoinSeatsTheProfile
  refine ⟨fun s a h out => exec_of_owner h rfl (join_of_bad out), fun s a j h hj => ?_⟩
  intro i k m
  have empty (absent : k ∉ s.viewers j) : ¬ holdsEntry s.seats[j] k = true :=
    Bool.not_eq_true _ ▸ (holdsEntry_eq_false_iff s j k).mpr absent
  refine ⟨fun present => ?_, fun absent full => ?_, fun absent room => ?_⟩
  · have holds : holdsEntry s.seats[j] k = true :=
      Bool.eq_true_of_not_eq_false fun none => (holdsEntry_eq_false_iff s j k).mp none present
    exact exec_of_owner h rfl (by rw [join_of_seat hj]; exact if_pos holds)
  · rw [viewers_payload]
    exact exec_of_owner h rfl (by rw [join_of_seat hj]; exact (if_neg (empty absent)).trans (if_pos full))
  · have owner := (join_of_seat (s := s) (a := a) hj).trans
      ((if_neg (empty absent)).trans (if_neg (Nat.not_le.mpr room)))
    have viewers := enter_viewers s j k
    refine ⟨_, exec_of_owner h rfl owner, replied_holds .., (viewers j).trans (if_pos rfl),
      fun j' ne => (viewers j').trans (if_neg ne), enter_programme s j k, ?_, enter_idle absent,
      fun p playing => ⟨enter_exempt playing, fun r rules quiet => enter_verdict absent playing rules quiet⟩,
      (enter_work s j k).replied .., Rejudges.replied (enter_rejudges absent) _ _ _⟩
    show (s.enter j k).seats[j].guardianPresent = ((s.enter j k).viewers j).any _
    rw [guardianPresent_of_follows s j k (enter_follows s j k), viewers, if_pos rfl]

end Sys2Proof.Machine
end

section
/-! PROOFS. The verdict unit: what its groups find in the grants and the windows, the walk through them, and O23. -/

namespace Sys2Proof.Machine

/-! ## Positions of a table -/

theorem mem_toList_iff_position {α : Type} {n : Nat} {v : Vector α n} {a : α} :
    a ∈ v.toList ↔ ∃ i : Fin n, v[i] = a := by
  rw [Vector.mem_toList_iff, Vector.mem_iff_getElem]
  exact ⟨fun ⟨i, hi, found⟩ => ⟨⟨i, hi⟩, found⟩, fun ⟨i, found⟩ => ⟨i, i.isLt, found⟩⟩

section
variable {α β : Type} {n : Nat} {v : Vector α n} {f : α → Option β} {P : Fin n → β → Prop}
variable (finds : ∀ i b, f v[i] = some b ↔ P i b)
include finds

theorem findSome?_eq_none_of_forall_not (absent : ∀ i b, ¬ P i b) : v.toList.findSome? f = none := by
  rw [List.findSome?_eq_none_iff]
  intro a held
  obtain ⟨i, rfl⟩ := mem_toList_iff_position.mp held
  exact Option.eq_none_iff_forall_ne_some.mpr fun b found => absent i b ((finds i b).mp found)

theorem findSome?_eq_some_of_unique {i : Fin n} {b : β} (present : P i b) (only : ∀ i' b', P i' b' → i' = i) :
    v.toList.findSome? f = some b := by
  have here : f v[i] = some b := (finds i b).mpr present
  cases h : v.toList.findSome? f with
  | none => rw [List.findSome?_eq_none_iff.mp h _ (mem_toList_iff_position.mpr ⟨i, rfl⟩)] at here; cases here
  | some b' =>
    obtain ⟨a, held, found⟩ := List.exists_of_findSome?_eq_some h
    obtain ⟨i', rfl⟩ := mem_toList_iff_position.mp held
    rw [only i' b' ((finds i' b').mp found), here] at found
    exact found.symm

end

/-! ## What the groups read of the grants (R69, R76, R91) -/

/-- Grant e permits the title to the profile, with this metered flag (R69). -/
def State.PermitsTitle (s : State) (k : Fin 16) (content : Word) (e : Fin 16) (m : Bool) : Prop :=
  ∃ x, s.grants[e] = some ⟨k, .titlePermit content m x⟩

/-- Grant e gives the profile these extra minutes (R91). -/
def State.GivesExtra (s : State) (k : Fin 16) (e : Fin 16) (m : Nat) : Prop :=
  ∃ d, s.grants[e] = some ⟨k, .extraTime m d⟩

section
variable (s : State) (k : Fin 16)

theorem titlePermit?_zero : s.titlePermit? k 0 = none := rfl

/-- Past content id 0 the grant group is a search of the grants for one that permits the title. -/
theorem titlePermit?_searches {content : Word} (named : content ≠ 0) :
    ∃ f, (∀ e m, f s.grants[e] = some m ↔ s.PermitsTitle k content e m)
      ∧ s.titlePermit? k content = s.grants.toList.findSome? f := by
  refine ⟨_, fun e m => ?_, if_neg named⟩
  unfold State.PermitsTitle
  rcases s.grants[e] with _ | ⟨slot, _ | _ | _⟩ <;> simp [and_assoc]

/-- The extra minutes are those that a search of the grants finds, and 0 where it finds none. -/
theorem extra_searches :
    ∃ f, (∀ e m, f s.grants[e] = some m ↔ s.GivesExtra k e m)
      ∧ s.extra k = (s.grants.toList.findSome? f).getD 0 := by
  refine ⟨_, fun e m => ?_, rfl⟩
  unfold State.GivesExtra
  rcases s.grants[e] with _ | ⟨slot, _ | _ | _⟩ <;> simp

theorem hasWaiver_iff : s.hasWaiver k = true ↔ ∃ (e : Fin 16) (x : Moment), s.grants[e] = some ⟨k, .windowWaiver x⟩ := by
  unfold State.hasWaiver
  rw [List.any_eq_true]
  constructor
  · rintro ⟨g, held, waives⟩
    obtain ⟨e, rfl⟩ := mem_toList_iff_position.mp held
    refine ⟨e, ?_⟩
    rcases h : s.grants[e] with _ | ⟨slot, _ | _ | x⟩ <;> simp_all
  · rintro ⟨e, x, waives⟩
    exact ⟨_, mem_toList_iff_position.mpr ⟨e, waives⟩, by simp⟩

theorem titlePermit?_eq_none {content : Word} (absent : ∀ e m, ¬ s.PermitsTitle k content e m) :
    s.titlePermit? k content = none := by
  by_cases zero : content = 0
  · rw [zero, titlePermit?_zero]
  · obtain ⟨f, finds, search⟩ := titlePermit?_searches s k zero
    rw [search, findSome?_eq_none_of_forall_not finds absent]

theorem titlePermit?_eq_some {content : Word} (named : content ≠ 0) {e : Fin 16} {m : Bool}
    (present : s.PermitsTitle k content e m) (only : ∀ e' m', s.PermitsTitle k content e' m' → e' = e) :
    s.titlePermit? k content = some m := by
  obtain ⟨f, finds, search⟩ := titlePermit?_searches s k named
  rw [search, findSome?_eq_some_of_unique finds present only]

theorem extra_eq_zero (absent : ∀ e m, ¬ s.GivesExtra k e m) : s.extra k = 0 := by
  obtain ⟨f, finds, search⟩ := extra_searches s k
  rw [search, findSome?_eq_none_of_forall_not finds absent]; rfl

theorem extra_eq_minutes {e : Fin 16} {m : Nat} (present : s.GivesExtra k e m)
    (only : ∀ e' m', s.GivesExtra k e' m' → e' = e) : s.extra k = m := by
  obtain ⟨f, finds, search⟩ := extra_searches s k
  rw [search, findSome?_eq_some_of_unique finds present only]; rfl

end

/-! ## The rating group (R70, R71, R72) -/

/-- Two sets of descriptors meet where a descriptor is in both. -/
theorem and_ne_zero_iff (a b : Byte) : a &&& b ≠ 0 ↔ ∃ d : Fin 8, a.getLsbD d = true ∧ b.getLsbD d = true := by
  constructor
  · intro meets
    by_contra apart
    refine meets (BitVec.eq_of_getLsbD_eq fun d hd => ?_)
    have out : ¬ (a.getLsbD d = true ∧ b.getLsbD d = true) := fun both => apart ⟨⟨d, hd⟩, both⟩
    simpa using out
  · rintro ⟨d, inA, inB⟩ zero
    have bit : (a &&& b).getLsbD d = true := by rw [BitVec.getLsbD_and, inA, inB]; rfl
    rw [zero] at bit
    simp at bit

theorem ratedLevel_eq (r : Rules) (m : Maturity) : ratedLevel r m = match m with
    | some level => level
    | none => r.unrated := by
  cases m <;> rfl

section
variable {r : Rules} {p : Programme} {level : Nat} (rated : ratedLevel r p.maturity = level) (g : Bool)
include rated

theorem ratingGroup_of_level (above : effectiveCeiling r g < level) : ratingGroup r p g = some .ratingLevel :=
  if_pos (rated ▸ above)

theorem ratingGroup_of_descriptor (within : level ≤ effectiveCeiling r g) (meets : p.descriptors &&& r.blocked ≠ 0) :
    ratingGroup r p g = some .ratingDescriptor :=
  (if_neg (Nat.not_lt.mpr (rated ▸ within))).trans (if_pos meets)

theorem ratingGroup_of_pass (within : level ≤ effectiveCeiling r g) (apart : ¬ p.descriptors &&& r.blocked ≠ 0) :
    ratingGroup r p g = none :=
  (if_neg (Nat.not_lt.mpr (rated ▸ within))).trans (if_neg apart)

end

/-! ## The window group (R74, R75, R76) -/

theorem dayBefore_eq {d e : Fin 7} (before : e.val = (d.val + 6) % 7) : dayBefore d = e :=
  Fin.ext before.symm

theorem covers_within_day {w : Window} (t : Nat) (d : Fin 7) (order : w.start < w.stop) :
    w.covers t d = true ↔ w.days.getLsbD d = true ∧ w.start ≤ t ∧ t < w.stop := by
  simp [Window.covers, order, and_assoc]

theorem covers_over_midnight {w : Window} (t : Nat) (d : Fin 7) (order : w.stop < w.start) :
    w.covers t d = true ↔
      (w.days.getLsbD d = true ∧ w.start ≤ t) ∨ (w.days.getLsbD (dayBefore d) = true ∧ t < w.stop) := by
  simp [Window.covers, Nat.lt_asymm order]

theorem mem_windowList (r : Rules) (w : Window) : w ∈ r.windowList ↔ ∃ q : Fin 4, r.windows[q] = some w := by
  rw [Rules.windowList, List.mem_filterMap, ← mem_toList_iff_position]
  simp

/-- A DENY window covers the moment, or the profile has ALLOW windows and none of them does (R76). -/
def State.WindowsShut (s : State) (r : Rules) : Prop :=
  let covers := fun w : Window => w.covers s.clock.minute s.clock.weekday = true
  (∃ w ∈ r.windowList, w.kind = .deny ∧ covers w)
    ∨ (∃ w ∈ r.windowList, w.kind = .allow) ∧ ∀ w ∈ r.windowList, w.kind = .allow → ¬ covers w

section
variable {s : State} {k : Fin 16} {r : Rules}

theorem windowGroup_unset (unset : s.clock.isSet = false) :
    s.windowGroup k r = if r.windowList = [] then none else some .clock := by
  simp [State.windowGroup, unset]

theorem windowGroup_waived (isSet : s.clock.isSet = true) (waived : s.hasWaiver k = true) :
    s.windowGroup k r = none := by
  simp [State.windowGroup, isSet, waived]

theorem windowGroup_judged (isSet : s.clock.isSet = true) (unwaived : ¬ s.hasWaiver k = true)
    [Decidable (s.WindowsShut r)] :
    s.windowGroup k r = if s.WindowsShut r then some .window else none := by
  unfold State.windowGroup
  simp only [isSet, Bool.not_true, Bool.false_eq_true, if_false, if_neg unwaived]
  split
  · next deny => exact (if_pos (.inl (by simpa using deny))).symm
  · next noDeny =>
    split
    · next noAllow => exact (if_pos (.inr (by simpa using noAllow))).symm
    · next allow =>
      refine (if_neg ?_).symm
      rintro (deny | noAllow)
      · exact noDeny (by simpa using deny)
      · exact allow (by simpa using noAllow)

end

/-! ## The time group (R78, R79, R99) -/

theorem lowAt_iff (r : Rules) (left : Nat) : lowAt r left = true ↔ 0 < r.warning ∧ 0 < left ∧ left ≤ r.warning * 6000 := by
  simp [lowAt, and_assoc]

section
variable {s : State} {k : Fin 16} {r : Rules}

theorem remaining_of_rules (rules : s.rules? k = some r) : s.remaining k =
    (r.allowances[s.clock.meterWeekday] + s.extra k + s.meters[k].drawn) * 6000 - s.meters[k].used := by
  simp only [State.remaining, State.budget, State.allowance, rules]

theorem poolPossible_of_rules (rules : s.rules? k = some r) :
    s.poolPossible k = true ↔ r.tier.isSome = true ∧ s.meters[k].draws < r.drawsPerDay := by
  simp only [State.poolPossible, rules, Bool.and_eq_true, decide_eq_true_eq]

theorem timeGroup_unmetered (w : Option Nat) (unmetered : r.metered = false) : s.timeGroup k r w = some .clear := by
  simp [State.timeGroup, unmetered]

theorem timeGroup_left (w : Option Nat) (metered : r.metered = true) (left : 0 < s.remaining k) :
    s.timeGroup k r w = some (if lowAt r (s.remaining k) then .low else .clear) := by
  simp [State.timeGroup, metered, left]

/-- An entry in wind-down goes on in it (R79). -/
theorem timeGroup_winding (ends : Nat) (metered : r.metered = true) (spent : s.remaining k = 0) :
    s.timeGroup k r (some ends) = some (.winding ends) := by
  simp [State.timeGroup, metered, spent]

/-- A spent profile whose entry is in no wind-down waits where a request is pending or the pool possible (R79). -/
theorem timeGroup_spent (metered : r.metered = true) (spent : s.remaining k = 0) : s.timeGroup k r none =
    if s.hasRequest k then some (.waiting false)
    else if s.poolPossible k then some (.waiting true)
    else none := by
  simp [State.timeGroup, metered, spent]

end

/-! ## The walk (R64, R67, R68) -/

section
variable (s : State) (k : Fin 16) (r : Rules) (p : Programme) (g : Bool) (w : Option Nat)

theorem walk_cons_of_passes {x : RuleGroup} (passes : s.Passes k r p g w x) (rest : List RuleGroup)
    (c : Option TimePass) : s.walk k r p g w (x :: rest) c =
      s.walk k r p g w rest (if RuleGroup.time = x then s.timeGroup k r w else c) := by
  cases x with
  | time =>
    obtain ⟨pass, found⟩ := Option.isSome_iff_exists.mp passes
    rw [State.walk, if_pos rfl, found]
  | grant => rw [State.walk, show s.titlePermit? k p.content = none from passes]; rfl
  | rating => rw [State.walk, show ratingGroup r p g = none from passes]; rfl
  | window => rw [State.walk, show s.windowGroup k r = none from passes]; rfl

/-- Groups that pass are walked past; what the time group carried among them goes on. -/
theorem walk_append_of_passes {before : List RuleGroup} (passes : ∀ x ∈ before, s.Passes k r p g w x)
    (after : List RuleGroup) (c : Option TimePass) : s.walk k r p g w (before ++ after) c =
      s.walk k r p g w after (if RuleGroup.time ∈ before then s.timeGroup k r w else c) := by
  induction before generalizing c with
  | nil => rfl
  | cons x rest ih =>
    rw [List.cons_append, walk_cons_of_passes s k r p g w (passes x (List.mem_cons_self ..)),
      ih fun y held => passes y (List.mem_cons_of_mem _ held)]
    by_cases here : RuleGroup.time = x <;> simp [here]

/-- A permitted entry, with the pass that the time group carried where it was consulted (R68). -/
theorem permit_eq (why : Pass) (carried : Option TimePass) (decider : Option RuleGroup) :
    s.permit k r why carried decider =
      ⟨match carried with
        | none =>
          if r.metered && decide (0 < r.warning ∧ 0 < s.remaining k ∧ s.remaining k ≤ r.warning * 6000) then .low why
          else .clear why
        | some .clear => .clear why
        | some .low => .low why
        | some (.winding ends) => .winding why ends
        | some (.waiting _) => .waiting why, decide (carried = some (.waiting true)), decider⟩ := by
  have low : lowAt r (s.remaining k)
      = decide (0 < r.warning ∧ 0 < s.remaining k ∧ s.remaining k ≤ r.warning * 6000) :=
    Bool.eq_iff_iff.mpr ((lowAt_iff ..).trans decide_eq_true_iff.symm)
  match carried with
  | none => rw [← low]; rfl
  | some .clear | some .low | some (.winding _) | some (.waiting true) | some (.waiting false) => rfl

end

/-- Settles O23: the groups before the deciding one are walked past, and each group is read off its own lemmas. -/
theorem theFirstGroupToDecideDecides : Obligations.TheFirstGroupToDecideDecides := by
  unfold Obligations.TheFirstGroupToDecideDecides
  refine ⟨fun s k r p g w before after c passes => ?_, fun s k r p g w => rfl,
    fun s k content => ⟨?_, titlePermit?_eq_none s k, fun named e m => titlePermit?_eq_some s k named⟩,
    fun r p g => ?_, fun w t d e before => ?_, fun s k r => ?_,
    fun s k => ⟨extra_eq_zero s k, fun e m => extra_eq_minutes s k⟩, fun s k r w rules => ?_⟩
  · have past := fun rest => walk_append_of_passes s k r p g w passes rest c
    refine ⟨fun d decides => ?_, fun d decides => ?_, fun decides => ?_, fun m decides => ?_, ?_⟩
    · rw [past, State.walk, decides]
    · rw [past, State.walk, decides]
    · rw [past, State.walk, decides]
    · rw [past, State.walk, decides]; exact permit_eq ..
    · rw [← List.append_nil before, past, State.walk, List.append_nil]; exact permit_eq ..
  · rintro rfl; exact titlePermit?_zero s k
  · rw [← and_ne_zero_iff]
    have rated := ratedLevel_eq r p.maturity
    exact ⟨ratingGroup_of_level rated g, ratingGroup_of_descriptor rated g, ratingGroup_of_pass rated g⟩
  · rw [← dayBefore_eq before]
    exact ⟨covers_within_day t d, covers_over_midnight t d⟩
  · simp only [← mem_windowList, ← hasWaiver_iff]
    classical
    refine ⟨fun unset ⟨w, held⟩ => ?_, fun unset empty => ?_, fun isSet waived => windowGroup_waived isSet waived,
      fun isSet unwaived shut => (windowGroup_judged isSet unwaived).trans (if_pos ?_),
      fun isSet unwaived opens => (windowGroup_judged isSet unwaived).trans (if_neg ?_)⟩
    · rw [windowGroup_unset unset, if_neg (List.ne_nil_of_mem held)]
    · rw [windowGroup_unset unset, if_pos (List.eq_nil_iff_forall_not_mem.mpr empty)]
    · exact shut
    · exact opens
  · have left := remaining_of_rules rules
    have possible := poolPossible_of_rules rules
    rw [← left, ← possible]
    refine ⟨rfl, timeGroup_unmetered w, fun metered some_left => ?_, fun metered spent => ?_⟩
    · rw [timeGroup_left w metered some_left]
      refine ⟨fun warns near => ?_, fun far => ?_⟩
      · rw [if_pos ((lowAt_iff ..).mpr ⟨warns, some_left, near⟩)]
      · rw [if_neg]
        intro low
        obtain ⟨warns, -, near⟩ := (lowAt_iff ..).mp low
        omega
    · have row := timeGroup_spent metered spent
      refine ⟨?_, ?_, ?_, ?_⟩
      · rintro e rfl; exact timeGroup_winding e metered spent
      · rintro rfl pending; exact row.trans (if_pos pending)
      · rintro rfl free possible; exact row.trans (by rw [free, possible]; rfl)
      · rintro rfl free impossible; exact row.trans (by rw [free, if_neg impossible]; rfl)

end Sys2Proof.Machine
end

section
/-! PROOFS. The answers of **preview** (R84, R85, R86), and O24. -/

namespace Sys2Proof.Machine

section
variable {s : State} {a : PreviewArgs}

theorem preview_of_bad (bad : 1 < a.form.toNat ∨ (a.form = 1 ∧ 15 < a.target.toNat) ∨ 7 < a.programme.category.toNat) :
    preview (.fields a) s = (s, refuse .badArgument) := by
  rw [preview, withFields_fields]
  rcases bad with form | slot | category
  · rw [target?_of_bad (.inl form)]
  · rw [target?_of_bad (.inr slot)]
  · rw [inRange_of_le category]; cases s.target? a.form a.target <;> rfl

theorem preview_of_coview (high : 1 < a.coview.toNat) : preview (.fields a) s = (s, refuse .badArgument) := by
  rw [preview, withFields_fields]
  split
  · exact if_pos high
  · rfl

variable {k : Fin 16} {m : Nat} {c : Fin 8} (target : s.target? a.form a.target = some (k, m))
  (category : a.programme.category.toNat = c.val) (coview : a.coview.toNat ≤ 1)
include target category coview

theorem preview_of_free (free : s.profile? k = none) : preview (.fields a) s = (s, refuse .noSuch) := by
  have plain : ¬ 2 ≤ a.coview.toNat := by omega
  simp only [preview, withFields_fields, target, inRange_of_eq category, if_neg plain, free]

theorem preview_of_guardian {who : Ident} (live : s.profile? k = some (.guardian who)) :
    preview (.fields a) s = (s, ok (s.previewGuardian k m (s.programmeOf a.programme c))) := by
  have plain : ¬ 2 ≤ a.coview.toNat := by omega
  simp only [preview, withFields_fields, target, inRange_of_eq category, if_neg plain, live, Profile.rules?]

theorem preview_of_rules {profile : Profile} {r : Rules} (live : s.profile? k = some profile)
    (rules : profile.rules? = some r) : preview (.fields a) s =
      (s, ok (s.previewJudged k m profile.kind r (s.programmeOf a.programme c) (a.coview = 1))) := by
  have plain : ¬ 2 ≤ a.coview.toNat := by omega
  simp only [preview, withFields_fields, target, inRange_of_eq category, if_neg plain, live, rules]

end

/-- The payload for a CHILD or GUEST, byte by byte as 11.6 has it (R86). -/
theorem previewJudged_eq (s : State) (k : Fin 16) (m : Nat) (kind : Kind) (r : Rules) (p : Programme) (coview : Bool) :
    s.previewJudged k m kind r p coview =
      let v := s.evaluate k r p coview none
      be1 k.val ++ be1 m ++ be1 kind.code ++ be1 (if v.state.isDenied then 1 else 0)
        ++ be1 ((v.decider.map RuleGroup.code).getD 255) ++ be1 v.state.code ++ be1 v.state.reasonCode
        ++ grantMeteredBytes v.state ++ be1 (p.maturity.getD r.unrated) ++ flagByte p.maturity.isNone
        ++ be1 (if coview then min 31 (r.ceiling + r.headroom) else r.ceiling)
        ++ be4 (s.remaining k) ++ flagByte r.metered ++ flagByte (s.hasRequest k) ++ flagByte v.asks := rfl

/-- Settles O24: the owner answers from the tables as they stand, so that the reply is all that a **preview** leaves. -/
theorem previewAnswersTheVerdict : Obligations.PreviewAnswersTheVerdict := by
  unfold Obligations.PreviewAnswersTheVerdict
  refine ⟨fun s a h bad => ?_, fun s a k m c h target category => ?_⟩
  · rcases bad with form | high | slot | out
    · exact exec_of_owner h rfl (preview_of_bad (.inl form))
    · exact exec_of_owner h rfl (preview_of_coview high)
    · exact exec_of_owner h rfl (preview_of_bad (.inr (.inl slot)))
    · exact exec_of_owner h rfl (preview_of_bad (.inr (.inr out)))
  · refine ⟨fun high => exec_of_owner h rfl (preview_of_coview high), fun coview free => ?_, fun coview who live => ?_,
      fun coview profile r live rules => ?_⟩
    · exact exec_of_owner h rfl (preview_of_free target category coview free)
    · exact exec_of_owner h rfl (preview_of_guardian target category coview live)
    · refine (exec_of_owner h rfl (preview_of_rules target category coview live rules)).trans ?_
      rw [previewJudged_eq]
      simp only [decide_eq_true_eq]

end Sys2Proof.Machine
end

section
/-! SUPPORT. What evaluations, waits and draws make of the meters, the pool and the notice set: each draw moves minutes
from P to D and counts in its profile's record, and nothing else of them is written (R89, R108, R120, R129, R203). -/

namespace Sys2Proof.Machine

/-- The draws of the meter day, over all profiles (R93). -/
def drawCount (meters : Vector Meter 16) : Nat := (meters.toList.map (·.draws)).sum

/-- The state `t` is `s` after `n` draws: nothing is used or topped up, P and D together stand, and no notice is
taken out of the set. -/
structure Drawn (n : Nat) (s t : State) : Prop where
  used : UsedKept s t
  residue : ∀ k : Fin 16, t.meters[k].residue = s.meters[k].residue
  draws : drawCount t.meters = drawCount s.meters + n
  size : t.pool.sizeInForce = s.pool.sizeInForce
  minutes : t.pool.remaining + t.pool.drawn = s.pool.remaining + s.pool.drawn
  notices : ∀ x : Notice, s.hasNotice x = true → t.hasNotice x = true

theorem Drawn.of_eq {s t : State} (meters : t.meters = s.meters) (pool : t.pool = s.pool)
    (notices : ∀ x : Notice, s.hasNotice x = true → t.hasNotice x = true) : Drawn 0 s t where
  used := .of_eq meters pool
  residue k := by rw [meters]
  draws := by rw [meters]; rfl
  size := by rw [pool]
  minutes := by rw [pool]
  notices := notices

theorem Drawn.refl (s : State) : Drawn 0 s s := .of_eq rfl rfl fun _ => id

theorem Drawn.trans {m n : Nat} {s t u : State} (h : Drawn m s t) (h' : Drawn n t u) : Drawn (n + m) s u where
  used := h.used.trans h'.used
  residue k := (h'.residue k).trans (h.residue k)
  draws := by rw [h'.draws, h.draws]; omega
  size := h'.size.trans h.size
  minutes := h'.minutes.trans h.minutes
  notices x := h'.notices x ∘ h.notices x

/-- Work that draws nothing, after `n` draws. -/
theorem Drawn.followed {n : Nat} {s t u : State} (h : Drawn n s t) (h' : Drawn 0 t u) : Drawn n s u :=
  Nat.zero_add n ▸ h.trans h'

theorem Drawn.foldl {α : Type} {f : State → α → State} (hf : ∀ s a, Drawn 0 s (f s a)) (l : List α) (s : State) :
    Drawn 0 s (l.foldl f s) := by
  induction l generalizing s with
  | nil => exact .refl s
  | cons a l ih => exact (hf s a).trans (ih _)

/-! ## Notices -/

theorem addNotice_hasNotice (s : State) (n x : Notice) :
    (s.addNotice n).hasNotice x = (s.hasNotice x || decide (n.bit = x.bit)) := by
  have small : n.bit < 16 := by cases n <;> simp [Notice.bit]; omega
  simp [State.hasNotice, State.addNotice, BitVec.getLsbD_or, BitVec.getLsbD_twoPow, small]

theorem Drawn.addNotice (s : State) (n : Notice) : Drawn 0 s (s.addNotice n) :=
  .of_eq rfl rfl fun x had => by rw [addNotice_hasNotice, had, Bool.true_or]

theorem Drawn.noteSeats (before s : State) : Drawn 0 s (State.noteSeats before s) := by
  refine .foldl (fun s j => ?_) _ s
  unfold State.noteSeat
  split
  · exact .refl s
  · exact .addNotice ..

theorem Drawn.raiseRequest (s : State) (k : Fin 16) : Drawn 0 s (s.raiseRequest k) := by
  unfold State.raiseRequest; dsimp only
  split
  · exact .refl s
  · have joined : ∀ q, Drawn 0 s { s with requests := q } := fun q => .of_eq rfl rfl fun _ => id
    split
    · exact (joined _).trans (.addNotice ..)
    · exact joined _

/-! ## Evaluation -/

theorem Drawn.judgeAll (p : Programme) (g w : Bool) (sel : Entry → Bool) (s : State) (es : List Entry) :
    Drawn 0 s (State.judgeAll p g w sel s es).1 := by
  have judged : ∀ (s : State) (e : Entry), Drawn 0 s (s.judge p g w e).1 := by
    intro s e
    rcases judge_cases s p g w e with h | h <;> rw [h]
    · exact .refl s
    · exact .raiseRequest ..
  induction es generalizing s with
  | nil => exact .refl s
  | cons e es ih =>
    unfold State.judgeAll; dsimp only; split
    · exact (judged s e).trans (ih _)
    · exact ih s

theorem Drawn.reevalSeat (w : Bool) (sel : Entry → Bool) (s : State) (j : Fin 6) :
    Drawn 0 s (s.reevalSeat w sel j) := by
  unfold State.reevalSeat; split
  · exact .refl s
  · exact (Drawn.judgeAll ..).trans (.of_eq rfl rfl fun _ => id)

theorem Drawn.reeval (s : State) (sel : Entry → Bool) : Drawn 0 s (s.reeval sel) := .foldl (.reevalSeat true sel) _ s

/-! ## Exhaustion and waits -/

theorem Drawn.writeEntries (s : State) (f : Seat → Entry → EntryState) : Drawn 0 s (s.writeEntries f) :=
  .of_eq rfl rfl fun _ => id

/-- One profile's record in place of another changes the count of draws by the two records' own counts. -/
theorem drawCount_set (v : Vector Meter 16) (k : Fin 16) (m : Meter) :
    drawCount (v.set k m) + v[k].draws = drawCount v + m.draws := by
  have split : ∀ (l : List Nat) (i : Nat) (h : i < l.length) (a : Nat), (l.set i a).sum + l[i] = l.sum + a := by
    intro l
    induction l with
    | nil => nofun
    | cons b l ih =>
      intro i h a
      cases i with
      | zero => simp; omega
      | succ i => have := ih i (Nat.lt_of_succ_lt_succ h) a; simp; omega
  have := split (v.toList.map (·.draws)) k.val (by simp) m.draws
  simpa [drawCount, Vector.toList_set, List.map_set] using this

/-- A record that takes a draw, or takes the wind-down flag and no draw. -/
theorem Drawn.setMeter {n : Nat} {s t : State} {k : Fin 16} {m : Meter} (meters : t.meters = s.meters.set k m)
    (used : m.used = s.meters[k].used) (residue : m.residue = s.meters[k].residue)
    (draws : m.draws = s.meters[k].draws + n) (size : t.pool.sizeInForce = s.pool.sizeInForce)
    (toppedUp : t.pool.toppedUp = s.pool.toppedUp)
    (minutes : t.pool.remaining + t.pool.drawn = s.pool.remaining + s.pool.drawn) (notices : t.notices = s.notices) :
    Drawn n s t where
  used := .setMeter meters used toppedUp
  residue k' := by
    rw [meters]
    by_cases h : k' = k
    · subst h
      exact (congrArg Meter.residue (Vector.getElem_set_self ..)).trans residue
    · rw [setMeter_of_ne _ (Ne.symm h)]
  draws := by have := drawCount_set s.meters k m; rw [meters]; omega
  size := size
  minutes := minutes
  notices x had := by unfold State.hasNotice at *; rw [notices]; exact had

theorem Drawn.windDownOrDeny (s : State) (k : Fin 16) (sel : Seat → Entry → Bool) :
    Drawn 0 s (s.windDownOrDeny k sel) := by
  unfold State.windDownOrDeny; dsimp only; split
  · exact .setMeter rfl rfl rfl rfl rfl rfl rfl rfl
  · exact .writeEntries ..

theorem Drawn.exhaustionCheck (s : State) (k : Fin 16) : Drawn 0 s (s.exhaustionCheck k) := by
  unfold State.exhaustionCheck State.exhaust; dsimp only; split
  · split
    · exact .writeEntries ..
    · split
      · exact (Drawn.raiseRequest s k).trans (.writeEntries ..)
      · exact .windDownOrDeny ..
  · exact .refl s

theorem Drawn.afterDecrease (s before : State) (k : Fin 16) : Drawn 0 s (s.afterDecrease before k) := by
  unfold State.afterDecrease; split
  · exact .exhaustionCheck s k
  · exact .refl s

theorem Drawn.endOfWait (s : State) (k : Fin 16) : Drawn 0 s (s.endOfWait k) := by
  unfold State.endOfWait; split
  · split
    · exact .reeval ..
    · exact .windDownOrDeny ..
  · exact .refl s

/-- Stage 3 of the metering second debits nothing and draws nothing (R98). -/
theorem Drawn.checkProfile (s : State) (k : Fin 16) : Drawn 0 s (s.checkProfile k) := by
  unfold State.checkProfile; split
  · split
    · exact (Drawn.writeEntries ..).trans (.exhaustionCheck ..)
    · exact .refl s
  · exact .refl s

/-! ## Draws -/

/-- One draw (R129): its minutes were in the pool, and its profile's record counts it. -/
theorem Drawn.drawFor (s : State) (r : Request) : Drawn 1 s (s.drawFor r) := by
  unfold State.drawFor State.creditDraw; dsimp only
  generalize hg : min (s.drawSizeOf r.slot) s.pool.remaining = g
  have inPool : g ≤ s.pool.remaining := hg ▸ min_le_right ..
  refine Drawn.trans (m := 1) (n := 0) (t := { s.dropRequest r.slot with
    pool := { s.pool with remaining := s.pool.remaining - g, drawn := s.pool.drawn + g }
    meters := s.meters.set r.slot { s.meters[r.slot] with
      drawn := s.meters[r.slot].drawn + g, draws := s.meters[r.slot].draws + 1 }
    meterDirty := true }) (.setMeter rfl rfl rfl rfl rfl rfl ?_ rfl) ?_
  · dsimp only; omega
  · split
    · exact .reeval ..
    · split
      · exact .raiseRequest ..
      · exact .windDownOrDeny ..

theorem Drawn.draws_of (fuel : Nat) (s : State) : Drawn (State.draws fuel s).2 s (State.draws fuel s).1 := by
  induction fuel generalizing s with
  | zero => exact .refl s
  | succ n ih =>
    unfold State.draws; split
    · exact .refl s
    · split
      · exact .refl s
      · exact (Drawn.drawFor s _).trans (ih _)

theorem Drawn.opportunity (s : State) : Drawn s.opportunity.2 s s.opportunity.1 := by
  unfold State.opportunity; dsimp only; split
  · exact (Drawn.draws_of ..).followed (.addNotice ..)
  · exact .draws_of ..

/-- The end of an event makes the draws that it counts, and does nothing else to meters and pool (R46, R60, R128). -/
theorem Drawn.settle (s before : State) (offered : Bool) :
    Drawn (s.settle before offered).2 s (s.settle before offered).1 := by
  have released : Drawn 0 s s.releaseWaits := .of_eq rfl rfl fun _ => id
  unfold State.settle State.settleWaits; dsimp only
  split
  · exact released.trans ((Drawn.opportunity _).followed (.noteSeats ..))
  · exact released.trans (.noteSeats ..)

end Sys2Proof.Machine
end

section
/-! PROOFS. The retirement of a grant by its entry (R102, R143, R144), and O32. -/

namespace Sys2Proof.Machine

/-- A budget decrease and the re-evaluation of the profile's entries after it, and the end of their event (R102). -/
theorem rejudges_afterDecrease {s x : State} (k : Fin 16) (requests : x.requests = s.requests) :
    Rejudges s (x.afterDecrease s k) (((x.afterDecrease s k).reeval (ofProfile k)).settled s false) true
      fun _ e => decide (e.slot = k) := by
  intro quiet
  have quiet_before : s.requests = [] := requests ▸ List.prefix_nil.mp (quiet ▸ afterDecrease_prefix x s k)
  exact rejudges_reeval s (x.afterDecrease s k) (ofProfile k) false (quiet_before.trans quiet.symm) quiet

section
variable (s : State) (i k : Fin 16)

/-- The part with the entry free and the grant table's block in the commit queue. -/
def State.ungranted : State := { s with
  grants := s.grants.set i none, store := { s.store with queue := s.queueWith [grantBlock] } }

theorem revoke_eq : s.revoke i k =
    (((s.ungranted i).afterDecrease s k).reeval (ofProfile k)).settled s false := by
  unfold State.revoke; dsimp only
  rw [State.commit_queueWith]; rfl

theorem revoke_work : SeatWork (s.ungranted i) (s.revoke i k) := by
  rw [revoke_eq]
  exact (SeatWork.afterDecrease ..).trans ((SeatWork.reeval ..).trans (.settled ..))

/-- What the lost minutes bring comes first, and the profile's entries are judged after it (R102, R144). -/
theorem revoke_rejudges : Rejudges s ((s.ungranted i).afterDecrease s k) (s.revoke i k) true
    fun _ e => decide (e.slot = k) := by
  rw [revoke_eq]
  exact rejudges_afterDecrease (x := s.ungranted i) k rfl

theorem revoke_used : UsedKept s (s.revoke i k) := by
  rw [revoke_eq]
  exact UsedKept.trans (.of_eq rfl rfl)
    ((UsedKept.afterDecrease (s.ungranted i) s k).trans ((UsedKept.reeval ..).trans (.settled ..)))

end

section
variable {s : State} {b : Byte} (isOpen : s.authority.window.isSome = true)
include isOpen

theorem grevoke_of_lt (out : 15 < b.toNat) : grevoke (.fields b) s = (s, refuse .badArgument) := by
  rw [grevoke, guarded_open isOpen, withFields_fields, inRange_of_le out]

section
variable {e : Fin 16} (he : b.toNat = e.val)
include he

theorem grevoke_of_free (free : s.grants[e] = none) : grevoke (.fields b) s = (s, refuse .noSuch) := by
  simp only [grevoke, guarded_open isOpen, withFields_fields, inRange_of_eq he, free]

theorem grevoke_of_live {g : Grant} (live : s.grants[e] = some g) : grevoke (.fields b) s =
    (s.revoke e g.slot, ok (be1 g.slot.val ++ be1 g.body.code ++ be1 (s.countEntries (ofProfile g.slot)))) := by
  simp only [grevoke, guarded_open isOpen, withFields_fields, inRange_of_eq he, live]

end

end

/-- Settles O32: past the checks the entry is free, what the lost minutes bring comes first, and the profile's entries
are judged after it. -/
theorem grevokeRetiresTheGrant : Obligations.GrevokeRetiresTheGrant := by
  unfold Obligations.GrevokeRetiresTheGrant
  refine fun s b h isOpen => ⟨fun out => exec_of_owner h rfl (grevoke_of_lt isOpen out), fun e he =>
    ⟨fun free => ?_, fun g live => ?_⟩⟩
  · exact exec_of_owner h rfl (grevoke_of_free isOpen he free)
  · have work := revoke_work s e g.slot
    have grants : (s.revoke e g.slot).grants = s.grants.set e none := by rw [work]; rfl
    refine ⟨_, exec_of_owner h rfl (grevoke_of_live isOpen he live), replied_holds .., grants, ?_,
      (revoke_used s e g.slot).1, work.replied .., (s.ungranted e).afterDecrease s g.slot, ?_, ?_⟩
    · exact congrArg Store.queue work.store
    · exact afterDecrease_fell s (s.ungranted e) g.slot rfl
    · exact Rejudges.replied (revoke_rejudges s e g.slot) _ _ _

end Sys2Proof.Machine
end

section
/-! PROOFS. What a **topup** credits (R120, R123, R124), and O28. -/

namespace Sys2Proof.Machine

section
variable (s : State) (c : Nat)

/-- The part with the minutes credited, before its commit request (R123). -/
def State.credited : State := { s with
  pool := { s.pool with remaining := s.pool.remaining + c, toppedUp := s.pool.toppedUp + c }, meterDirty := true }

theorem topUp_eq : s.topUp c = { s.credited c with store := { s.store with queue := s.queueWith [meterBlock] } } := by
  unfold State.topUp
  rw [State.commit_queueWith]; rfl

/-- A **topup** moves no entry itself, and its grant opportunity finds nothing to do where no request waits. -/
theorem topUp_rejudges : Rejudges s (s.credited c) ((s.topUp c).settle s true).1 true fun _ _ => false := by
  refine Rejudges.of_settled true rfl fun _ _ => ⟨s.seats, ?_⟩
  rw [topUp_eq]
  refine ⟨rfl, rfl, rfl, rfl, rfl, rfl, fun j => ⟨rfl, ?_⟩⟩
  rw [judgedSeat_entries]
  refine (List.map_id'' (fun e => ?_) _).symm
  split <;> rfl

theorem topUp_work : SeatWork { s with store := { s.store with queue := s.queueWith [meterBlock] } }
    ((s.topUp c).settle s true).1 := by
  refine SeatWork.trans (t := s.topUp c) ?_ (SeatWork.settle ..)
  rw [topUp_eq]; rfl

end

theorem topup_of_bad {s : State} {x : Half} (isOpen : s.authority.window.isSome = true)
    (bad : x.toNat < 1 ∨ 600 < x.toNat) : topup (.fields x) s = (s, refuse .badArgument) := by
  rw [topup, guarded_open isOpen, withFields_fields, if_pos (by simpa using bad)]

theorem topup_of_minutes {s : State} {x : Half} (isOpen : s.authority.window.isSome = true) (low : 1 ≤ x.toNat)
    (high : x.toNat ≤ 600) : topup (.fields x) s =
      let c := s.pool.credit x.toNat
      let out := if 0 < c then (s.topUp c).settle s true else (s, 0)
      (out.1, ok (be2 c ++ be2 out.1.pool.remaining ++ be1 out.2 ++ be1 out.1.requests.length)) := by
  rw [topup, guarded_open isOpen, withFields_fields, if_neg (by simp; omega)]

/-- Settles O28: the minutes credited go to P, and what is drawn at once only moves them on to D. -/
theorem topupCreditsThePool : Obligations.TopupCreditsThePool := by
  unfold Obligations.TopupCreditsThePool
  intro s x h isOpen i c
  refine ⟨fun bad => exec_of_owner h rfl (topup_of_bad isOpen bad), fun low high full => ?_, fun low high room => ?_⟩
  · have nothing : s.pool.credit x.toNat = 0 := full
    refine exec_of_owner h rfl ?_
    rw [topup_of_minutes isOpen low high, nothing]; rfl
  · have credits : 0 < s.pool.credit x.toNat := room
    have drawn := Drawn.settle (s.topUp c) s true
    have work := topUp_work s c
    have queue : ((s.topUp c).settle s true).1.store.queue = s.queueWith [meterBlock] := congrArg Store.queue work.store
    have pool : (s.topUp c).pool = (s.credited c).pool := by rw [topUp_eq]
    have meters : (s.topUp c).meters = s.meters := by rw [topUp_eq]; rfl
    refine ⟨_, ((s.topUp c).settle s true).2, exec_of_owner h rfl (by
      rw [topup_of_minutes isOpen low high]; simp only [if_pos credits]; rfl), replied_holds .., ?_, ?_, ?_, ?_,
      queue, ?_, ?_, ?_⟩
    · exact drawn.size.trans (by rw [pool]; rfl)
    · exact drawn.used.2.trans (by rw [pool]; rfl)
    · refine drawn.minutes.trans ?_
      rw [pool]; dsimp only [State.credited]; omega
    · exact drawn.draws.trans (by rw [meters]; rfl)
    · show CommandWork { s with store := { s.store with queue := ((s.topUp c).settle s true).1.store.queue } } _
      rw [queue]; exact work.replied ..
    · intro quiet
      have unasked : (s.topUp c).requests = [] := by rw [topUp_eq]; exact quiet
      rw [settle_quiet _ s true unasked quiet]
    · exact Rejudges.replied (topUp_rejudges s c) _ _ _

end Sys2Proof.Machine
end

section
/-! PROOFS. The ends of wind-downs (R98, R106) and of the commit interval (R115), and O27. -/

namespace Sys2Proof.Machine

/-- Stage 2 writes the WINDING entries whose end is reached, and no other (R106). -/
theorem endWindDowns_entries (s : State) (j : Fin 6) : s.endWindDowns.seats[j].entries = s.seats[j].entries.map fun e =>
    match e.state with
    | .winding _ ends => if ends ≤ s.clock.counter then ⟨e.slot, .denied .time⟩ else e
    | _ => e := by
  rw [State.endWindDowns, writeEntries_entries]
  refine List.map_congr_left fun e _ => ?_
  obtain ⟨slot, state⟩ := e
  cases state with
  | winding why ends => dsimp only; split <;> rfl
  | _ => rfl

/-- Settles O27: where the metering is done the ends are the whole row, and with no request waiting the end of the event
writes no seat. -/
theorem windDownsAndIntervalsEnd : Obligations.WindDownsAndIntervalsEnd := by
  unfold Obligations.WindDownsAndIntervalsEnd
  refine ⟨fun s awake due => ?_, fun s awake done quiet => ?_, fun s awake due => ?_⟩
  · show Host.Outcome.next (s.taken .windDownEnd takeWindDownEnd) = .next (s.taken .meteringSecond takeMeteringSecond)
    rw [taken_awake awake, taken_awake awake, takeWindDownEnd, takeMeteringSecond, if_pos due, if_pos due]
  · refine ⟨s.endWindDowns.settled s false, ?_, ?_, ?_⟩
    · show Host.Outcome.next (s.taken .windDownEnd takeWindDownEnd) = _
      rw [taken_awake awake, takeWindDownEnd, if_neg (by rw [done]; nofun)]
    · exact (SeatWork.writeEntries ..).trans (.settled ..)
    · rw [settled_quiet s.endWindDowns s false quiet quiet, noteSeats_eq]
      exact ⟨quiet, rfl, rfl, endWindDowns_entries s⟩
  · intro begun
    have run : exec .commitIntervalEnd s =
        .next (if s.meterDirty then begun.commit meterBlock else begun).drivePins := by
      show Host.Outcome.next (s.taken .commitIntervalEnd takeCommitIntervalEnd) = _
      rw [taken_awake awake, takeCommitIntervalEnd, if_pos due]
    exact ⟨fun dirty => by rw [run, if_pos dirty], fun clean => by rw [run, if_neg (by rw [clean]; nofun)]⟩

end Sys2Proof.Machine
end

section
/-! PROOFS. What is debited each second and at what rate (R89, R95, R96, R97), what the check of one profile writes
(R98, R100, R103, R104), and O26. -/

namespace Sys2Proof.Machine

/-! ## Metering entries -/

theorem pass?_eq_some_iff (e : EntryState) (why : Pass) : e.pass? = some why ↔ e.PermittedFor why := by
  cases e <;> simp [EntryState.pass?, EntryState.PermittedFor]

theorem debits_iff (state : SeatState) :
    state.debits = true ↔ state ∈ [SeatState.permitted, .warned, .poolWait, .windDown] := by
  cases state <;> decide

theorem meters_iff (s : State) (k : Fin 16) (j : Fin 6) (e : Entry) :
    s.Meters k j e ↔ e ∈ s.seats[j].entries ∧ (decide (e.slot = k) && meteringOn s.seats[j] e) = true := by
  unfold State.Meters meteringOn
  rw [← debits_iff, Bool.and_eq_true, Bool.and_eq_true, decide_eq_true_eq, Option.isSome_iff_exists]
  simp only [pass?_eq_some_iff]
  tauto

/-- A metered profile (R95). -/
theorem isMetered_iff (s : State) (k : Fin 16) :
    s.isMetered k = true ↔ (∃ r, s.rules? k = some r ∧ r.metered = true) ∧ ∃ j e, s.Meters k j e := by
  unfold State.isMetered State.hasMetering
  rw [Bool.and_eq_true, any_seats, Option.any_eq_true]
  refine and_congr Iff.rfl (exists_congr fun j => ?_)
  rw [List.any_eq_true]
  exact exists_congr fun e => (meters_iff s k j e).symm

/-! ## Rates -/

/-- The rate of an entry on a seat with a programme (R96). -/
theorem effectiveRate_of_programme (r : Rules) {seat : Seat} {p : Programme} (playing : seat.programme = some p)
    (e : Entry) : effectiveRate r seat e = if e.state.pass? = some (.grant false) then 0
      else r.rates[p.category] * (if seat.guardianPresent then 100 - r.relief else 100) := by
  unfold effectiveRate
  rw [playing]
  dsimp only
  split
  · rfl
  · split <;> rfl

/-- The largest member of a list and a bound is the bound or a member. -/
theorem foldl_max_spec (l : List Nat) (a : Nat) :
    a ≤ l.foldl max a ∧ (∀ x ∈ l, x ≤ l.foldl max a) ∧ (l.foldl max a = a ∨ l.foldl max a ∈ l) := by
  induction l generalizing a with
  | nil => simp
  | cons b l ih =>
    obtain ⟨above, all, attained⟩ := ih (max a b)
    rw [List.foldl_cons]
    refine ⟨(le_max_left a b).trans above, List.forall_mem_cons.mpr ⟨(le_max_right a b).trans above, all⟩, ?_⟩
    rcases attained with bound | member
    · rw [bound]
      rcases max_choice a b with left | right
      · exact .inl left
      · exact .inr (right.symm ▸ List.mem_cons_self)
    · exact .inr (List.mem_cons_of_mem b member)

section
variable {s : State} {k : Fin 16} {r : Rules} (rules : s.rules? k = some r)
include rules

theorem rateOf_eq : s.rateOf k = (s.seats.toList.map (seatRate k r)).foldl max 0 := by
  unfold State.rateOf
  rw [rules]

/-- No metering entry has a larger rate (R97). -/
theorem effectiveRate_le_rateOf {j : Fin 6} {e : Entry} (metering : s.Meters k j e) :
    effectiveRate r s.seats[j] e ≤ s.rateOf k := by
  obtain ⟨mem, own⟩ := (meters_iff s k j e).mp metering
  have seat : s.seats[j] ∈ s.seats.toList := Vector.mem_toList_iff.mpr (Vector.getElem_mem j.isLt)
  have onSeat : effectiveRate r s.seats[j] e ≤ seatRate k r s.seats[j] :=
    (foldl_max_spec _ 0).2.1 _ (List.mem_map_of_mem (List.mem_filter.mpr ⟨mem, own⟩))
  rw [rateOf_eq rules]
  exact onSeat.trans ((foldl_max_spec _ 0).2.1 _ (List.mem_map_of_mem seat))

/-- A rate above 0 is some metering entry's own (R97). -/
theorem rateOf_attained : s.rateOf k = 0 ∨ ∃ j e, s.Meters k j e ∧ effectiveRate r s.seats[j] e = s.rateOf k := by
  rw [rateOf_eq rules]
  rcases (foldl_max_spec (s.seats.toList.map (seatRate k r)) 0).2.2 with zero | member
  · exact .inl zero
  · obtain ⟨seat, at_, rate⟩ := List.mem_map.mp member
    obtain ⟨j, hj, rfl⟩ := Vector.mem_iff_getElem.mp (Vector.mem_toList_iff.mp at_)
    rw [← rate, seatRate]
    rcases (foldl_max_spec ((s.seats[j].entries.filter fun e => e.slot = k && meteringOn s.seats[j] e).map
      (effectiveRate r s.seats[j])) 0).2.2 with zero | member
    · exact .inl zero
    · obtain ⟨e, found, rate⟩ := List.mem_map.mp member
      obtain ⟨mem, own⟩ := List.mem_filter.mp found
      exact .inr ⟨⟨j, hj⟩, e, (meters_iff s k ⟨j, hj⟩ e).mpr ⟨mem, own⟩, rate⟩

/-- Where a metering entry watches a programme, such an entry has the profile's rate. -/
theorem rateOf_attained_on_programme {j : Fin 6} {e : Entry} (metering : s.Meters k j e)
    (playing : s.seats[j].programme.isSome = true) :
    ∃ j e, s.Meters k j e ∧ s.seats[j].programme.isSome = true ∧ effectiveRate r s.seats[j] e = s.rateOf k := by
  rcases rateOf_attained rules with zero | ⟨j', e', metering', rate⟩
  · exact ⟨j, e, metering, playing, Nat.le_antisymm (effectiveRate_le_rateOf rules metering) (zero ▸ Nat.zero_le _)⟩
  · cases programme : s.seats[j'].programme with
    | some p => exact ⟨j', e', metering', by rw [programme]; rfl, rate⟩
    | none =>
      have zero : s.rateOf k = 0 := by rw [← rate, effectiveRate, programme]
      exact ⟨j, e, metering, playing, Nat.le_antisymm (effectiveRate_le_rateOf rules metering) (zero ▸ Nat.zero_le _)⟩

end

/-! ## The three stages -/

section
variable (s : State)

theorem debitAll_meter (k : Fin 16) : s.debitAll.meters[k] =
    if s.isMetered k then s.meters[k].debited (s.rateOf k) else s.meters[k] := Vector.getElem_ofFn ..

/-- Stage 1 writes the meters and their dirty flag alone (R98). -/
theorem debitAll_eq : s.debitAll = { s with
    meters := s.debitAll.meters, meterDirty := s.meterDirty || decide (s.debitAll.meters ≠ s.meters) } := by
  unfold State.debitAll; rfl

theorem debitAll_seats : s.debitAll.seats = s.seats := by
  rw [debitAll_eq]

theorem debitAll_clock : s.debitAll.clock = s.clock := by
  rw [debitAll_eq]

/-- Stage 2 writes the seats alone (R98, R106). -/
theorem endWindDowns_eq : s.endWindDowns = { s with seats := s.endWindDowns.seats } := rfl

/-- The part after the three stages of the metering second (R98). -/
@[irreducible] def State.checked : State := (List.finRange 16).foldl State.checkProfile s.debitAll.endWindDowns

theorem checked_drawn : Drawn 0 s.debitAll s.checked := by
  unfold State.checked
  have ended : Drawn 0 s.debitAll s.debitAll.endWindDowns := .writeEntries ..
  exact ended.trans (Drawn.foldl Drawn.checkProfile _ _)

theorem checked_work : SeatWork s s.checked := by
  unfold State.checked
  have debited : SeatWork s s.debitAll := by rw [debitAll_eq]; rfl
  have ended : SeatWork s.debitAll s.debitAll.endWindDowns := .writeEntries ..
  exact (debited.trans ended).trans (SeatWork.foldl SeatWork.checkProfile _ _)

theorem meterSecond_eq :
    s.meterSecond = State.settled { s.checked with due := { s.checked.due with metering := false } } s false := by
  unfold State.checked; rfl

theorem meterSecond_work : SeatWork { s with due := { s.due with metering := false } } s.meterSecond := by
  rw [meterSecond_eq]
  refine SeatWork.trans ?_ (SeatWork.settled ..)
  rw [checked_work s]; rfl

/-- After the debits the second only draws. -/
theorem meterSecond_drawn : ∃ n, Drawn n s.debitAll s.meterSecond := by
  have taken : Drawn 0 s.checked { s.checked with due := { s.checked.due with metering := false } } :=
    .of_eq rfl rfl fun _ => id
  rw [meterSecond_eq]
  exact ⟨_, ((checked_drawn s).trans taken).trans (.settle ..)⟩

end

theorem exec_meteringSecond {s : State} (awake : s.Awake) (due : s.due.metering = true) :
    exec .meteringSecond s = .next s.meterSecond.drivePins := by
  show Host.Outcome.next (s.taken .meteringSecond takeMeteringSecond) = _
  rw [taken_awake awake, takeMeteringSecond, if_pos due]

/-! ## The check of one profile -/

section
variable (s : State) (k : Fin 16) (j : Fin 6) (e : Entry)

/-- The profile's metering entries in CLEAR or LOW, whose thresholds are written (R100). -/
def State.thresholdsAt : Bool := decide (e.slot = k) && s.seats[j].state.debits && e.state.isClearOrLow

/-- Those of them whose time group was consulted, which an exhaustion event concerns (R103). -/
def State.concernedAt : Bool := s.thresholdsAt k j e && s.timeConsulted e

/-- An entry whose thresholds are written and found above them. -/
def State.clearedAt : Entry := if s.thresholdsAt k j e then ⟨e.slot, .clear e.state.kept⟩ else e

/-- An entry of an exhausted profile once its thresholds are written: one that the exhaustion event concerns
stands. -/
def State.awaitedAt : Entry := if s.concernedAt k j e then e else s.clearedAt k j e

theorem thresholdsAt_eq :
    (decide (e.slot = k) && meteringOn s.seats[j] e && e.state.isClearOrLow) = s.thresholdsAt k j e := by
  unfold State.thresholdsAt meteringOn
  cases e.state <;> simp [EntryState.pass?, EntryState.isClearOrLow]

variable {s k j e}

theorem awaitedAt_of_concerned (h : s.concernedAt k j e = true) : s.awaitedAt k j e = e := if_pos h

theorem awaitedAt_of_not_concerned (h : s.concernedAt k j e = false) : s.awaitedAt k j e = s.clearedAt k j e :=
  if_neg (by rw [h]; nofun)

theorem slot_of_thresholdsAt (h : s.thresholdsAt k j e = true) : e.slot = k := by
  unfold State.thresholdsAt at h
  simp only [Bool.and_eq_true, decide_eq_true_eq] at h
  exact h.1.1

end

/-- The entries of a profile whose thresholds are written (R100). -/
theorem writeThresholds_entries (s : State) (k : Fin 16) (r : Rules) (j : Fin 6) :
    (s.writeThresholds k r).seats[j].entries = s.seats[j].entries.map fun e =>
      if s.thresholdsAt k j e then ⟨e.slot, s.thresholdState r e⟩ else e := by
  rw [State.writeThresholds, writeEntries_entries]
  refine List.map_congr_left fun e _ => ?_
  rw [thresholdsAt_eq]
  split <;> rfl

/-- The seat states in which entries are debited, from entries and programme (R46, R95). -/
theorem seatStateOf_debits (es : List Entry) (p : Option Programme) :
    (seatStateOf es p).debits = (!es.isEmpty && p.isSome && !es.any (·.state.isDenied)) := by
  unfold seatStateOf
  cases es.isEmpty with
  | true => rfl
  | false =>
    cases p with
    | none => rfl
    | some p =>
      cases es.any (·.state.isDenied) with
      | true => rfl
      | false =>
        simp only [Bool.false_eq_true, if_false, Option.isNone_some]
        split_ifs <;> rfl

theorem isDenied_of_isClearOrLow {state : EntryState} (h : state.isClearOrLow = true) : state.isDenied = false := by
  cases state <;> simp_all [EntryState.isClearOrLow, EntryState.isDenied]

theorem thresholdState_isDenied {s : State} {r : Rules} {e : Entry} (h : e.state.isClearOrLow = true) :
    (s.thresholdState r e).isDenied = e.state.isDenied := by
  have permitted := isDenied_of_isClearOrLow h
  unfold State.thresholdState; dsimp only
  split
  · rfl
  · rw [permitted]; split <;> rfl

/-- The thresholds deny nobody, so that a seat whose state is derived from its entries is debited as before. -/
theorem writeThresholds_debits {s : State} (law : s.SeatLaw) (k : Fin 16) (r : Rules) (j : Fin 6) :
    (s.writeThresholds k r).seats[j].state.debits = s.seats[j].state.debits := by
  have derived : (s.writeThresholds k r).seats[j].state =
      seatStateOf (s.writeThresholds k r).seats[j].entries s.seats[j].programme := by
    simp [State.writeThresholds, State.writeEntries, State.deriveSeat]
  rw [derived, (law j).1, seatStateOf_debits, seatStateOf_debits, writeThresholds_entries, List.any_map]
  have same : ∀ e : Entry, (if s.thresholdsAt k j e then (⟨e.slot, s.thresholdState r e⟩ : Entry) else e).state.isDenied
      = e.state.isDenied := by
    intro e
    split
    · next here =>
      unfold State.thresholdsAt at here
      exact thresholdState_isDenied ((Bool.and_eq_true _ _).mp here).2
    · rfl
  simp only [Function.comp_def, same, List.isEmpty_map]

section
variable {s : State} {k : Fin 16} {r : Rules}

/-- With time left every threshold is written from it (R100). -/
theorem writeThresholds_of_left (left : 0 < s.remaining k) (j : Fin 6) :
    (s.writeThresholds k r).seats[j].entries = s.seats[j].entries.map fun e =>
      if s.thresholdsAt k j e then ⟨e.slot, if 0 < r.warning ∧ s.remaining k ≤ r.warning * 6000 then
        .low e.state.kept else .clear e.state.kept⟩ else e := by
  rw [writeThresholds_entries]
  refine List.map_congr_left fun e _ => ?_
  split
  · next here =>
    have unspent : ¬ s.remaining k = 0 := Nat.ne_of_gt left
    have low : lowAt r (s.remaining k) = true ↔ 0 < r.warning ∧ s.remaining k ≤ r.warning * 6000 := by
      simp [lowAt, left]
    unfold State.thresholdState
    simp only [slot_of_thresholdsAt here, unspent, decide_false, Bool.and_false, Bool.false_eq_true, if_false, low]
  · rfl

/-- With no time left only the entries that the exhaustion event concerns keep their state (R100, R103). -/
theorem writeThresholds_of_spent (spent : s.remaining k = 0) (j : Fin 6) :
    (s.writeThresholds k r).seats[j].entries = s.seats[j].entries.map (s.awaitedAt k j) := by
  rw [writeThresholds_entries]
  refine List.map_congr_left fun e _ => ?_
  unfold State.awaitedAt State.concernedAt State.clearedAt
  by_cases here : s.thresholdsAt k j e = true
  · unfold State.thresholdState
    simp only [here, if_true, Bool.true_and, slot_of_thresholdsAt here, spent, decide_true, Bool.and_true]
    have own : (⟨k, e.state⟩ : Entry) = e := by rw [← slot_of_thresholdsAt here]
    cases s.timeConsulted e <;> simp [lowAt, own]
  · simp [here]

/-- The exhaustion event concerns the same entries after the thresholds are written. -/
theorem concernedAt_awaited (law : s.SeatLaw) (j : Fin 6) (e : Entry) :
    (s.writeThresholds k r).concernedAt k j (s.awaitedAt k j e) = s.concernedAt k j e := by
  have at_ : ∀ x : Entry, (s.writeThresholds k r).thresholdsAt k j x = s.thresholdsAt k j x := by
    intro x
    unfold State.thresholdsAt
    rw [writeThresholds_debits law]
  have consulted : ∀ x : Entry, (s.writeThresholds k r).timeConsulted x = s.timeConsulted x := fun _ => rfl
  have same : ∀ x : Entry, (s.writeThresholds k r).concernedAt k j x = s.concernedAt k j x := by
    intro x
    unfold State.concernedAt
    rw [at_, consulted]
  rw [same]
  cases concerned : s.concernedAt k j e with
  | true => rw [awaitedAt_of_concerned concerned, concerned]
  | false =>
    rw [awaitedAt_of_not_concerned concerned, State.clearedAt]
    split
    · next here =>
      have unconsulted : s.timeConsulted e = false := by
        unfold State.concernedAt at concerned
        rw [here] at concerned
        exact concerned
      have kept : s.timeConsulted ⟨e.slot, .clear e.state.kept⟩ = s.timeConsulted e := by
        unfold State.thresholdsAt at here
        unfold State.timeConsulted
        cases hs : e.state <;> rw [hs] at here <;> simp [EntryState.isClearOrLow] at here <;> rfl
      rw [State.concernedAt, kept, unconsulted, Bool.and_false]
    · exact concerned

end

/-! ## Exhaustion after the thresholds -/

/-- The end of a profile's time reads nothing that the thresholds write but the entries, so that it is the same taken
from before them (R105). -/
theorem WindsDownOrDenies.of_entries {s x u : State} {k : Fin 16} {sel sel' : Fin 6 → Entry → Bool}
    {rest : Fin 6 → Entry → Entry} {v : Vector Seat 6} (h : WindsDownOrDenies x u k sel' fun _ e => e)
    (written : x = { s with seats := v }) (programme : ∀ j : Fin 6, v[j].programme = s.seats[j].programme)
    (entries : ∀ j : Fin 6, v[j].entries = s.seats[j].entries.map fun e => if sel j e then e else rest j e)
    (same : ∀ j e, sel' j (if sel j e then e else rest j e) = sel j e) : WindsDownOrDenies s u k sel rest := by
  subst written
  have some_iff : ∀ j : Fin 6, (∃ e ∈ v[j].entries, sel' j e = true) ↔ ∃ e ∈ s.seats[j].entries, sel j e = true := by
    intro j
    rw [entries]
    simp only [List.mem_map, exists_exists_and_eq_and, same]
  have through : ∀ (f : Fin 6 → Entry → EntryState) (j : Fin 6),
      (v[j].entries.map fun e => if sel' j e then ⟨e.slot, f j e⟩ else e)
        = s.seats[j].entries.map fun e => if sel j e then ⟨e.slot, f j e⟩ else rest j e := by
    intro f j
    rw [entries, List.map_map]
    refine List.map_congr_left fun e _ => ?_
    rw [Function.comp_apply, same]
    by_cases concerned : sel j e = true
    · simp only [if_pos concerned]
    · simp only [if_neg concerned]
  unfold WindsDownOrDenies at h ⊢
  simp only [programme, some_iff] at h
  obtain ⟨requests, pool, winds, denies⟩ := h
  intro cap ends writes available
  refine ⟨requests, pool, fun can => ?_, fun cannot => ?_⟩
  · obtain ⟨meters, written⟩ := winds can
    exact ⟨meters, fun j => (written j).trans (through (fun j e => match ends j with
      | some x => .winding e.state.kept (min x (s.clock.counter + 60 * cap))
      | none => .denied .time) j)⟩
  · obtain ⟨meters, written⟩ := denies cannot
    exact ⟨meters, fun j => (written j).trans (through (fun _ _ => .denied .time) j)⟩

/-- A request that an exhaustion event raises on an empty pool adds POOL_WAITING (R126). -/
theorem exhaustionCheck_poolWaiting {x : State} {k : Fin 16} (raised : (x.exhaustionCheck k).requests ≠ x.requests)
    (empty : x.pool.remaining = 0) : (x.exhaustionCheck k).hasNotice .poolWaiting = true := by
  unfold State.exhaustionCheck State.exhaust at raised ⊢
  dsimp only at raised ⊢
  split at raised
  · next target =>
    rw [if_pos target]
    split at raised
    · exact absurd rfl raised
    · next unasked =>
      rw [if_neg unasked]
      split at raised
      · next possible =>
        rw [if_pos possible]
        have joined : x.raiseRequest k =
            State.addNotice { x with requests := x.requests ++ [⟨k, x.tierOf k, x.clock.counter⟩] } .poolWaiting := by
          unfold State.raiseRequest
          rw [if_neg unasked]
          exact if_pos empty
        rw [joined]
        exact (addNotice_hasNotice ..).trans (by simp)
      · refine absurd ?_ raised
        unfold State.windDownOrDeny; dsimp only
        split <;> rfl
  · exact absurd rfl raised

theorem checkProfile_of_unmetered {s : State} {k : Fin 16} (unmetered : s.isMetered k = false) :
    s.checkProfile k = s := by
  unfold State.checkProfile
  rw [unmetered]
  split <;> rfl

theorem checkProfile_of_metered {s : State} {k : Fin 16} {r : Rules} (rules : s.rules? k = some r)
    (metered : s.isMetered k = true) : s.checkProfile k = (s.writeThresholds k r).exhaustionCheck k := by
  unfold State.checkProfile
  rw [rules, metered]; rfl

/-- With time left the check writes thresholds alone (R100). -/
theorem checkProfile_of_left {s : State} {k : Fin 16} {r : Rules} (rules : s.rules? k = some r)
    (metered : s.isMetered k = true) (left : 0 < s.remaining k) : s.checkProfile k = s.writeThresholds k r := by
  have unspent : ¬ (s.writeThresholds k r).remaining k = 0 := Nat.ne_of_gt left
  rw [checkProfile_of_metered rules metered, State.exhaustionCheck, decide_eq_false unspent]; rfl

/-- With no time left the profile has its exhaustion event, which concerns the entries that it concerned before the
thresholds were written (R103, R104). -/
theorem checkProfile_of_spent {s : State} {k : Fin 16} {r : Rules} (law : s.SeatLaw) (rules : s.rules? k = some r)
    (metered : s.isMetered k = true) (spent : s.remaining k = 0) :
    let u := s.checkProfile k
    let some? := ∃ j : Fin 6, ∃ e ∈ s.seats[j].entries, s.concernedAt k j e = true
    let possible := r.tier.isSome = true ∧ s.meters[k].draws < r.drawsPerDay
    let waits := u.meters = s.meters ∧ u.pool = s.pool ∧ ∀ j : Fin 6, u.seats[j].entries =
      s.seats[j].entries.map fun e => if s.concernedAt k j e then ⟨e.slot, .waiting e.state.kept⟩ else s.clearedAt k j e
    (¬ some? → u.requests = s.requests ∧ u.meters = s.meters ∧ u.pool = s.pool
        ∧ ∀ j : Fin 6, u.seats[j].entries = s.seats[j].entries.map (s.clearedAt k j))
    ∧ (some? → s.hasRequest k = true → u.requests = s.requests ∧ waits)
    ∧ (some? → s.hasRequest k = false → possible → u.requests = s.requests ++ [⟨k, r.tier.getD 0, s.clock.counter⟩]
        ∧ waits ∧ (s.pool.remaining = 0 → u.hasNotice .poolWaiting = true))
    ∧ (some? → s.hasRequest k = false → ¬ possible → WindsDownOrDenies s u k (s.concernedAt k) (s.clearedAt k)) := by
  intro u some? possible waits
  have run : u = (s.writeThresholds k r).exhaustionCheck k := checkProfile_of_metered rules metered
  have entries := writeThresholds_of_spent (r := r) spent
  have same := concernedAt_awaited (k := k) (r := r) law
  have taken := exhaustionCheck_taken (s.writeThresholds k r) k spent
  rw [← run] at taken
  obtain ⟨-, idle, asked, asks, ends⟩ := taken
  have some_iff : (∃ j : Fin 6, ∃ e ∈ (s.writeThresholds k r).seats[j].entries,
      (s.writeThresholds k r).concernedAt k j e = true) ↔ some? := by
    refine exists_congr fun j => ?_
    rw [entries]
    simp only [List.mem_map, exists_exists_and_eq_and, same]
  have possible_iff : (∃ r', (s.writeThresholds k r).rules? k = some r' ∧ r'.tier.isSome = true
      ∧ s.meters[k].draws < r'.drawsPerDay) ↔ possible := by
    rw [show (s.writeThresholds k r).rules? k = some r from rules]
    simp only [Option.some.injEq, exists_eq_left']
    rfl
  have through : ∀ j : Fin 6, ((s.writeThresholds k r).seats[j].entries.map fun e =>
      if (s.writeThresholds k r).concernedAt k j e then ⟨e.slot, .waiting e.state.kept⟩ else e)
      = s.seats[j].entries.map fun e =>
        if s.concernedAt k j e then ⟨e.slot, .waiting e.state.kept⟩ else s.clearedAt k j e := by
    intro j
    rw [entries, List.map_map]
    refine List.map_congr_left fun e _ => ?_
    rw [Function.comp_apply, same]
    cases concerned : s.concernedAt k j e with
    | true => rw [awaitedAt_of_concerned concerned]; rfl
    | false => rw [awaitedAt_of_not_concerned concerned]; rfl
  refine ⟨fun hn => ?_, fun hs hq => ?_, fun hs hq hp => ?_, fun hs hq hp => ?_⟩
  · rw [idle fun h => hn (some_iff.mp h)]
    refine ⟨rfl, rfl, rfl, fun j => (entries j).trans (List.map_congr_left fun e he => ?_)⟩
    exact awaitedAt_of_not_concerned (Bool.eq_false_of_not_eq_true fun h => hn ⟨j, e, he, h⟩)
  · obtain ⟨requests, meters, pool, written⟩ := asked (some_iff.mpr hs) hq
    exact ⟨requests, meters, pool, fun j => (written j).trans (through j)⟩
  · obtain ⟨requests, meters, pool, written⟩ := asks (some_iff.mpr hs) hq (possible_iff.mpr hp)
    have tier : (s.writeThresholds k r).tierOf k = r.tier.getD 0 := by
      show ((s.rules? k).bind (·.tier)).getD 0 = _
      rw [rules]; rfl
    rw [tier] at requests
    refine ⟨requests, ⟨meters, pool, fun j => (written j).trans (through j)⟩, fun empty => ?_⟩
    rw [run]
    refine exhaustionCheck_poolWaiting (fun still => ?_) empty
    rw [← run, requests] at still
    exact List.cons_ne_nil _ _ (List.append_right_eq_self.mp still)
  · refine (ends (some_iff.mpr hs) hq fun h => hp (possible_iff.mp h)).of_entries
      (v := (s.writeThresholds k r).seats) rfl (fun j => writeEntries_programme ..) entries same

/-- An entry's time group was not consulted where it was permitted by a grant and GRANT stands first (R68). -/
theorem timeConsulted_eq_false_iff (s : State) (e : Entry) : s.timeConsulted e = false ↔
    ∃ m, e.state.pass? = some (.grant m) ∧ s.settings.groupOrder.idxOf .grant < s.settings.groupOrder.idxOf .time := by
  unfold State.timeConsulted grantBeforeTime
  split
  · next m h => simp [h]
  · next h =>
    refine ⟨nofun, fun ⟨m, granted, _⟩ => absurd granted (h m)⟩

/-- Settles O26: after the debits the second only draws, and the check of a profile is its thresholds and then the
exhaustion event that a budget decrease takes as well (R102). -/
theorem meteringSecondDebits : Obligations.MeteringSecondDebits := by
  unfold Obligations.MeteringSecondDebits
  refine ⟨fun s awake due => ?_, fun s awake due => ?_, isMetered_iff, fun s k r rules => ?_, fun s k r law rules => ?_⟩
  · obtain ⟨n, drawn⟩ := meterSecond_drawn s
    refine ⟨s.meterSecond, exec_meteringSecond awake due, meterSecond_work s, fun k metered => ?_,
      fun k unmetered => ?_⟩
    · rw [drawn.used.1, drawn.residue, debitAll_meter, if_pos metered]
      exact ⟨rfl, rfl⟩
    · rw [drawn.used.1, drawn.residue, debitAll_meter, if_neg (by rw [unmetered]; nofun)]
      exact ⟨rfl, rfl⟩
  · have ended := endWindDowns_entries s.debitAll
    rw [debitAll_seats, debitAll_clock] at ended
    refine ⟨s.debitAll, s.debitAll.endWindDowns, s.checked, debitAll_eq s, debitAll_meter s, endWindDowns_eq _, ended,
      by unfold State.checked; rfl, fun k => ((checked_drawn s).used.1 k).symm, ?_⟩
    rw [exec_meteringSecond awake due, meterSecond_eq]
  · intro IsRate
    have isRate_iff : ∀ {j : Fin 6} {e : Entry} {rate : Nat}, s.seats[j].programme.isSome = true →
        (IsRate j e rate ↔ effectiveRate r s.seats[j] e = rate) := by
      intro j e rate playing
      obtain ⟨p, playing⟩ := Option.isSome_iff_exists.mp playing
      have only : IsRate j e rate ↔ _ :=
        ⟨fun h => h p playing, fun h q hq => Option.some.inj (playing.symm.trans hq) ▸ h⟩
      rw [only, effectiveRate_of_programme r playing, ← pass?_eq_some_iff]
      by_cases granted : e.state.pass? = some (.grant false)
      · rw [if_pos granted]
        exact ⟨fun h => (h.1 granted).symm, fun h => ⟨fun _ => h.symm, fun other => absurd granted other⟩⟩
      · rw [if_neg granted]
        exact ⟨fun h => (h.2 granted).symm, fun h => ⟨fun given => absurd given granted, fun _ => h.symm⟩⟩
    refine ⟨fun j e rate metering playing rated => ?_, fun ⟨j, e, metering, playing⟩ => ?_⟩
    · rw [← (isRate_iff playing).mp rated]
      exact effectiveRate_le_rateOf rules metering
    · obtain ⟨j, e, metering, playing, rate⟩ := rateOf_attained_on_programme rules metering playing
      exact ⟨j, e, metering, playing, (isRate_iff playing).mpr rate⟩
  · rw [← remaining_of_rules rules]
    intro u left passed here target clears some? possible waits
    refine ⟨fun e _ => timeConsulted_eq_false_iff s e, checkProfile_of_unmetered, fun metered left => ?_,
      fun metered spent asked => ?_, fun metered spent unasked can held => ?_,
      fun metered spent unasked cannot held => ?_, fun metered spent idle => ?_⟩
    · have run : u = s.writeThresholds k r := checkProfile_of_left rules metered left
      rw [run]
      exact ⟨rfl, rfl, rfl, writeThresholds_of_left left⟩
    all_goals obtain ⟨idles, asked', asks, ends⟩ := checkProfile_of_spent law rules metered spent
    · by_cases held : some?
      · obtain ⟨requests, meters, pool, written⟩ := asked' held asked
        exact ⟨requests, meters, pool, written⟩
      · obtain ⟨requests, meters, pool, written⟩ := idles held
        refine ⟨requests, meters, pool, fun j => (written j).trans (List.map_congr_left fun e he => ?_)⟩
        exact (if_neg fun h => held ⟨j, e, he, h⟩).symm
    · obtain ⟨requests, ⟨meters, pool, written⟩, notice⟩ := asks held unasked can
      exact ⟨requests, meters, pool, written, notice⟩
    · exact ends held unasked cannot
    · obtain ⟨requests, meters, -, written⟩ := idles idle
      exact ⟨requests, meters, written⟩

end Sys2Proof.Machine
end

section
/-! SUPPORT. The pieces of a **clkset**'s work: the tables that each writes, and what a rollover's parts bring about
(R112, R133, R147, R149, R161). -/

namespace Sys2Proof.Machine

/-! ## What the pieces may touch -/

/-- The two states differ at most in what seats, waits and draws touch, in the grant table, in the commit queue and in
the count of choices drawn. -/
def TableWork (s t : State) : Prop :=
  t = { s with
    seats := t.seats, requests := t.requests, notices := t.notices, meters := t.meters, meterDirty := t.meterDirty
    pool := t.pool, grants := t.grants, store := { s.store with queue := t.store.queue }, freeCount := t.freeCount }

theorem TableWork.refl (s : State) : TableWork s s := rfl

theorem TableWork.trans {s t u : State} (h : TableWork s t) (h' : TableWork t u) : TableWork s u := by
  unfold TableWork at *
  rw [h', h]

theorem SeatWork.table {s t : State} (h : SeatWork s t) : TableWork s t := by
  rw [h]; rfl

theorem TableWork.commit (s : State) (b : BlockId) : TableWork s (s.commit b) := by
  rw [State.commit_queueWith]; rfl

/-- A state that some member of a list of work brings about, and that no work undoes, is there after all of it. -/
theorem foldl_establishes {α : Type} {f : State → α → State} {P : State → Prop} {a : α} {l : List α} (mem : a ∈ l)
    (brings : ∀ s, P (f s a)) (keeps : ∀ s b, P s → P (f s b)) (s : State) : P (l.foldl f s) := by
  obtain ⟨before, after, rfl⟩ := List.append_of_mem mem
  rw [List.foldl_append, List.foldl_cons]
  exact List.foldlRecOn after f (brings _) fun t h b _ => keeps t b h

/-! ## Retired grants -/

section
variable (s : State) (sel : Grant → Bool)

/-- The part with the selected grants retired, and the commit requested where there are any (R144, R181). -/
def State.retiring : State := if s.losesAny sel then (s.retireGrants sel).commit grantBlock else s

theorem losesAny_eq_false_iff : s.losesAny sel = false ↔ ∀ e : Fin 16, s.grants[e].any sel = false := by
  unfold State.losesAny
  rw [List.any_eq_false]
  constructor
  · intro h e
    exact Bool.eq_false_of_not_eq_true (h _ (Vector.mem_toList_iff.mpr (Vector.getElem_mem e.isLt)))
  · intro h g hg
    obtain ⟨i, hi, rfl⟩ := Vector.mem_iff_getElem.mp (Vector.mem_toList_iff.mp hg)
    exact ne_true_of_eq_false (h ⟨i, hi⟩)

theorem filter_of_any_eq_false {sel : Grant → Bool} {g : Option Grant} (h : g.any sel = false) :
    (g.filter fun x => !sel x) = g := by
  cases g with
  | none => rfl
  | some g => simp_all [Option.filter]

theorem retiring_grants (e : Fin 16) : (s.retiring sel).grants[e] = s.grants[e].filter fun g => !sel g := by
  unfold State.retiring
  cases loses : s.losesAny sel with
  | true =>
    rw [← retireGrants_entry]
    exact congrArg (fun v : Vector (Option Grant) 16 => v[e]) (StoreWork.commit ..).frame.2.2.2.1
  | false => exact (filter_of_any_eq_false ((losesAny_eq_false_iff s sel).mp loses e)).symm

theorem queueWith_of_store {s t : State} (h : t.store = s.store) (blocks : List BlockId) :
    t.queueWith blocks = s.queueWith blocks := by
  unfold State.queueWith State.queued
  rw [h]

theorem retiring_queue : (s.retiring sel).store.queue =
    if s.losesAny sel then s.queueWith [grantBlock] else s.store.queue := by
  unfold State.retiring
  split
  · rw [commit_queue, queueWith_of_store (State.retireGrants_store s sel)]
  · rfl

/-- Beyond the grant table and the commit queue nothing changes. -/
theorem retiring_eq : s.retiring sel = { s with
    grants := (s.retiring sel).grants, store := { s.store with queue := (s.retiring sel).store.queue } } := by
  unfold State.retiring
  split
  · rw [State.commit_queueWith, State.retireGrants]
  · rfl

end

/-! ## One piece -/

/-- The grants that a piece of a **clkset**'s work retires, under the clock given (R147, R149). -/
def ClockWork.retires (c : Clock) (g : Grant) : ClockWork → Bool
  | .roll .grants => g.body.isPastExtra c.meterDay
  | .compare => expiredAt ⟨c.day, c.minute⟩ g
  | _ => false

/-- What a piece of a **clkset**'s work writes in the tables, before any profile's time or verdict is looked at. -/
def State.clockTables (s : State) : ClockWork → State
  | .roll .meters => State.commit { s with meters := Vector.replicate 16 Meter.cleared, meterDirty := true } meterBlock
  | .roll .pool => { s with
      requests := [], pool := ⟨s.settings.poolSize, s.settings.poolSize, 0, 0⟩, meterDirty := true }
  | .roll .grants => s.retiring s.outlived
  | .roll .seats => s
  | .compare => s.retiring (expiredAt s.now)

/-- The work on seats and waits that follows what a piece writes in the tables. -/
structure Followed (s t : State) : Prop where
  work : SeatWork s t
  drawn : Drawn 0 s t
  kept : SeatsKept s t

theorem Followed.reeval (s : State) (sel : Entry → Bool) : Followed s (s.reeval sel) :=
  ⟨.reeval .., .reeval .., .reeval ..⟩

theorem Followed.trans {s t u : State} (h : Followed s t) (h' : Followed t u) : Followed s u :=
  ⟨h.work.trans h'.work, h.drawn.trans h'.drawn, h.kept.trans h'.kept⟩

theorem Followed.foldl {α : Type} {f : State → α → State} (hf : ∀ s a, Followed s (f s a)) (l : List α) (s : State) :
    Followed s (l.foldl f s) :=
  ⟨.foldl (fun s a => (hf s a).work) l s, .foldl (fun s a => (hf s a).drawn) l s, .foldl (fun s a => (hf s a).kept) l s⟩

/-- Every piece writes its tables, and what follows is work on seats and waits. -/
theorem takeClockWork_followed (s : State) (w : ClockWork) : Followed (s.clockTables w) (s.takeClockWork w) := by
  cases w with
  | compare =>
    show Followed (s.retiring _) (s.expireGrants s.now)
    unfold State.retiring State.expireGrants; dsimp only
    split
    · exact .reeval ..
    · exact ⟨.refl s, .refl s, .refl s⟩
  | roll part =>
    cases part with
    | meters =>
      show Followed (State.clockTables s (.roll .meters)) s.rollMeters
      exact .reeval ..
    | pool =>
      show Followed (State.clockTables s (.roll .pool)) s.rollPool
      exact Followed.foldl (fun t (r : Request) =>
        ⟨.endOfWait t r.slot, .endOfWait t r.slot, (SeatsFollow.endOfWait t r.slot).kept⟩) s.requests _
    | grants =>
      show Followed (s.retiring _) s.retireExtra
      unfold State.retiring State.retireExtra; dsimp only
      split
      · exact (Followed.foldl (fun t k =>
          ⟨.afterDecrease t s k, .afterDecrease t s k, (SeatsFollow.afterDecrease t s k).kept⟩) _ _).trans (.reeval ..)
      · exact ⟨.refl s, .refl s, .refl s⟩
    | seats =>
      show Followed s (s.reeval everyEntry)
      exact .reeval ..

section
variable (s : State) (w : ClockWork)

/-- What a piece leaves of the tables. -/
theorem clockTables_eq : s.clockTables w = { s with
    meters := if w = .roll .meters then Vector.replicate 16 Meter.cleared else s.meters
    pool := if w = .roll .pool then ⟨s.settings.poolSize, s.settings.poolSize, 0, 0⟩ else s.pool
    meterDirty := (s.clockTables w).meterDirty, requests := (s.clockTables w).requests
    grants := (s.clockTables w).grants, store := { s.store with queue := (s.clockTables w).store.queue } } := by
  cases w with
  | compare => dsimp only [State.clockTables]; rw [retiring_eq]; rfl
  | roll part =>
    cases part with
    | meters => unfold State.clockTables; rw [State.commit_queueWith]; rfl
    | grants => dsimp only [State.clockTables]; rw [retiring_eq]; rfl
    | pool | seats => rfl

theorem clockTables_work : TableWork s (s.clockTables w) := by
  rw [clockTables_eq]; rfl

theorem takeClockWork_work : TableWork s (s.takeClockWork w) :=
  (clockTables_work s w).trans (takeClockWork_followed s w).work.table

theorem clockTables_seats : (s.clockTables w).seats = s.seats := by
  rw [clockTables_eq]

theorem takeClockWork_kept : SeatsKept s (s.takeClockWork w) := by
  refine SeatsKept.trans (.of_eq ?_ (clockTables_seats s w)) (takeClockWork_followed s w).kept
  rw [clockTables_work s w]

theorem clockTables_notices : (s.clockTables w).notices = s.notices := by
  rw [clockTables_eq]

theorem takeClockWork_notice {x : Notice} (had : s.hasNotice x = true) : (s.takeClockWork w).hasNotice x = true := by
  refine (takeClockWork_followed s w).drawn.notices x ?_
  unfold State.hasNotice at *
  rw [clockTables_notices, had]

theorem takeClockWork_grants (e : Fin 16) :
    (s.takeClockWork w).grants[e] = s.grants[e].filter fun g => !w.retires s.clock g := by
  have tables : (s.takeClockWork w).grants = (s.clockTables w).grants := by rw [(takeClockWork_followed s w).work]
  rw [tables]
  have none : s.grants[e] = s.grants[e].filter fun _ => !false := by cases s.grants[e] <;> rfl
  cases w with
  | compare => exact retiring_grants ..
  | roll part =>
    cases part with
    | meters =>
      refine Eq.trans ?_ none
      exact congrArg (fun v : Vector (Option Grant) 16 => v[e]) (StoreWork.commit ..).frame.2.2.2.1
    | grants => exact retiring_grants ..
    | pool | seats => exact none

/-- A commit request takes no block off the queue (R181). -/
theorem queued_commit {b c : BlockId} (h : s.queued c = true) : (s.commit b).queued c = true := by
  unfold State.queued at *
  rw [commit_queue, State.queueWith, List.any_append, h, Bool.true_or]

theorem queued_commit_self (b : BlockId) : (s.commit b).queued b = true := by
  cases h : s.queued b with
  | true => exact queued_commit s h
  | false =>
    unfold State.queued at *
    rw [commit_queue, State.queueWith]
    simp [State.queued, h]

theorem takeClockWork_queued {b : BlockId} (h : s.queued b = true) : (s.takeClockWork w).queued b = true := by
  have store := (takeClockWork_followed s w).work.store
  have tables : (s.clockTables w).queued b = true := by
    have retiring : ∀ sel, (s.retiring sel).queued b = true := by
      intro sel
      unfold State.retiring
      split
      · refine queued_commit _ ?_
        unfold State.queued at h ⊢
        rw [State.retireGrants_store, h]
      · exact h
    cases w with
    | compare => exact retiring _
    | roll part =>
      cases part with
      | meters => exact queued_commit _ h
      | grants => exact retiring _
      | pool | seats => exact h
  unfold State.queued at *
  rw [store, tables]

end

/-! ## What a rollover's parts bring about -/

/-- The meters begin a day anew, and their block is queued (R112). -/
structure State.MetersFresh (s : State) : Prop where
  queued : s.queued meterBlock = true
  used : ∀ k : Fin 16, s.meters[k].used = 0
  residue : ∀ k : Fin 16, s.meters[k].residue = 0

/-- The pool begins a day anew, but for what is drawn at once (R133). -/
structure State.PoolFresh (s : State) : Prop where
  size : s.pool.sizeInForce = s.settings.poolSize
  toppedUp : s.pool.toppedUp = 0
  minutes : s.pool.remaining + s.pool.drawn = s.settings.poolSize

theorem State.MetersFresh.drawn {n : Nat} {s t : State} (h : s.MetersFresh) (work : SeatWork s t)
    (drawn : Drawn n s t) : t.MetersFresh where
  queued := by have := h.queued; unfold State.queued at *; rw [work.store, this]
  used k := (drawn.used.1 k).trans (h.used k)
  residue k := (drawn.residue k).trans (h.residue k)

theorem State.PoolFresh.drawn {n : Nat} {s t : State} (h : s.PoolFresh) (work : SeatWork s t) (drawn : Drawn n s t) :
    t.PoolFresh := by
  have settings : t.settings = s.settings := by rw [work]
  refine ⟨?_, drawn.used.2.trans h.toppedUp, ?_⟩
  · rw [settings, drawn.size, h.size]
  · rw [settings, drawn.minutes, h.minutes]

theorem clockTables_meters (s : State) (w : ClockWork) : (s.clockTables w).meters =
    if w = .roll .meters then Vector.replicate 16 Meter.cleared else s.meters := by
  rw [clockTables_eq]

theorem clockTables_pool (s : State) (w : ClockWork) : (s.clockTables w).pool =
    if w = .roll .pool then ⟨s.settings.poolSize, s.settings.poolSize, 0, 0⟩ else s.pool := by
  rw [clockTables_eq]

theorem clearedMeters_fresh (s : State) : (s.clockTables (.roll .meters)).MetersFresh := by
  have cleared : ∀ k : Fin 16, (s.clockTables (.roll .meters)).meters[k] = Meter.cleared := by
    intro k
    rw [clockTables_meters, if_pos rfl]; exact Vector.getElem_replicate ..
  exact ⟨queued_commit_self .., fun k => by rw [cleared]; rfl, fun k => by rw [cleared]; rfl⟩

theorem takeClockWork_metersFresh (s : State) : (s.takeClockWork (.roll .meters)).MetersFresh :=
  have followed := takeClockWork_followed s (.roll .meters)
  (clearedMeters_fresh s).drawn followed.work followed.drawn

theorem State.MetersFresh.takeClockWork {s : State} (w : ClockWork) (h : s.MetersFresh) :
    (s.takeClockWork w).MetersFresh := by
  by_cases here : w = .roll .meters
  · rw [here]; exact takeClockWork_metersFresh s
  · have drawn := (takeClockWork_followed s w).drawn
    have meters := (clockTables_meters s w).trans (if_neg here)
    refine ⟨takeClockWork_queued s w h.queued, fun k => ?_, fun k => ?_⟩
    · rw [drawn.used.1, meters, h.used]
    · rw [drawn.residue, meters, h.residue]

theorem takeClockWork_poolFresh (s : State) : (s.takeClockWork (.roll .pool)).PoolFresh :=
  have followed := takeClockWork_followed s (.roll .pool)
  State.PoolFresh.drawn (s := s.clockTables (.roll .pool)) ⟨rfl, rfl, rfl⟩ followed.work followed.drawn

theorem State.PoolFresh.takeClockWork {s : State} (w : ClockWork) (h : s.PoolFresh) :
    (s.takeClockWork w).PoolFresh := by
  by_cases here : w = .roll .pool
  · rw [here]; exact takeClockWork_poolFresh s
  · have followed := takeClockWork_followed s w
    refine State.PoolFresh.drawn (s := s.clockTables w) ?_ followed.work followed.drawn
    have settings : (s.clockTables w).settings = s.settings := by rw [clockTables_work s w]
    constructor <;> rw [clockTables_pool, if_neg here]
    · rw [settings, h.size]
    · exact h.toppedUp
    · rw [settings, h.minutes]

/-! ## All the pieces -/

/-- The pieces taken are those that have something to do, in some order; drawing it changes only the count of
choices. -/
theorem ordered_perm (s : State) (work : List ClockWork) : (s.ordered work).1.Perm (work.filter s.active) := by
  unfold State.ordered; dsimp only
  split
  · exact .refl _
  · exact shuffle_perm _ _ _ le_rfl

theorem ordered_state (s : State) (work : List ClockWork) : ∃ n, (s.ordered work).2 = { s with freeCount := n } := by
  unfold State.ordered; dsimp only
  split
  · exact ⟨s.freeCount, rfl⟩
  · exact shuffle_state ..

/-- No order is drawn for one piece (assumption 6). -/
theorem ordered_of_short {s : State} {work : List ClockWork} (short : (work.filter s.active).length ≤ 1) :
    s.ordered work = (work.filter s.active, s) := by
  unfold State.ordered; dsimp only
  rw [decide_eq_true short]; rfl

/-- A piece that is passed over would have retired no grant. -/
theorem retires_of_inactive {s : State} {w : ClockWork} (inactive : s.active w = false) (e : Fin 16) :
    s.grants[e].any (w.retires s.clock) = false := by
  have idle : s.grants[e].any (fun _ => false) = false := by cases s.grants[e] <;> rfl
  cases w with
  | compare => exact (losesAny_eq_false_iff s _).mp inactive e
  | roll part =>
    cases part with
    | grants => exact (losesAny_eq_false_iff s _).mp inactive e
    | meters | pool | seats => exact idle

theorem foldl_takeClockWork_work (l : List ClockWork) (s : State) : TableWork s (l.foldl State.takeClockWork s) :=
  List.foldlRecOn l State.takeClockWork (.refl s) fun t h w _ => h.trans (takeClockWork_work t w)

theorem foldl_takeClockWork_grants (l : List ClockWork) (s : State) (e : Fin 16) :
    (l.foldl State.takeClockWork s).grants[e] = s.grants[e].filter fun g => !l.any (·.retires s.clock g) := by
  induction l generalizing s with
  | nil =>
    show s.grants[e] = _
    cases s.grants[e] <;> rfl
  | cons w l ih =>
    have clock : (s.takeClockWork w).clock = s.clock := by rw [takeClockWork_work s w]
    rw [List.foldl_cons, ih, takeClockWork_grants, clock, Option.filter_filter]
    congr 1
    funext g
    rw [List.any_cons, Bool.not_or]

end Sys2Proof.Machine
end

section
/-! PROOFS. All the pieces of a **clkset**'s work, whatever their order (R159, R160, R161), and O35. -/

namespace Sys2Proof.Machine

/-! ## All of a **clkset**'s work -/

theorem foldl_seats_work {l : List ClockWork} (seats : ∀ w ∈ l, w = .roll .seats) (s : State) :
    SeatWork s (l.foldl State.takeClockWork s) :=
  List.foldlRecOn l State.takeClockWork (SeatWork.refl s) fun t h w hw =>
    h.trans (seats w hw ▸ (takeClockWork_followed t (.roll .seats)).work)

/-- The comparison alone makes a commit request, and only where it retires a grant (R147). -/
theorem takeCompare_queue (s : State) : (s.takeClockWork .compare).store.queue =
    if s.losesAny (expiredAt s.now) then s.queueWith [grantBlock] else s.store.queue := by
  rw [(takeClockWork_followed s .compare).work.store]
  exact retiring_queue ..

section
variable (s : State)

/-- The part with the rollover's own step taken, where the test of R159 finds one. -/
def State.tested : State := if s.rollsOver then s.installMeterDay else s

theorem tested_eq : s.tested =
    { s with clock := s.tested.clock, meterDirty := s.tested.meterDirty, notices := s.tested.notices } := by
  unfold State.tested
  split <;> rfl

theorem tested_of_not_rolls (stays : s.rollsOver = false) : s.tested = s := if_neg (by rw [stays]; nofun)

/-- The part after all the pieces of a **clkset**'s work. -/
@[irreducible] def State.worked : State :=
  (s.tested.ordered (clockWork s.rollsOver)).1.foldl State.takeClockWork (s.tested.ordered (clockWork s.rollsOver)).2

theorem handOver_eq (before : State) : s.handOver before = s.worked.settled before s.rollsOver := by
  unfold State.worked State.handOver; rfl

theorem worked_plan : ∃ (l : List ClockWork) (n : Nat), l.Perm ((clockWork s.rollsOver).filter s.tested.active)
    ∧ s.worked = l.foldl State.takeClockWork { s.tested with freeCount := n } := by
  obtain ⟨n, drawn⟩ := ordered_state s.tested (clockWork s.rollsOver)
  refine ⟨_, n, ordered_perm s.tested (clockWork s.rollsOver), ?_⟩
  unfold State.worked
  rw [drawn]

theorem worked_work : TableWork s.tested s.worked := by
  obtain ⟨l, n, -, run⟩ := worked_plan s
  rw [run]
  exact TableWork.trans (t := { s.tested with freeCount := n }) rfl (foldl_takeClockWork_work l _)

theorem worked_kept : SeatsKept s s.worked := by
  obtain ⟨l, n, -, run⟩ := worked_plan s
  have start : SeatsKept s { s.tested with freeCount := n } := by
    refine .of_eq ?_ ?_ <;> rw [tested_eq]
  rw [run]
  exact start.trans (.foldl takeClockWork_kept l _)

/-- The grants that are left are those that no piece retires, whichever pieces were passed over. -/
theorem worked_grants (e : Fin 16) : s.worked.grants[e] =
    s.grants[e].filter fun g => !(clockWork s.rollsOver).any (·.retires s.tested.clock g) := by
  obtain ⟨l, n, perm, run⟩ := worked_plan s
  have grants : s.tested.grants = s.grants := by rw [tested_eq]
  rw [run, foldl_takeClockWork_grants]
  show s.tested.grants[e].filter _ = _
  have same : ∀ g, s.tested.grants[e] = some g → (l.any (·.retires s.tested.clock g)) =
      (clockWork s.rollsOver).any (·.retires s.tested.clock g) := by
    intro g held
    rw [perm.any_eq, List.any_filter]
    congr 1
    funext w
    cases active : s.tested.active w with
    | true => rfl
    | false =>
      have := retires_of_inactive active e
      rw [held] at this
      exact this.symm
  rw [← grants]
  cases held : s.tested.grants[e] with
  | none => rfl
  | some g => simp only [Option.filter, same g held]

section
variable (rolls : s.rollsOver = true)
include rolls

theorem worked_mem {w : ClockWork} {l : List ClockWork} (perm : l.Perm ((clockWork s.rollsOver).filter s.tested.active))
    (work : w ∈ clockWork true) (active : s.tested.active w = true) : w ∈ l :=
  perm.mem_iff.mpr (List.mem_filter.mpr ⟨rolls ▸ work, active⟩)

theorem worked_metersFresh : s.worked.MetersFresh := by
  obtain ⟨l, n, perm, run⟩ := worked_plan s
  rw [run]
  exact foldl_establishes (worked_mem s rolls perm (by decide) rfl) takeClockWork_metersFresh
    (fun t w => State.MetersFresh.takeClockWork w) _

theorem worked_poolFresh : s.worked.PoolFresh := by
  obtain ⟨l, n, perm, run⟩ := worked_plan s
  rw [run]
  exact foldl_establishes (worked_mem s rolls perm (by decide) rfl) takeClockWork_poolFresh
    (fun t w => State.PoolFresh.takeClockWork w) _

theorem worked_rollover : s.worked.hasNotice .rollover = true := by
  obtain ⟨l, n, -, run⟩ := worked_plan s
  have installed : s.tested.hasNotice .rollover = true := by
    unfold State.tested
    rw [if_pos rolls]
    exact (addNotice_hasNotice ..).trans (by simp)
  rw [run]
  refine List.foldlRecOn l State.takeClockWork (motive := fun t => t.hasNotice .rollover = true) ?_
    fun t h w _ => takeClockWork_notice t w h
  exact installed

end

section
variable (stays : s.rollsOver = false)
include stays

/-- Without a rollover nothing is used or topped up. -/
theorem worked_drawn : Drawn 0 s s.worked := by
  obtain ⟨l, n, perm, run⟩ := worked_plan s
  rw [run, tested_of_not_rolls s stays]
  have start : Drawn 0 s { s with freeCount := n } := .of_eq rfl rfl fun _ => id
  have noPart : ∀ w ∈ clockWork false, w ≠ .roll .meters ∧ w ≠ .roll .pool := by decide
  refine List.foldlRecOn l State.takeClockWork start fun t h w hw => h.trans ?_
  have piece : w ∈ clockWork false := stays ▸ (List.mem_filter.mp (perm.mem_iff.mp hw)).1
  have tables : Drawn 0 t (t.clockTables w) := by
    obtain ⟨meters, pool⟩ := noPart w piece
    refine .of_eq ((clockTables_meters t w).trans (if_neg meters)) ((clockTables_pool t w).trans (if_neg pool))
      fun x had => ?_
    unfold State.hasNotice at *
    rw [clockTables_notices, had]
  exact tables.trans (takeClockWork_followed t w).drawn

theorem worked_queue : s.worked.store.queue =
    if s.losesAny (expiredAt s.now) then s.queueWith [grantBlock] else s.store.queue := by
  obtain ⟨l, n, perm, run⟩ := worked_plan s
  rw [stays, tested_of_not_rolls s stays] at perm
  rw [run, tested_of_not_rolls s stays]
  have seats_of_mem : ∀ w ∈ [ClockWork.roll .seats].filter s.active, w = .roll .seats := fun w hw =>
    List.mem_singleton.mp (List.mem_filter.mp hw).1
  cases loses : s.losesAny (expiredAt s.now) with
  | false =>
    have compare : s.active .compare = false := loses
    have seats : ∀ w ∈ l, w = .roll .seats := fun w hw => seats_of_mem w (by
      have := perm.mem_iff.mp hw
      rwa [show clockWork false = .compare :: [.roll .seats] from rfl, List.filter_cons_of_neg (by rw [compare]; nofun)]
        at this)
    rw [(foldl_seats_work seats _).store]; rfl
  | true =>
    have compare : s.active .compare = true := loses
    rw [show clockWork false = .compare :: [.roll .seats] from rfl, List.filter_cons_of_pos compare] at perm
    obtain ⟨before, after, rfl⟩ := List.append_of_mem (perm.mem_iff.mpr List.mem_cons_self)
    have others := (List.perm_middle.symm.trans perm).cons_inv
    have seats : ∀ w ∈ before ++ after, w = .roll .seats := fun w hw => seats_of_mem w (others.mem_iff.mp hw)
    have work := foldl_seats_work (fun w hw => seats w (List.mem_append_left _ hw)) { s with freeCount := n }
    rw [List.foldl_append, List.foldl_cons,
      (foldl_seats_work (fun w hw => seats w (List.mem_append_right _ hw)) _).store, takeCompare_queue, work]
    exact if_pos loses

/-- Where no grant is reached either, the seat table's part is all there is, and it is passed over where nobody
watches. -/
theorem worked_quiet (unreached : s.losesAny (expiredAt s.now) = false) :
    s.worked = if s.anyJudged then s.reeval everyEntry else s := by
  have compare : s.active .compare = false := unreached
  have todo : (clockWork false).filter s.active = if s.anyJudged then [.roll .seats] else [] := by
    rw [show clockWork false = .compare :: [.roll .seats] from rfl, List.filter_cons_of_neg (by rw [compare]; nofun),
      List.filter_singleton, Bool.cond_eq_ite]
    rfl
  have short : ((clockWork false).filter s.active).length ≤ 1 := by
    rw [todo]; split <;> simp
  unfold State.worked
  rw [stays, tested_of_not_rolls s stays, ordered_of_short short, todo]
  split
  · simp only [List.foldl_cons, List.foldl_nil, State.takeClockWork, State.takeRoll]
  · simp only [List.foldl_nil]

end

/-- A re-evaluation of every entry that is passed over where nobody watches says what one that is taken says. -/
theorem rejudges_anyJudged (before : State) (offered : Bool) (requests : before.requests = s.requests) :
    Rejudges before s ((if s.anyJudged then s.reeval everyEntry else s).settled before offered) true
      fun _ _ => true := by
  split
  · exact rejudges_reeval before s everyEntry offered requests
  · next nobody =>
    refine Rejudges.of_settled offered requests fun _ _ =>
      ⟨s.seats, rfl, rfl, rfl, rfl, rfl, rfl, fun j => ⟨rfl, ?_⟩⟩
    have empty : ¬ (s.seats[j].programme.isSome && !s.seats[j].entries.isEmpty) = true := fun h =>
      nobody ((any_seats s _).mpr ⟨j, h⟩)
    rw [judgedSeat_entries]
    cases playing : s.seats[j].programme with
    | none => exact (List.map_id _).symm
    | some p =>
      rw [playing] at empty
      have : s.seats[j].entries = [] := by simpa using empty
      rw [this]; rfl

end

/-! ## clkset -/

section
variable (s : State) (a : ClksetArgs) (w : Fin 7)

/-- The part with the time installed (R161). -/
def State.retimed : State := { s with clock := s.clock.install a.day.toNat a.second.toNat w }

/-- The part after a **clkset**. -/
def State.clockSet : State := (s.retimed a w).handOver s

theorem clkset_of_bad (bad : 86399 < a.second.toNat ∨ 6 < a.weekday.toNat) :
    clkset (.fields a) s = (s, refuse .badArgument) := by
  rw [clkset, withFields_fields]
  rcases bad with late | out
  · cases inRange 7 a.weekday with
    | none => rfl
    | some w => exact if_pos late
  · rw [inRange_of_le out]

theorem clkset_of_time {a : ClksetArgs} {w : Fin 7} (inDay : a.second.toNat ≤ 86399)
    (weekday : a.weekday.toNat = w.val) : clkset (.fields a) s =
      let t := s.clockSet a w
      (t, ok (flagByte s.clock.isSet ++ be2 a.day.toNat ++ be4 a.second.toNat ++ be1 w.val
        ++ flagByte (decide (s.clock.meterDay < a.day.toNat)) ++ be2 t.clock.meterDay ++ be1 t.clock.meterWeekday.val
        ++ be1 (s.liveGrants - t.liveGrants))) := by
  simp only [clkset, withFields_fields, inRange_of_eq weekday, if_neg (Nat.not_lt.mpr inDay)]
  rfl

theorem clockSet_eq : s.clockSet a w = (s.retimed a w).worked.settled s (s.retimed a w).rollsOver := handOver_eq ..

theorem clockSet_followed : SeatWork (s.retimed a w).worked (s.clockSet a w) := by
  rw [clockSet_eq]; exact .settled ..

theorem clockSet_drawn : ∃ n, Drawn n (s.retimed a w).worked (s.clockSet a w) := by
  rw [clockSet_eq]; exact ⟨_, .settle ..⟩

theorem clockSet_work : TableWork (s.retimed a w).tested (s.clockSet a w) :=
  (worked_work _).trans (clockSet_followed s a w).table

theorem clockSet_viewers (j : Fin 6) : (s.clockSet a w).viewers j = s.viewers j := by
  have kept : SeatsKept (s.retimed a w) (s.clockSet a w) := by
    rw [clockSet_eq]; exact (worked_kept _).trans (.settled ..)
  exact kept.viewers j

theorem retimed_tested_clock : (s.retimed a w).tested.clock =
    { counter := s.clock.counter, isSet := true, day := a.day.toNat, second := a.second.toNat, weekday := w
      meterDay := if (s.retimed a w).rollsOver then a.day.toNat else s.clock.meterDay
      meterWeekday := if (s.retimed a w).rollsOver then w else s.clock.meterWeekday } := by
  unfold State.tested
  cases (s.retimed a w).rollsOver <;> rfl

theorem clockSet_clock : (s.clockSet a w).clock = (s.retimed a w).tested.clock := by
  rw [clockSet_work s a w]

/-- The blocks that take no part in a **clkset**. -/
theorem clockSet_frame : (s.clockSet a w).slots = s.slots ∧ (s.clockSet a w).schemes = s.schemes
    ∧ (s.clockSet a w).settings = s.settings ∧ (s.clockSet a w).authority = s.authority
    ∧ (s.clockSet a w).edit = s.edit ∧ (s.clockSet a w).due = s.due := by
  have work := clockSet_work s a w
  rw [tested_eq] at work
  rw [work]
  exact ⟨rfl, rfl, rfl, rfl, rfl, rfl⟩

theorem clockSet_store : (s.clockSet a w).store = (s.retimed a w).worked.store := (clockSet_followed s a w).store

/-- The grants that a **clkset** retires: with a rollover the extra time of earlier meter days, and always what the
time given reaches (R147, R149). -/
def State.retiredBy (g : Grant) : Bool :=
  ((s.retimed a w).rollsOver && g.body.isPastExtra a.day.toNat) || expiredAt ⟨a.day.toNat, a.second.toNat / 60⟩ g

theorem clockWork_retires (g : Grant) : (clockWork (s.retimed a w).rollsOver).any
    (·.retires (s.retimed a w).tested.clock g) = s.retiredBy a w g := by
  rw [retimed_tested_clock, State.retiredBy]
  cases (s.retimed a w).rollsOver <;> simp [clockWork, rolloverParts, ClockWork.retires, Clock.minute]

theorem clockSet_grants (e : Fin 16) : (s.clockSet a w).grants[e] = s.grants[e].filter fun g => !s.retiredBy a w g := by
  have grants : (s.clockSet a w).grants = (s.retimed a w).worked.grants := by rw [clockSet_followed s a w]
  rw [grants, worked_grants]
  simp only [clockWork_retires]
  rfl

section
variable (rolls : (s.retimed a w).rollsOver = true)
include rolls

theorem clockSet_rollover : (s.clockSet a w).hasNotice .rollover = true :=
  have ⟨_, drawn⟩ := clockSet_drawn s a w
  drawn.notices _ (worked_rollover _ rolls)

theorem clockSet_metersFresh : (s.clockSet a w).MetersFresh :=
  have ⟨_, drawn⟩ := clockSet_drawn s a w
  (worked_metersFresh _ rolls).drawn (clockSet_followed s a w) drawn

theorem clockSet_poolFresh : (s.clockSet a w).PoolFresh :=
  have ⟨_, drawn⟩ := clockSet_drawn s a w
  (worked_poolFresh _ rolls).drawn (clockSet_followed s a w) drawn

end

section
variable (stays : (s.retimed a w).rollsOver = false)
include stays

theorem clockSet_used : UsedKept s (s.clockSet a w) := by
  obtain ⟨n, drawn⟩ := clockSet_drawn s a w
  have time : UsedKept s (s.retimed a w) := .of_eq rfl rfl
  exact time.trans ((worked_drawn _ stays).used.trans drawn.used)

theorem retiredBy_of_stays : s.retiredBy a w = expiredAt (s.retimed a w).now := by
  funext g
  rw [State.retiredBy, stays, Bool.false_and, Bool.false_or]
  rfl

theorem clockSet_queue : (s.clockSet a w).store.queue =
    if s.losesAny (s.retiredBy a w) then s.queueWith [grantBlock] else s.store.queue := by
  rw [clockSet_store, worked_queue _ stays, retiredBy_of_stays s a w stays]
  rfl

/-- Where no grant is reached every entry is judged anew under the new time, and nothing else is done (R161). -/
theorem clockSet_quiet (unreached : s.losesAny (s.retiredBy a w) = false) : (s.clockSet a w).store = s.store
    ∧ Rejudges s { s with clock := (s.clockSet a w).clock } (s.clockSet a w) true fun _ _ => true := by
  rw [retiredBy_of_stays s a w stays] at unreached
  have run := worked_quiet (s.retimed a w) stays unreached
  have time : (s.retimed a w) = { s with clock := (s.clockSet a w).clock } := by
    rw [clockSet_clock, tested_of_not_rolls _ stays]; rfl
  constructor
  · rw [clockSet_store, run]
    split
    · exact (SeatWork.reeval ..).store
    · rfl
  · rw [← time, clockSet_eq, run]
    exact rejudges_anyJudged (s.retimed a w) s _ rfl

end

end

/-- A moment at or before a time (R137, R146). -/
theorem expiredAt_eq (day minute : Nat) (g : Grant) : expiredAt ⟨day, minute⟩ g =
    g.body.expiry?.any fun e => decide (e.day < day ∨ (e.day = day ∧ e.minute ≤ minute)) := by
  unfold expiredAt
  congr 1
  funext e
  simp only [Moment.reached, Bool.decide_or, Bool.decide_and]

/-- Settles O35: whatever their order, the pieces retire the grants that some piece retires, and what a rollover's parts
bring about no other piece undoes. -/
theorem clksetInstallsTheTime : Obligations.ClksetInstallsTheTime := by
  unfold Obligations.ClksetInstallsTheTime
  refine fun s a h => ⟨fun bad => exec_of_owner h rfl (clkset_of_bad s a bad), fun w inDay weekday => ?_⟩
  intro rolls past gone
  have gone_eq : gone = s.retiredBy a w := by
    funext g
    rw [State.retiredBy, expiredAt_eq]; rfl
  rw [gone_eq]
  obtain ⟨slots, schemes, settings, authority, edit, due⟩ := clockSet_frame s a w
  refine ⟨_, exec_of_owner h rfl (clkset_of_time s inDay weekday), ?_, clockSet_grants s a w, fun isLater => ?_,
    fun stays => ?_, fun stays unreached => ?_, fun stays => ?_, replied_holds .., slots, schemes, settings,
    authority, edit, due, clockSet_viewers s a w⟩
  · exact (clockSet_clock s a w).trans (retimed_tested_clock s a w)
  · have meters := clockSet_metersFresh s a w isLater
    have pool := clockSet_poolFresh s a w isLater
    exact ⟨clockSet_rollover s a w isLater, meters.queued, fun k => ⟨meters.used k, meters.residue k⟩,
      pool.size.trans (congrArg Settings.poolSize settings), pool.toppedUp,
      pool.minutes.trans (congrArg Settings.poolSize settings)⟩
  · exact ⟨(clockSet_used s a w stays).2, (clockSet_used s a w stays).1⟩
  · exact clockSet_quiet s a w stays ((losesAny_eq_false_iff s _).mpr unreached)
  · exact clockSet_queue s a w stays

end Sys2Proof.Machine
end

section
/-! SUPPORT. What evaluations, waits and draws make of the pool and the request queue: minutes go from P to D and
nowhere else, and a request that joins does so now, at its profile's tier (R126, R129). -/

namespace Sys2Proof.Machine

/-- The pool record after `g` minutes went from P to D (R129). -/
def Pool.moved (p : Pool) (g : Nat) : Pool := ⟨p.sizeInForce, p.remaining - g, p.drawn + g, p.toppedUp⟩

theorem Pool.moved_moved (p : Pool) (g g' : Nat) : (p.moved g).moved g' = p.moved (g + g') := by
  simp only [Pool.moved, Nat.sub_sub, Nat.add_assoc]

/-- The request that a profile raises now (R126). -/
def State.requestOf (s : State) (k : Fin 16) : Request := ⟨k, s.tierOf k, s.clock.counter⟩

/-- Seat work that takes nothing from the pool but what it draws, and raises no request but at this second. -/
structure DrawWork (s t : State) : Prop where
  work : SeatWork s t
  moved : ∃ g ≤ s.pool.remaining, t.pool = s.pool.moved g
  joined : ∀ r ∈ t.requests, r ∈ s.requests ∨ r = s.requestOf r.slot

theorem tierOf_of_slots {s t : State} (h : t.slots = s.slots) (k : Fin 16) : t.tierOf k = s.tierOf k := by
  unfold State.tierOf State.rules? State.profile?
  rw [h]

theorem SeatWork.clock {s t : State} (h : SeatWork s t) : t.clock = s.clock := by rw [h]

theorem SeatWork.settings {s t : State} (h : SeatWork s t) : t.settings = s.settings := by rw [h]

theorem SeatWork.requestOf {s t : State} (h : SeatWork s t) (k : Fin 16) : t.requestOf k = s.requestOf k := by
  unfold State.requestOf
  rw [tierOf_of_slots h.slots, h.clock]

/-- Seat work that leaves the pool alone and raises nothing. -/
theorem DrawWork.of_subset {s t : State} (work : SeatWork s t) (pool : t.pool = s.pool)
    (requests : t.requests ⊆ s.requests) : DrawWork s t :=
  ⟨work, ⟨0, Nat.zero_le _, pool⟩, fun _ mem => .inl (requests mem)⟩

theorem DrawWork.refl (s : State) : DrawWork s s := .of_subset rfl rfl fun _ => id

theorem DrawWork.trans {s t u : State} (h : DrawWork s t) (h' : DrawWork t u) : DrawWork s u := by
  obtain ⟨g, inPool, pool⟩ := h.moved
  obtain ⟨g', inPool', pool'⟩ := h'.moved
  refine ⟨h.work.trans h'.work, ⟨g + g', ?_, ?_⟩, fun r mem => ?_⟩
  · have left : t.pool.remaining = s.pool.remaining - g := by rw [pool]; rfl
    omega
  · rw [pool', pool, Pool.moved_moved]
  · rcases h'.joined r mem with old | new
    · exact h.joined r old
    · exact .inr (new.trans (h.work.requestOf r.slot))

theorem DrawWork.foldl {α : Type} {f : State → α → State} (hf : ∀ s a, DrawWork s (f s a)) (l : List α) (s : State) :
    DrawWork s (l.foldl f s) := by
  induction l generalizing s with
  | nil => exact .refl s
  | cons a l ih => exact (hf s a).trans (ih _)

/-- P never rises by such work. -/
theorem DrawWork.remaining_le {s t : State} (h : DrawWork s t) : t.pool.remaining ≤ s.pool.remaining := by
  obtain ⟨g, -, pool⟩ := h.moved
  rw [pool]
  exact Nat.sub_le ..

/-! ## Evaluation -/

theorem raiseRequest_requests (s : State) (k : Fin 16) :
    (s.raiseRequest k).requests = if s.hasRequest k then s.requests else s.requests ++ [s.requestOf k] := by
  unfold State.raiseRequest; dsimp only
  split
  · rfl
  · split <;> rfl

theorem DrawWork.raiseRequest (s : State) (k : Fin 16) : DrawWork s (s.raiseRequest k) := by
  refine ⟨.raiseRequest s k, ⟨0, Nat.zero_le _, raiseRequest_pool s k⟩, fun r mem => ?_⟩
  rw [raiseRequest_requests] at mem
  split at mem
  · exact .inl mem
  · rcases List.mem_append.mp mem with old | new
    · exact .inl old
    · rw [List.mem_singleton.mp new]; exact .inr rfl

theorem DrawWork.judgeAll (p : Programme) (g w : Bool) (sel : Entry → Bool) (s : State) (es : List Entry) :
    DrawWork s (State.judgeAll p g w sel s es).1 := by
  have judged : ∀ (s : State) (e : Entry), DrawWork s (s.judge p g w e).1 := by
    intro s e
    rcases judge_cases s p g w e with h | h <;> rw [h]
    · exact .refl s
    · exact .raiseRequest ..
  induction es generalizing s with
  | nil => exact .refl s
  | cons e es ih =>
    unfold State.judgeAll; dsimp only; split
    · exact (judged s e).trans (ih _)
    · exact ih s

theorem DrawWork.putSeat (s : State) (j : Fin 6) (es : List Entry) (p : Option Programme) :
    DrawWork s (s.putSeat j es p) := .of_subset (.putSeat ..) rfl fun _ => id

theorem DrawWork.writeEntries (s : State) (f : Seat → Entry → EntryState) : DrawWork s (s.writeEntries f) :=
  .of_subset (.writeEntries ..) rfl fun _ => id

theorem DrawWork.reevalSeat (w : Bool) (sel : Entry → Bool) (s : State) (j : Fin 6) :
    DrawWork s (s.reevalSeat w sel j) := by
  unfold State.reevalSeat; split
  · exact .refl s
  · exact (DrawWork.judgeAll ..).trans (.putSeat ..)

theorem DrawWork.reeval (s : State) (sel : Entry → Bool) : DrawWork s (s.reeval sel) :=
  .foldl (.reevalSeat true sel) _ s

theorem DrawWork.dropEntry (k : Fin 16) (s : State) (j : Fin 6) : DrawWork s (s.dropEntry k j) := by
  unfold State.dropEntry; dsimp only; split
  · split
    · exact (DrawWork.putSeat ..).trans (.reevalSeat ..)
    · exact .putSeat ..
  · exact .refl s

theorem DrawWork.rederiveSeat (k : Fin 8) (s : State) (j : Fin 6) : DrawWork s (s.rederiveSeat k j) := by
  rw [rederiveSeat_eq]; split
  · exact (DrawWork.putSeat ..).trans (.reevalSeat ..)
  · exact .refl s

/-! ## Exhaustion and waits -/

theorem DrawWork.windDownOrDeny (s : State) (k : Fin 16) (sel : Seat → Entry → Bool) :
    DrawWork s (s.windDownOrDeny k sel) := by
  refine .of_subset (.windDownOrDeny ..) ?_ ?_ <;> unfold State.windDownOrDeny <;> dsimp only <;> split
  · rfl
  · rfl
  · exact fun _ => id
  · exact fun _ => id

theorem DrawWork.exhaustionCheck (s : State) (k : Fin 16) : DrawWork s (s.exhaustionCheck k) := by
  unfold State.exhaustionCheck State.exhaust; dsimp only; split
  · split
    · exact .writeEntries ..
    · split
      · exact (DrawWork.raiseRequest s k).trans (.writeEntries ..)
      · exact .windDownOrDeny ..
  · exact .refl s

theorem DrawWork.afterDecrease (s before : State) (k : Fin 16) : DrawWork s (s.afterDecrease before k) := by
  unfold State.afterDecrease; split
  · exact .exhaustionCheck s k
  · exact .refl s

theorem DrawWork.endOfWait (s : State) (k : Fin 16) : DrawWork s (s.endOfWait k) := by
  unfold State.endOfWait; split
  · split
    · exact .reeval ..
    · exact .windDownOrDeny ..
  · exact .refl s

theorem DrawWork.checkProfile (s : State) (k : Fin 16) : DrawWork s (s.checkProfile k) := by
  unfold State.checkProfile; split
  · split
    · exact (DrawWork.writeEntries ..).trans (.exhaustionCheck ..)
    · exact .refl s
  · exact .refl s

/-! ## Draws -/

/-- The credit of a draw is a change of the profile's meter record, and what the budget then brings (R108, R109). -/
theorem DrawWork.creditDraw (s : State) (k : Fin 16) (g : Nat) : DrawWork s (s.creditDraw k g) := by
  unfold State.creditDraw; dsimp only
  refine DrawWork.trans (t := { s with
    meters := s.meters.set k { s.meters[k] with drawn := s.meters[k].drawn + g, draws := s.meters[k].draws + 1 }
    meterDirty := true }) (.of_subset rfl rfl fun _ => id) ?_
  split
  · exact .reeval ..
  · split
    · exact .raiseRequest ..
    · exact .windDownOrDeny ..

/-- The minutes that a draw for the profile moves (R129). -/
def State.drawOf (s : State) (k : Fin 16) : Nat := min (s.drawSizeOf k) s.pool.remaining

/-- The part once the request has left the queue and its minutes P, before they reach the meter unit (R129). -/
def State.paidOut (s : State) (r : Request) : State := { s.dropRequest r.slot with
  pool := s.pool.moved (s.drawOf r.slot), meterDirty := true }

theorem drawFor_eq (s : State) (r : Request) : s.drawFor r = (s.paidOut r).creditDraw r.slot (s.drawOf r.slot) := rfl

theorem DrawWork.paidOut (s : State) (r : Request) : DrawWork s (s.paidOut r) :=
  ⟨rfl, ⟨s.drawOf r.slot, min_le_right .., rfl⟩, fun _ mem => .inl (List.mem_of_mem_filter mem)⟩

theorem DrawWork.drawFor (s : State) (r : Request) : DrawWork s (s.drawFor r) := by
  rw [drawFor_eq]
  exact (DrawWork.paidOut s r).trans (.creditDraw ..)

theorem DrawWork.draws (fuel : Nat) (s : State) : DrawWork s (State.draws fuel s).1 := by
  induction fuel generalizing s with
  | zero => exact .refl s
  | succ n ih =>
    unfold State.draws; split
    · exact .refl s
    · split
      · exact .refl s
      · exact (DrawWork.drawFor s _).trans (ih _)

theorem DrawWork.addNotice (s : State) (n : Notice) : DrawWork s (s.addNotice n) := .of_subset rfl rfl fun _ => id

theorem DrawWork.opportunity (s : State) : DrawWork s s.opportunity.1 := by
  unfold State.opportunity; dsimp only; split
  · exact (DrawWork.draws ..).trans (.addNotice ..)
  · exact .draws ..

theorem DrawWork.noteSeats (before s : State) : DrawWork s (State.noteSeats before s) := by
  refine .of_subset (.noteSeats ..) ?_ ?_ <;> rw [noteSeats_eq]
  exact fun _ => id

theorem DrawWork.releaseWaits (s : State) : DrawWork s s.releaseWaits :=
  .of_subset rfl rfl (List.filter_subset_self _)

/-- The end of an event draws, and does nothing else to the pool (R46, R60, R128). -/
theorem DrawWork.settle (s before : State) (offered : Bool) : DrawWork s (s.settle before offered).1 := by
  unfold State.settle State.settleWaits; dsimp only
  refine (DrawWork.releaseWaits s).trans ?_
  split
  · exact (DrawWork.opportunity ..).trans (.noteSeats ..)
  · exact .noteSeats ..

theorem DrawWork.settled (s before : State) (offered : Bool) : DrawWork s (s.settled before offered) :=
  .settle s before offered

end Sys2Proof.Machine
end

section
/-! SUPPORT. Everything that a command's owner can make of the state, each with the checks that stand before it: one
inversion of each owner, so that a law over every command is a case for each effect. -/

namespace Sys2Proof.Machine

/-- What an owner can make of the state `s` (R199), with what it has checked by then. -/
inductive CommandEffect (s : State) : State → Prop
  /-- A refusal, a read, or a command that finds nothing to do. -/
  | answers : CommandEffect s s
  | changeScheme {k : Fin 8} (c : SchemeSlot) (operator : 2 ≤ k.val) (unlocked : s.schemes[k].locked = false) :
      CommandEffect s (s.changeScheme k c)
  | lockScheme {k : Fin 8} (operator : 2 ≤ k.val) : CommandEffect s
      (State.commit { s with schemes := s.schemes.set k { s.schemes[k] with locked := true } } (schemeBlock k))
  | edit (b : EditBuffer) (allowed : s.authority.window.isSome = true ∨ s.edit.isSome = true) :
      CommandEffect s { s with edit := some b }
  | dropEdit : CommandEffect s { s with edit := none }
  | installNew {b : EditBuffer} (edited : s.edit = some b) : CommandEffect s (s.installNew b)
  | installChange {b : EditBuffer} (edited : s.edit = some b) : CommandEffect s (s.installChange b)
  | retired {k : Fin 16} (isOpen : s.authority.window.isSome = true) (notGuest : k ≠ 0) :
      CommandEffect s (s.retired k)
  | enter {j : Fin 6} {k : Fin 16} (absent : k ∉ s.viewers j) (room : s.seats[j].entries.length < 3) :
      CommandEffect s (s.enter j k)
  | leave (j : Fin 6) (k : Fin 16) : CommandEffect s ((s.dropEntry k j).settled s false)
  | vacate (j : Fin 6) : CommandEffect s ((s.putSeat j [] none).settled s false)
  | startProgramme (j : Fin 6) (p : Programme) : CommandEffect s (s.startProgramme j p)
  | endProgramme (j : Fin 6) : CommandEffect s (s.endProgramme j)
  | topUp (x : Nat) (isOpen : s.authority.window.isSome = true) :
      CommandEffect s ((s.topUp (s.pool.credit x)).settle s true).1
  | addGrant {a : GaddArgs} {k : Fin 16} {b : GrantBody} (isOpen : s.authority.window.isSome = true)
      (given : grantBody? a s.clock.meterDay = some b) (judged : (s.rules? k).isSome = true)
      (inTime : ∀ e ∈ b.expiry?, s.clock.isSet = true ∧ e.admitted s.now = true) :
      CommandEffect s (s.addGrant k b).1
  | revoke {i : Fin 16} {g : Grant} (isOpen : s.authority.window.isSome = true) (live : s.grants[i] = some g) :
      CommandEffect s (s.revoke i g.slot)
  | clockSet (a : ClksetArgs) (w : Fin 7) (inDay : a.second.toNat ≤ 86399) : CommandEffect s (s.clockSet a w)
  | admitPin (free : s.authority.lockout = none) : CommandEffect s s.admitPin
  | failPin (free : s.authority.lockout = none) (closed : s.authority.window = none) : CommandEffect s s.failPin
  | closeWindow : CommandEffect s s.closeWindow
  | unsetPin (isOpen : s.authority.window.isSome = true) : CommandEffect s (s.setPin none)
  | setPin {a : PinArgs} (isOpen : s.authority.window.isSome = true) (formed : pinWellFormed a = true) :
      CommandEffect s (s.setPin (some (pinSequence a)))
  | putSettings {a : HsetArgs} (isOpen : s.authority.window.isSome = true) (fits : hsetRefused a = false) :
      CommandEffect s (s.putSettings (s.settings.updated a))
  | retryFailed : CommandEffect s s.retryFailed
  | clearNotices : CommandEffect s { s with notices := 0 }
  | restarted : CommandEffect s s.restarted

variable (s : State)

theorem guarded_effect {s : State} {f : State × Reply}
    (h : s.authority.window.isSome = true → CommandEffect s f.1) : CommandEffect s (guarded s f).1 := by
  unfold guarded
  split
  · next isOpen => exact h isOpen
  · exact .answers

theorem withFields_effect {s : State} {α : Type} {f : α → State × Reply} (h : ∀ a, CommandEffect s (f a).1)
    (req : Req α) : CommandEffect s (withFields req s f).1 := withFields_meets .answers h req

/-- A command that only answers. -/
theorem CommandEffect.of_read {s t : State} (h : t = s) : CommandEffect s t := by
  rw [h]; exact .answers

/-! ## Schemes -/

theorem operatorSlot?_operator {b : Byte} {k : Fin 8} (h : operatorSlot? b = some k) : 2 ≤ k.val :=
  of_decide_eq_true (Option.mem_filter_iff.mp h).2

theorem sload_effect (req : Req SloadArgs) : CommandEffect s (sload req s).1 := by
  unfold sload
  refine withFields_effect (fun a => ?_) req
  dsimp only
  split
  · exact .answers
  · next k named =>
    split
    · exact .answers
    · next unlocked =>
      split
      · exact .answers
      · dsimp only
        exact .changeScheme _ (operatorSlot?_operator named) (Bool.eq_false_of_not_eq_true unlocked)

theorem sclr_effect (req : Req Byte) : CommandEffect s (sclr req s).1 := by
  unfold sclr
  refine withFields_effect (fun b => ?_) req
  split
  · exact .answers
  · next k named =>
    split
    · exact .answers
    · next unlocked =>
      split
      · exact .answers
      · dsimp only
        exact .changeScheme _ (operatorSlot?_operator named) (Bool.eq_false_of_not_eq_true unlocked)

theorem slock_effect (req : Req Byte) : CommandEffect s (slock req s).1 := by
  unfold slock
  refine withFields_effect (fun b => ?_) req
  split
  · exact .answers
  · next k named =>
    split
    · exact .answers
    · split
      · exact .answers
      · exact .lockScheme (operatorSlot?_operator named)

/-! ## Profiles -/

theorem eopen_effect (req : Req EopenArgs) : CommandEffect s (eopen req s).1 := by
  unfold eopen State.openEdit
  refine guarded_effect fun isOpen => withFields_effect (fun a => ?_) req
  split
  · exact .answers
  · split
    · split
      · exact .answers
      · split
        · exact .answers
        · split
          · exact .answers
          · exact .edit _ (.inl isOpen)
    · split
      · split
        · exact .answers
        · split
          · exact .answers
          · exact .edit _ (.inl isOpen)
      · exact .answers

theorem eset_effect (req : Req EsetArgs) : CommandEffect s (eset req s).1 := by
  unfold eset
  split
  · exact .answers
  · next b edited =>
    refine withFields_effect (fun a => ?_) req
    dsimp only
    split
    · exact .answers
    · split
      · exact .answers
      · split
        · exact .answers
        · exact .edit _ (.inr (Option.isSome_of_eq_some edited))

theorem ecommit_effect (req : Req Unit) : CommandEffect s (ecommit req s).1 := by
  unfold ecommit
  split
  · exact .answers
  · next b edited =>
    refine withFields_effect (fun _ => ?_) req
    split
    · exact .answers
    · split
      · dsimp only
        exact .installNew edited
      · dsimp only
        exact .installChange edited

theorem edrop_effect (req : Req Unit) : CommandEffect s (edrop req s).1 :=
  withFields_effect (fun _ => .dropEdit) req

theorem retire_effect (req : Req Byte) : CommandEffect s (retire req s).1 := by
  unfold retire
  refine guarded_effect fun isOpen => withFields_effect (fun b => ?_) req
  split
  · exact .answers
  · split
    · exact .answers
    · next notGuest =>
      split
      · exact .answers
      · split
        · exact .answers
        · dsimp only
          exact .retired isOpen notGuest

/-! ## Seats -/

theorem join_effect (req : Req JoinArgs) : CommandEffect s (join req s).1 := by
  unfold join
  refine withFields_effect (fun a => ?_) req
  dsimp only
  split
  · exact .answers
  · split
    · exact .answers
    · next absent =>
      split
      · exact .answers
      · next full =>
        rw [Bool.not_eq_true, holdsEntry_eq_false_iff] at absent
        exact .enter absent (Nat.not_le.mp full)

theorem leave_effect (req : Req LeaveArgs) : CommandEffect s (leave req s).1 := by
  unfold leave
  refine withFields_effect (fun a => ?_) req
  split
  · split
    · exact .leave ..
    · exact .answers
  · exact .answers

theorem vacate_effect (req : Req Byte) : CommandEffect s (vacate req s).1 := by
  unfold vacate
  refine withFields_effect (fun b => ?_) req
  split
  · exact .answers
  · exact .vacate _

theorem play_effect (req : Req PlayArgs) : CommandEffect s (play req s).1 := by
  unfold play
  refine withFields_effect (fun a => ?_) req
  split
  · exact .startProgramme ..
  · exact .answers

theorem endp_effect (req : Req Byte) : CommandEffect s (endp req s).1 := by
  unfold endp
  refine withFields_effect (fun b => ?_) req
  split
  · exact .answers
  · split
    · exact .endProgramme _
    · exact .answers

/-! ## The pool and the grants -/

theorem topup_effect (req : Req Half) : CommandEffect s (topup req s).1 := by
  unfold topup
  refine guarded_effect fun isOpen => withFields_effect (fun x => ?_) req
  dsimp only
  split
  · exact .answers
  · split
    · exact .topUp _ isOpen
    · exact .answers

theorem gadd_effect (req : Req GaddArgs) : CommandEffect s (gadd req s).1 := by
  unfold gadd
  refine guarded_effect fun isOpen => withFields_effect (fun a => ?_) req
  split
  · next k b _ given =>
    split
    · exact .answers
    · next judged =>
      rw [Option.isNone_iff_eq_none, ← ne_eq, Option.ne_none_iff_isSome] at judged
      split
      · next noExpiry => exact .addGrant isOpen given judged fun e has => by rw [noExpiry] at has; cases has
      · next e expires =>
        split
        · exact .answers
        · next isSet =>
          split
          · exact .answers
          · next admitted =>
            refine .addGrant isOpen given judged fun e' has => ?_
            rw [expires] at has
            cases has
            simpa using And.intro isSet admitted
  · exact .answers

theorem grevoke_effect (req : Req Byte) : CommandEffect s (grevoke req s).1 := by
  unfold grevoke
  refine guarded_effect fun isOpen => withFields_effect (fun b => ?_) req
  split
  · exact .answers
  · split
    · exact .answers
    · next live =>
      dsimp only
      exact .revoke isOpen live

/-! ## The clock and the guardian unit -/

theorem clkset_effect (req : Req ClksetArgs) : CommandEffect s (clkset req s).1 := by
  unfold clkset
  refine withFields_effect (fun a => ?_) req
  dsimp only
  split
  · exact .answers
  · split
    · exact .answers
    · next inDay => exact .clockSet a _ (Nat.not_lt.mp inDay)

theorem pin_effect (req : Req PinArgs) : CommandEffect s (pin req s).1 := by
  unfold pin
  refine withFields_effect (fun a => ?_) req
  dsimp only
  split
  · exact .answers
  · split
    · exact .answers
    · next free =>
      split
      · exact .admitPin free
      · split
        · exact .answers
        · next closed => exact .failPin free (Option.not_isSome_iff_eq_none.mp closed)

theorem repin_effect (req : Req PinArgs) : CommandEffect s (repin req s).1 := by
  unfold repin
  refine guarded_effect fun isOpen => withFields_effect (fun a => ?_) req
  split
  · exact .unsetPin isOpen
  · split
    · next formed => exact .setPin isOpen formed
    · exact .answers

theorem close_effect (req : Req Unit) : CommandEffect s (close req s).1 :=
  withFields_effect (fun _ => .closeWindow) req

theorem hset_effect (req : Req HsetArgs) : CommandEffect s (hset req s).1 := by
  unfold hset
  refine guarded_effect fun isOpen => withFields_effect (fun a => ?_) req
  dsimp only
  split
  · exact .answers
  · next fits => exact .putSettings isOpen (Bool.eq_false_of_not_eq_true fits)

/-! ## The store and the link -/

theorem retry_effect (req : Req Unit) : CommandEffect s (retry req s).1 :=
  withFields_effect (fun _ => .retryFailed) req

theorem notices_effect (req : Req Unit) : CommandEffect s (notices req s).1 :=
  withFields_effect (fun _ => .clearNotices) req

theorem restart_effect (req : Req Unit) : CommandEffect s (restart req s).1 :=
  withFields_effect (fun _ => .restarted) req

end Sys2Proof.Machine
end

section
/-! SUPPORT. When every row relates the state before it to the state after: a case for each effect of a command's owner,
for each event of a block and for each row of the store (R154 to R159, R182 to R191). -/

namespace Sys2Proof.Machine

/-- A relation of before and after that holds over everything that a row is made of. -/
structure RowsRelate (R : State → State → Prop) : Prop where
  refl : ∀ s, R s s
  trans : ∀ {s t u}, R s t → R t u → R s u
  link : ∀ s l, R s { s with link := l }
  pins : ∀ s, R s s.drivePins
  draw : ∀ s n, R s { s with freeCount := n }
  command : ∀ {s t}, CommandEffect s t → R s t
  -- The events of a second
  handed : ∀ s w, R s (s.takeHanded w)
  grantExpiry : ∀ s, R s (takeGrantExpiry s)
  meteringSecond : ∀ s, R s (takeMeteringSecond s)
  windDownEnd : ∀ s, R s (takeWindDownEnd s)
  commitIntervalEnd : ∀ s, R s (takeCommitIntervalEnd s)
  poolWaitTimeout : ∀ s, R s (takePoolWaitTimeout s)
  windowExpiry : ∀ s, R s (takeWindowExpiry s)
  lockoutEnd : ∀ s, R s (takeLockoutEnd s)
  -- The second event
  handSecond : ∀ s, R s s.handSecond
  midnight : ∀ s, R s { s.installMeterDay with due.rollover := rolloverParts }
  quietMidnight : ∀ s before, R s (s.installMeterDay.rollMeters.rollPool.settled before false)
  -- The store and the supply
  nextWrite : ∀ s, R s s.takeNextWrite
  eraseComplete : ∀ interrupted s, R s (takeEraseComplete interrupted s)
  programComplete : ∀ interrupted s, R s (takeProgramComplete interrupted s)
  verifyComplete : ∀ interrupted isMatch s, R s (takeVerifyComplete interrupted isMatch s)
  supplyWarning : ∀ s, R s (takeSupplyWarning s)
  supplyClear : ∀ s, R s (takeSupplyClear s)
  storeBlockRead : ∀ s, R s (takeStoreBlockRead s)
  restartWrite : ∀ s, R s s.restartWrite
  dipOver : ∀ s, R s { s with deferred := [], supply.dip := false }

namespace RowsRelate

variable {R : State → State → Prop} (h : RowsRelate R)
include h

theorem foldl {α : Type} {f : State → α → State} (hf : ∀ s a, R s (f s a)) (l : List α) (s : State) :
    R s (l.foldl f s) := by
  induction l generalizing s with
  | nil => exact h.refl s
  | cons a l ih => exact h.trans (hf s a) (ih _)

theorem shuffle {α : Type} (fuel : Nat) (work : List α) (s : State) : R s (State.shuffle fuel work s).2 := by
  obtain ⟨n, drawn⟩ := shuffle_state fuel work s
  rw [drawn]
  exact h.draw s n

theorem takeMinuteBoundary (s : State) : R s (takeMinuteBoundary s) := by
  unfold Machine.takeMinuteBoundary; dsimp only
  split
  · exact h.refl s
  · exact h.handed ..
  · exact h.trans (h.trans (h.shuffle ..) (h.draw ..)) (h.foldl h.handed ..)

theorem takeEveryHanded (s : State) : R s (takeEveryHanded s) := by
  unfold Machine.takeEveryHanded; dsimp only
  split
  · exact h.refl s
  · exact h.handed ..
  · exact h.trans (h.shuffle ..) (h.foldl h.handed ..)

theorem flushDue (s : State) : R s s.flushDue := by
  have handed := h.takeEveryHanded s
  have expired := h.trans handed (h.grantExpiry _)
  have metered := h.trans expired (h.meteringSecond _)
  have committed := h.trans metered (h.commitIntervalEnd _)
  have waited := h.trans committed (h.poolWaitTimeout _)
  exact h.trans (h.trans waited (h.windowExpiry _)) (h.lockoutEnd _)

theorem rollAtMidnight (s before : State) : R s (s.rollAtMidnight before) := by
  unfold State.rollAtMidnight; dsimp only
  split
  · exact h.quietMidnight s before
  · refine h.trans ?_ (h.foldl (fun t p => h.handed t (.roll p)) _ _)
    exact h.trans (h.trans (h.midnight s) (h.shuffle ..)) (h.draw ..)

theorem takeSecond (s : State) : R s (takeSecond s) := by
  have ticked := h.trans (h.flushDue s) (h.handSecond _)
  unfold Machine.takeSecond; dsimp only
  split
  · exact h.trans ticked (h.rollAtMidnight ..)
  · exact ticked

/-- A transaction that touches the link alone. -/
theorem of_link {s t : State} (touches : ∃ link, t = { s with link := link }) : R s t := by
  obtain ⟨link, rfl⟩ := touches
  exact h.link s link

theorem of_owner {owner : State → State × Reply} (effect : ∀ s, CommandEffect s (owner s).1) (i : Instr) (s : State) :
    R s (State.command i owner s) := command_relates (R := R) h.trans h.link (fun s => h.command (effect s)) i s

/-- The effect of every row. -/
theorem takeEvent (i : Instr) (s : State) : R s (takeEvent i s) := by
  cases i with
  | writeTransaction frame => exact h.of_link (takeWrite_link frame s)
  | fetchTransaction clocked => exact h.of_link (takeFetch_link clocked s)
  | badTransaction selector => exact h.of_link (takeBad_link selector s)
  | sload req => exact h.of_owner (sload_effect · req) _ s
  | sclr req => exact h.of_owner (sclr_effect · req) _ s
  | slock req => exact h.of_owner (slock_effect · req) _ s
  | sread req => exact h.of_owner (fun s => .of_read (sread_state s req)) _ s
  | eopen req => exact h.of_owner (eopen_effect · req) _ s
  | eset req => exact h.of_owner (eset_effect · req) _ s
  | ecommit req => exact h.of_owner (ecommit_effect · req) _ s
  | edrop req => exact h.of_owner (edrop_effect · req) _ s
  | pread req => exact h.of_owner (fun s => .of_read (pread_state s req)) _ s
  | retire req => exact h.of_owner (retire_effect · req) _ s
  | lookup req => exact h.of_owner (fun s => .of_read (lookup_state s req)) _ s
  | join req => exact h.of_owner (join_effect · req) _ s
  | leave req => exact h.of_owner (leave_effect · req) _ s
  | vacate req => exact h.of_owner (vacate_effect · req) _ s
  | play req => exact h.of_owner (play_effect · req) _ s
  | endp req => exact h.of_owner (endp_effect · req) _ s
  | sstat req => exact h.of_owner (fun s => .of_read (sstat_state s req)) _ s
  | preview req => exact h.of_owner (fun s => .of_read (preview_state s req)) _ s
  | mread req => exact h.of_owner (fun s => .of_read (mread_state s req)) _ s
  | topup req => exact h.of_owner (topup_effect · req) _ s
  | pool req => exact h.of_owner (fun s => .of_read (poolRead_state s req)) _ s
  | gadd req => exact h.of_owner (gadd_effect · req) _ s
  | grevoke req => exact h.of_owner (grevoke_effect · req) _ s
  | gread req => exact h.of_owner (fun s => .of_read (gread_state s req)) _ s
  | clkset req => exact h.of_owner (clkset_effect · req) _ s
  | clkread req => exact h.of_owner (fun s => .of_read (clkread_state s req)) _ s
  | pin req => exact h.of_owner (pin_effect · req) _ s
  | repin req => exact h.of_owner (repin_effect · req) _ s
  | close req => exact h.of_owner (close_effect · req) _ s
  | hset req => exact h.of_owner (hset_effect · req) _ s
  | hread req => exact h.of_owner (fun s => .of_read (hread_state s req)) _ s
  | store req => exact h.of_owner (fun s => .of_read (store_state s req)) _ s
  | retry req => exact h.of_owner (retry_effect · req) _ s
  | describe req => exact h.of_owner (fun s => .of_read (describe_state s req)) _ s
  | notices req => exact h.of_owner (notices_effect · req) _ s
  | restart req => exact h.of_owner (restart_effect · req) _ s
  | secondEvent => exact h.takeSecond s
  | minuteBoundary => exact h.takeMinuteBoundary s
  | grantExpiry => exact h.grantExpiry s
  | meteringSecond => exact h.meteringSecond s
  | windDownEnd => exact h.windDownEnd s
  | commitIntervalEnd => exact h.commitIntervalEnd s
  | poolWaitTimeout => exact h.poolWaitTimeout s
  | windowExpiry => exact h.windowExpiry s
  | lockoutEnd => exact h.lockoutEnd s
  | blockWriteBegin => exact h.nextWrite s
  | eraseComplete interrupted => exact h.eraseComplete interrupted s
  | programComplete interrupted => exact h.programComplete interrupted s
  | verifyComplete interrupted isMatch => exact h.verifyComplete interrupted isMatch s
  | supplyWarning => exact h.supplyWarning s
  | supplyClear => exact h.supplyClear s
  | storeBlockRead => exact h.storeBlockRead s
  | dipBegin | dipEnd _ | fullReset _ _ _ | startUpLoad _ _ => exact h.refl s

theorem takeWork (s : State) (w : DipWork) : R s (s.takeWork w) := by
  cases w with
  | event i => exact h.trans (h.takeEvent i s) (h.pins _)
  | restartWrite => exact h.restartWrite s

/-- The end of a dip that was held through (R191). -/
theorem endDip (s : State) : R s s.endDip := by
  have plan : R s s.orderedWork.2 := by
    unfold State.orderedWork
    split
    · exact h.refl s
    · exact h.shuffle ..
  exact h.trans (h.trans (h.trans plan (h.dipOver _)) (h.foldl h.takeWork _ _)) (h.pins _)

end RowsRelate

/-- The state `t` is `s` but for the store, the meter dirty flag, the notice set, the choices and the supply's flags. -/
def StoreRow (s t : State) : Prop := t = { s with
  store := t.store, meterDirty := t.meterDirty, notices := t.notices, freeCount := t.freeCount, supply := t.supply }

theorem StoreRow.of_work {s t : State} (h : StoreWork s t) : StoreRow s t := by
  rw [h]; rfl

theorem StoreRow.followed {s t u : State} (h : StoreRow s t) (h' : StoreWork t u) : StoreRow s u := by
  rw [h', h]; rfl

theorem takeEraseComplete_row (interrupted : Bool) (s : State) : StoreRow s (takeEraseComplete interrupted s) := by
  unfold takeEraseComplete
  split
  · split <;> rfl
  · rfl

theorem takeProgramComplete_row (interrupted : Bool) (s : State) : StoreRow s (takeProgramComplete interrupted s) := by
  unfold takeProgramComplete
  split
  · split <;> rfl
  · rfl

theorem takeVerifyComplete_row (interrupted isMatch : Bool) (s : State) :
    StoreRow s (takeVerifyComplete interrupted isMatch s) := by
  unfold takeVerifyComplete
  split
  · next w _ =>
    split
    · split
      · refine StoreRow.followed ?_ (.takeNextWrite _)
        rfl
      · split
        · exact .of_work (.beginErase ..)
        · refine StoreRow.followed ?_ (.takeNextWrite _)
          rfl
    · rfl
  · rfl

theorem takeSupplyWarning_row (s : State) : StoreRow s (takeSupplyWarning s) := by
  unfold takeSupplyWarning
  split
  · rfl
  · refine StoreRow.followed ?_ (.urgentSave _)
    rfl

theorem restartWrite_row (s : State) : StoreRow s s.restartWrite := by
  unfold State.restartWrite; dsimp only
  split
  · refine StoreRow.followed ?_ (.beginErase ..)
    rfl
  · rfl

end Sys2Proof.Machine
end

section
/-! SUPPORT. Which shared operations keep the pool law (R119, R120, R122, R166). -/

namespace Sys2Proof.Machine

/-! ## Pool records -/

theorem Pool.valid_iff (p : Pool) : p.valid = true ↔ p.sizeInForce ≤ 600 ∧ p.remaining ≤ 1440 ∧ p.drawn ≤ 65535
    ∧ p.toppedUp ≤ 65535 ∧ p.sizeInForce + p.toppedUp ≤ 65535
    ∧ p.remaining + p.drawn = p.sizeInForce + p.toppedUp := by
  simp only [Pool.valid, Bool.and_eq_true, decide_eq_true_eq, and_assoc]

/-- A draw keeps P + D, and D stays below what was ever put in (R120, R129). -/
theorem Pool.moved_valid {p : Pool} (valid : p.valid = true) {g : Nat} (inPool : g ≤ p.remaining) :
    (p.moved g).valid = true := by
  rw [Pool.valid_iff] at valid ⊢
  dsimp only [Pool.moved]
  omega

/-- The record after a top-up of `c` minutes (R123). -/
def Pool.toppedUpBy (p : Pool) (c : Nat) : Pool :=
  { p with remaining := p.remaining + c, toppedUp := p.toppedUp + c }

/-- What a top-up credits fits into the ranges of P and T (R123). -/
theorem Pool.credit_valid {p : Pool} (valid : p.valid = true) (x : Nat) : (p.toppedUpBy (p.credit x)).valid = true := by
  rw [Pool.valid_iff] at valid ⊢
  dsimp only [Pool.toppedUpBy, Pool.credit]
  omega

/-- The record of a new day (R133), or of a meter block that gave none (R122). -/
def Pool.fresh (size : Nat) : Pool := ⟨size, size, 0, 0⟩

theorem Pool.fresh_valid {size : Nat} (inRange : size ≤ 600) : (Pool.fresh size).valid = true := by
  rw [Pool.valid_iff]
  dsimp only [Pool.fresh]
  omega

/-! ## What keeps the law -/

/-- What the pool law speaks of. -/
def State.poolTables (s : State) : Pool × Nat := (s.pool, s.settings.poolSize)

/-- The pool meets its law after, if it did before. -/
structure PoolLawKept (s t : State) : Prop where
  law : s.PoolLaw → t.PoolLaw

theorem PoolLawKept.of_same {s t : State} (h : t.poolTables = s.poolTables) : PoolLawKept s t := by
  obtain ⟨pool, size⟩ := Prod.mk.inj h
  constructor
  unfold State.PoolLaw
  rw [pool, size]
  exact id

theorem PoolLawKept.refl (s : State) : PoolLawKept s s := ⟨id⟩

theorem PoolLawKept.trans {s t u : State} (h : PoolLawKept s t) (h' : PoolLawKept t u) : PoolLawKept s u :=
  ⟨h'.law ∘ h.law⟩

theorem PoolLawKept.foldl {α : Type} {f : State → α → State} (hf : ∀ s a, PoolLawKept s (f s a)) (l : List α)
    (s : State) : PoolLawKept s (l.foldl f s) := by
  induction l generalizing s with
  | nil => exact .refl s
  | cons a l ih => exact (hf s a).trans (ih _)

/-- Evaluations, waits and draws keep it. -/
theorem PoolLawKept.of_draws {s t : State} (h : DrawWork s t) : PoolLawKept s t := by
  refine ⟨fun ⟨valid, size⟩ => ⟨?_, ?_⟩⟩
  · obtain ⟨g, inPool, pool⟩ := h.moved
    rw [pool]
    exact Pool.moved_valid valid inPool
  · rw [h.work.settings]
    exact size

theorem PoolLawKept.settled (s before : State) (offered : Bool) : PoolLawKept s (s.settled before offered) :=
  .of_draws (.settled ..)

theorem PoolLawKept.reeval (s : State) (sel : Entry → Bool) : PoolLawKept s (s.reeval sel) := .of_draws (.reeval ..)

/-- A re-evaluation and the end of its event. -/
theorem PoolLawKept.judged (s before : State) (sel : Entry → Bool) (offered : Bool) :
    PoolLawKept s ((s.reeval sel).settled before offered) := (PoolLawKept.reeval ..).trans (.settled ..)

theorem PoolLawKept.of_store {s t : State} (h : StoreWork s t) : PoolLawKept s t := .of_same (by rw [h]; rfl)

theorem PoolLawKept.of_row {s t : State} (h : StoreRow s t) : PoolLawKept s t := .of_same (by rw [h]; rfl)

theorem PoolLawKept.commit (s : State) (b : BlockId) : PoolLawKept s (s.commit b) := .of_store (.commit ..)

/-- A change of other tables and its commit request. -/
theorem PoolLawKept.committed {s t : State} {b : BlockId} (h : t.poolTables = s.poolTables := by rfl) :
    PoolLawKept s (t.commit b) := (PoolLawKept.of_same h).trans (.commit ..)

theorem PoolLawKept.afterDecrease (s before : State) (k : Fin 16) : PoolLawKept s (s.afterDecrease before k) :=
  .of_draws (.afterDecrease ..)

theorem PoolLawKept.retireGrants (s : State) (sel : Grant → Bool) : PoolLawKept s (s.retireGrants sel) :=
  .of_same (by unfold State.poolTables; rw [State.retireGrants_pool, State.retireGrants_settings])

theorem PoolLawKept.closeWindow (s : State) : PoolLawKept s s.closeWindow := by
  unfold State.closeWindow
  split
  · exact .refl s
  · exact .of_same rfl

/-! ## The effects of commands -/

theorem PoolLawKept.changeScheme (s : State) (k : Fin 8) (c : SchemeSlot) : PoolLawKept s (s.changeScheme k c) := by
  unfold State.changeScheme; dsimp only
  refine PoolLawKept.trans ?_ (PoolLawKept.settled ..)
  refine PoolLawKept.trans ?_ (PoolLawKept.commit ..)
  refine PoolLawKept.trans ?_ (PoolLawKept.of_draws (.foldl (.rederiveSeat k) _ _))
  exact .of_same rfl

theorem PoolLawKept.installChange (s : State) (b : EditBuffer) : PoolLawKept s (s.installChange b) := by
  rw [installChange_eq]
  refine PoolLawKept.trans (t := s.changed b) (.of_same rfl) ?_
  exact PoolLawKept.trans (t := s.decreased b) (.afterDecrease ..) (.judged ..)

theorem PoolLawKept.retired (s : State) (k : Fin 16) : PoolLawKept s (s.retired k) := by
  rw [retired_eq]
  have unseated : PoolLawKept s (s.unseated k) := by
    rw [State.unseated]; exact .of_draws (.foldl (DrawWork.dropEntry k) _ s)
  refine unseated.trans (PoolLawKept.trans ?_ (PoolLawKept.settled ..))
  exact .of_same rfl

theorem PoolLawKept.enter (s : State) (j : Fin 6) (k : Fin 16) : PoolLawKept s (s.enter j k) := by
  rw [enter_eq]
  have entered : PoolLawKept s (s.entered j k) := .of_draws ((DrawWork.putSeat ..).trans (.reevalSeat ..))
  have shared : PoolLawKept s (s.shared j k) := by
    unfold State.shared
    split
    · exact entered.trans (.of_draws (.reevalSeat ..))
    · exact entered
  exact shared.trans (.settled ..)

theorem PoolLawKept.topUp (s : State) (x : Nat) : PoolLawKept s (s.topUp (s.pool.credit x)) := by
  refine ⟨fun ⟨valid, size⟩ => (PoolLawKept.commit ..).law ⟨?_, size⟩⟩
  exact Pool.credit_valid valid x

theorem PoolLawKept.putGrant (s : State) (i k : Fin 16) (b : GrantBody) : PoolLawKept s (s.putGrant i k b) := by
  unfold State.putGrant; dsimp only
  refine PoolLawKept.trans ?_ (PoolLawKept.judged ..)
  exact .committed

theorem PoolLawKept.addGrant (s : State) (k : Fin 16) (b : GrantBody) : PoolLawKept s (s.addGrant k b).1 := by
  unfold State.addGrant State.changeGrant State.createGrant
  split
  · split
    · dsimp only
      split
      · exact .refl s
      · dsimp only
        exact .putGrant ..
    · exact .refl s
  · split
    · dsimp only
      exact .putGrant ..
    · exact .refl s

theorem PoolLawKept.revoke (s : State) (i k : Fin 16) : PoolLawKept s (s.revoke i k) := by
  rw [revoke_eq]
  refine PoolLawKept.trans (t := s.ungranted i) (.of_same rfl) ?_
  exact (PoolLawKept.afterDecrease ..).trans (.judged ..)

/-- The settings that an **hset** gives: a pool day size written is at most 600 (R176, R177). -/
theorem updated_poolSize {a : HsetArgs} (fits : hsetRefused a = false) {h : Settings} (size : h.poolSize ≤ 600) :
    (h.updated a).poolSize ≤ 600 := by
  unfold Settings.updated
  dsimp only
  split
  · next present =>
    simp only [hsetRefused, Bool.or_eq_false_iff] at fits
    obtain ⟨-, inRange⟩ := fits
    rw [present, Bool.true_and, decide_eq_false_iff_not] at inRange
    exact Nat.not_lt.mp inRange
  · exact size

theorem PoolLawKept.putSettings (s : State) {h : Settings}
    (size : s.settings.poolSize ≤ 600 → h.poolSize ≤ 600) : PoolLawKept s (s.putSettings h) := by
  have written : PoolLawKept s { s with settings := h } := ⟨fun law => ⟨law.1, size law.2⟩⟩
  have judged : PoolLawKept s (if h.groupOrder = s.settings.groupOrder then { s with settings := h }
      else (State.reeval { s with settings := h } everyEntry).settled s false) := by
    split
    · exact written
    · exact written.trans (.judged ..)
  unfold State.putSettings; dsimp only
  split
  · exact judged
  · exact judged.trans (.commit ..)

/-! ## Rollovers and expiries -/

theorem PoolLawKept.rollMeters (s : State) : PoolLawKept s s.rollMeters := by
  unfold State.rollMeters; dsimp only
  refine PoolLawKept.trans ?_ (PoolLawKept.reeval ..)
  exact .committed

/-- The new day's record holds the pool day size, which is in range (R133, R166). -/
theorem PoolLawKept.rollPool (s : State) : PoolLawKept s s.rollPool := by
  unfold State.rollPool; dsimp only
  refine PoolLawKept.trans ?_ (PoolLawKept.of_draws (.foldl (fun t (r : Request) => .endOfWait t r.slot) _ _))
  exact ⟨fun ⟨_, size⟩ => ⟨Pool.fresh_valid size, size⟩⟩

theorem PoolLawKept.retireExtra (s : State) : PoolLawKept s s.retireExtra := by
  unfold State.retireExtra; dsimp only
  split
  · refine PoolLawKept.trans ?_ (PoolLawKept.reeval ..)
    refine PoolLawKept.trans ?_ (PoolLawKept.foldl (fun t k => .afterDecrease t s k) _ _)
    exact (PoolLawKept.retireGrants ..).trans (.commit ..)
  · exact .refl s

theorem PoolLawKept.expireGrants (s : State) (now : Moment) : PoolLawKept s (s.expireGrants now) := by
  unfold State.expireGrants; dsimp only
  split
  · exact ((PoolLawKept.retireGrants ..).trans (.commit ..)).trans (.reeval ..)
  · exact .refl s

theorem PoolLawKept.takeRoll (s : State) (part : RollPart) : PoolLawKept s (s.takeRoll part) := by
  cases part with
  | meters => exact .rollMeters s
  | pool => exact .rollPool s
  | grants => exact .retireExtra s
  | seats => exact .reeval s everyEntry

theorem PoolLawKept.takeClockWork (s : State) (w : ClockWork) : PoolLawKept s (s.takeClockWork w) := by
  cases w with
  | compare => exact .expireGrants s s.now
  | roll part => exact .takeRoll s part

theorem PoolLawKept.clockSet (s : State) (a : ClksetArgs) (w : Fin 7) : PoolLawKept s (s.clockSet a w) := by
  have tested : PoolLawKept s (s.retimed a w).tested := by
    unfold State.tested
    split <;> exact .of_same rfl
  rw [clockSet_eq]
  obtain ⟨l, n, -, plan⟩ := worked_plan (s.retimed a w)
  rw [plan]
  refine tested.trans (PoolLawKept.trans ?_ ((PoolLawKept.foldl PoolLawKept.takeClockWork l _).trans (.settled ..)))
  exact .of_same rfl

end Sys2Proof.Machine
end

section
/-! SUPPORT. The pool law over the start-up load (R116, R122, R166, R193). -/

namespace Sys2Proof.Machine

variable (s : State)

theorem valid_poolSize {h : Settings} (valid : h.valid = true) : h.poolSize ≤ 600 := by
  simp only [Settings.valid, Bool.and_eq_true, decide_eq_true_eq] at valid
  obtain ⟨⟨⟨-, size⟩, -⟩, -⟩ := valid
  exact size

/-- The settings that are settled are in range, and settling them touches the store beside them (R166). -/
theorem PoolLawKept.settleHousehold (r : ReadResult) : PoolLawKept s (s.settleHousehold r) := by
  have take : ∀ (h : Settings) (v : BlockStatus), h.poolSize ≤ 600 →
      PoolLawKept s (State.setStatus { s with settings := h } householdBlock v) :=
    fun h v size => ⟨fun law => ⟨law.1, size⟩⟩
  have factory := fun v => take Settings.factory v (Nat.zero_le _)
  unfold State.settleHousehold; dsimp only
  split
  · exact factory .blank
  · split
    · next settles => exact take _ _ (valid_poolSize (image_settings settles).1)
    · exact (factory .damaged).trans (.commit ..)
  · exact (factory .damaged).trans (.commit ..)

theorem PoolLawKept.settleScheme (k : Fin 8) (r : ReadResult) : PoolLawKept s (s.settleScheme k r) := by
  unfold State.settleScheme; dsimp only
  split
  · exact .of_same rfl
  · split <;> exact .of_same rfl
  · exact .of_same rfl

theorem PoolLawKept.withoutRecord (k : Fin 16) (slot : Slot) (v : BlockStatus) :
    PoolLawKept s (s.withoutRecord k slot v) := by
  have taken : ∀ slot, PoolLawKept s (s.takeSlot k slot v) := fun _ => .of_same rfl
  unfold State.withoutRecord
  split
  · exact (taken _).trans (.commit ..)
  · exact taken _

theorem PoolLawKept.tokenLaw : PoolLawKept s s.tokenLaw := by
  refine .foldl (fun t k => ?_) _ s
  unfold State.tokenLawAt
  split
  · exact .of_same rfl
  · exact .refl t

theorem PoolLawKept.settleProfile (k : Fin 16) (r : ReadResult) : PoolLawKept s (s.settleProfile k r) := by
  have lawTaken : ∀ x : State, PoolLawKept x (if k = 15 then x.tokenLaw else x) := by
    intro x
    split
    · exact .tokenLaw x
    · exact .refl x
  unfold State.settleProfile; dsimp only
  refine PoolLawKept.trans ?_ (lawTaken _)
  split
  · exact .withoutRecord ..
  · split
    · exact .of_same rfl
    · exact .withoutRecord ..
  · exact .withoutRecord ..

/-- Without contents the record takes the pool day size as settled (R122). -/
theorem PoolLawKept.withoutMeters (v : BlockStatus) : PoolLawKept s (s.withoutMeters v) :=
  ⟨fun ⟨_, size⟩ => ⟨Pool.fresh_valid size, size⟩⟩

theorem pool_valid_of_weekday {i : MeterImage} {w : Fin 7} (h : i.weekday? = some w) : i.pool.valid = true := by
  unfold MeterImage.weekday? at h
  split at h
  · next checked =>
    rw [Bool.and_eq_true] at checked
    exact checked.2
  · cases h

/-- A meter block's pool record is taken only within the checks of R122. -/
theorem PoolLawKept.settleMeters (r : ReadResult) : PoolLawKept s (s.settleMeters r) := by
  unfold State.settleMeters
  split
  · exact .withoutMeters ..
  · split
    · next checked => exact ⟨fun law => ⟨pool_valid_of_weekday checked, law.2⟩⟩
    · exact .withoutMeters ..
  · exact .withoutMeters ..

theorem PoolLawKept.settleGrants (r : ReadResult) : PoolLawKept s (s.settleGrants r) := by
  have taken : ∀ table v, PoolLawKept s (s.takeGrants table v) := fun _ _ => .of_same rfl
  unfold State.settleGrants; dsimp only
  split
  · exact taken ..
  · split
    · split
      · exact ((taken ..).trans (.retireGrants ..)).trans (.commit ..)
      · exact taken ..
    · exact (taken ..).trans (.commit ..)
  · exact (taken ..).trans (.commit ..)

theorem PoolLawKept.handBlock (b : BlockId) (r : ReadResult) : PoolLawKept s (s.handBlock b r) := by
  unfold State.handBlock
  split
  · exact .settleProfile ..
  · split
    · exact .settleScheme ..
    · split
      · exact .settleHousehold ..
      · split
        · exact .settleGrants ..
        · exact .settleMeters ..

theorem PoolLawKept.endLoad : PoolLawKept s s.endLoad := by
  unfold State.endLoad; dsimp only
  refine PoolLawKept.trans (.of_same ?_) (.of_store (.takeNextWrite _))
  split <;> rfl

theorem PoolLawKept.takeStoreBlockRead : PoolLawKept s (takeStoreBlockRead s) := by
  have read : ∀ n b, PoolLawKept s (s.readBlock n b) :=
    fun n b => PoolLawKept.trans (t := { s with load := some (n + 1) }) (.of_same rfl) (.handBlock ..)
  unfold Machine.takeStoreBlockRead
  split
  · exact .refl s
  · split
    · exact .refl s
    · dsimp only
      split
      · exact (read ..).trans (.endLoad _)
      · exact read ..

end Sys2Proof.Machine
end

section
/-! PROOFS. The pool law after every step (R119, R120, R122, R166), and O51. -/

namespace Sys2Proof.Machine

theorem PoolLawKept.of_command {s t : State} (h : CommandEffect s t) : PoolLawKept s t := by
  cases h with
  | answers => exact .refl s
  | changeScheme c => exact .changeScheme ..
  | lockScheme => exact .committed
  | edit | dropEdit | clearNotices => exact .of_same rfl
  | installNew => exact PoolLawKept.trans (.committed) (.commit ..)
  | installChange => exact .installChange ..
  | retired => exact .retired ..
  | enter => exact .enter ..
  | leave j k => exact PoolLawKept.trans (.of_draws (.dropEntry k s j)) (.settled ..)
  | vacate j => exact PoolLawKept.trans (.of_draws (.putSeat s j [] none)) (.settled ..)
  | startProgramme j p => exact PoolLawKept.trans (.of_draws ((DrawWork.putSeat ..).trans (.reevalSeat ..))) (.settled ..)
  | endProgramme j => exact PoolLawKept.trans (.of_draws (.putSeat ..)) (.settled ..)
  | topUp x => exact (PoolLawKept.topUp s x).trans (.settled _ s true)
  | addGrant => exact .addGrant ..
  | revoke => exact .revoke ..
  | clockSet a w => exact .clockSet s a w
  | admitPin | failPin => exact .of_same rfl
  | closeWindow => exact .closeWindow s
  | unsetPin | setPin => exact .committed
  | putSettings _ fits => exact .putSettings s (updated_poolSize fits)
  | retryFailed =>
    have cleared : PoolLawKept s { s with store := { s.store with faultLatch := false } } := .of_same rfl
    exact cleared.trans (.foldl PoolLawKept.commit _ _)
  | restarted => exact PoolLawKept.trans (t := s.emptied) (.of_same rfl) (.closeWindow _)

theorem PoolLawKept.takeHanded (s : State) (w : Handed) : PoolLawKept s (s.takeHanded w) := by
  cases w with
  | boundary =>
    refine PoolLawKept.trans ?_ (PoolLawKept.judged _ s everyEntry false)
    exact .of_same rfl
  | roll part =>
    refine PoolLawKept.trans ?_ ((PoolLawKept.takeRoll _ part).trans (.settled ..))
    exact .of_same rfl

theorem PoolLawKept.takeGrantExpiry (s : State) : PoolLawKept s (takeGrantExpiry s) := by
  unfold Machine.takeGrantExpiry; dsimp only
  split
  · have taken : PoolLawKept s { s with due.expiry := none } := .of_same rfl
    exact taken.trans ((PoolLawKept.expireGrants _ _).trans (.settled ..))
  · exact .refl s

theorem PoolLawKept.meterSecond (s : State) : PoolLawKept s s.meterSecond := by
  have debited : PoolLawKept s s.debitAll := .of_same rfl
  have ended : DrawWork s.debitAll s.debitAll.endWindDowns := .writeEntries ..
  have checked := debited.trans (.of_draws (ended.trans (.foldl DrawWork.checkProfile (List.finRange 16) _)))
  have taken : ∀ x : State, PoolLawKept x { x with due.metering := false } := fun _ => .of_same rfl
  exact (checked.trans (taken _)).trans (.settled ..)

theorem PoolLawKept.takeCommitIntervalEnd (s : State) : PoolLawKept s (takeCommitIntervalEnd s) := by
  unfold Machine.takeCommitIntervalEnd; dsimp only
  split
  · split
    · exact .committed
    · exact .of_same rfl
  · exact .refl s

theorem PoolLawKept.timeoutCheck (s : State) : PoolLawKept s s.timeoutCheck := by
  unfold State.timeoutCheck; dsimp only
  refine PoolLawKept.trans ?_ (PoolLawKept.settled ..)
  refine PoolLawKept.trans ?_ (PoolLawKept.of_draws (.foldl (fun t (r : Request) => .endOfWait t r.slot) _ _))
  exact .of_same rfl

/-- Every row keeps the pool law. -/
theorem poolLaw_rows : RowsRelate PoolLawKept where
  refl := .refl
  trans := .trans
  link _ _ := .of_same rfl
  pins _ := .of_same rfl
  draw _ _ := .of_same rfl
  command := .of_command
  handed := .takeHanded
  grantExpiry := .takeGrantExpiry
  meteringSecond s := by
    unfold takeMeteringSecond
    split
    · exact .meterSecond s
    · exact .refl s
  windDownEnd s := by
    unfold takeWindDownEnd
    split
    · exact .meterSecond s
    · exact PoolLawKept.trans (.of_draws (.writeEntries ..)) (.settled ..)
  commitIntervalEnd := .takeCommitIntervalEnd
  poolWaitTimeout s := by
    unfold takePoolWaitTimeout
    split
    · exact .timeoutCheck s
    · exact .refl s
  windowExpiry s := by
    unfold takeWindowExpiry
    split
    · exact .closeWindow s
    · exact .refl s
  lockoutEnd s := by
    unfold takeLockoutEnd
    split <;> exact .of_same rfl
  handSecond _ := .of_same rfl
  midnight _ := .of_same rfl
  quietMidnight s before := by
    have rolled : PoolLawKept s s.installMeterDay := .of_same rfl
    exact rolled.trans (((PoolLawKept.rollMeters _).trans (.rollPool _)).trans (.settled ..))
  nextWrite s := .of_store (.takeNextWrite s)
  eraseComplete interrupted s := .of_row (takeEraseComplete_row interrupted s)
  programComplete interrupted s := .of_row (takeProgramComplete_row interrupted s)
  verifyComplete interrupted isMatch s := .of_row (takeVerifyComplete_row interrupted isMatch s)
  supplyWarning s := .of_row (takeSupplyWarning_row s)
  supplyClear _ := .of_same rfl
  storeBlockRead := .takeStoreBlockRead
  restartWrite s := .of_row (restartWrite_row s)
  dipOver _ := .of_same rfl

theorem poolLaw_stepLaw : StepLaw State.PoolLaw where
  pending _ _ := id
  deferred _ _ := id
  dipBegin _ := id
  reset _ _ := ⟨Pool.fresh_valid (Nat.zero_le _), Nat.zero_le _⟩
  startUpLoad high millivolts s := by
    unfold takeStartUpLoad
    split <;> exact id
  event i s := (poolLaw_rows.trans (poolLaw_rows.takeEvent i s) (poolLaw_rows.pins _)).law
  endDip s := (poolLaw_rows.endDip s).law

/-- Settles O51: minutes leave P only for D, enter it only within the ranges, and every other writer of the record gives
one that is in range. -/
theorem everyStepKeepsThePoolLaw : Obligations.EveryStepKeepsThePoolLaw := poolLaw_stepLaw.keptByEveryStep

end Sys2Proof.Machine
end

section
/-! SUPPORT. What a profile's entries take when its time comes back or ends: no request is raised while time is left, a
re-evaluation of its entries leaves those of every other profile, and so does the end of a wait (R105, R108, R110). -/

namespace Sys2Proof.Machine

/-! ## Evaluation with time left -/

section
variable {s : State} {k : Fin 16} (left : 0 < s.remaining k)
include left

/-- While time is left the time group does not make an entry wait (R79). -/
theorem timeGroup_of_left (r : Rules) (w : Option Nat) :
    s.timeGroup k r w = some .clear ∨ s.timeGroup k r w = some .low := by
  unfold State.timeGroup
  split
  · exact .inl rfl
  · split
    · exact .inr rfl
    · exact .inl rfl

/-- While time is left no evaluation asks for a request (R79, R80). -/
theorem evaluate_asks_of_left (r : Rules) (p : Programme) (g : Bool) (w : Option Nat) :
    (s.evaluate k r p g w).asks = false := by
  suffices ∀ (order : List RuleGroup) (c : Option TimePass), c = none ∨ c = some .clear ∨ c = some .low →
      (s.walk k r p g w order c).asks = false from this _ none (.inl rfl)
  have permits : ∀ (c : Option TimePass) (why : Pass) (d : Option RuleGroup), c = none ∨ c = some .clear ∨ c = some .low →
      (s.permit k r why c d).asks = false := by
    rintro c why d (rfl | rfl | rfl) <;> rfl
  intro order
  induction order with
  | nil => exact fun c carried => permits c _ _ carried
  | cons group rest ih =>
    intro c carried
    cases group <;> unfold State.walk
    case grant =>
      split
      · exact permits c _ _ carried
      · exact ih c carried
    case rating =>
      split
      · rfl
      · exact ih c carried
    case window =>
      split
      · rfl
      · exact ih c carried
    case time =>
      rcases timeGroup_of_left left r w with passed | passed <;> rw [passed]
      · exact ih _ (.inr (.inl rfl))
      · exact ih _ (.inr (.inr rfl))

/-- A profile with time left is re-evaluated and nothing else is written (R57, R108). -/
theorem reeval_judgesAnew : JudgesAnew s (s.reeval (ofProfile k)) k := by
  have quiet : ∀ j : Fin 6, s.AsksNone true (ofProfile k) s.seats[j] := by
    intro j p _ e _ own r _
    rw [of_decide_eq_true (p := e.slot = k) own]
    exact evaluate_asks_of_left left r p _ _
  unfold JudgesAnew
  rw [reeval_quiet s (ofProfile k) quiet]
  refine ⟨rfl, rfl, rfl, fun r rules j => ?_⟩
  have seat : (s.seats.map (s.judgedSeat true (ofProfile k)))[j] = s.judgedSeat true (ofProfile k) s.seats[j] :=
    Vector.getElem_map ..
  dsimp only
  rw [seat, judgedSeat_entries]
  refine List.map_congr_left fun e _ => ?_
  cases s.seats[j].programme with
  | none => rfl
  | some p =>
    by_cases own : e.slot = k
    · subst own
      simp [ofProfile, State.verdictOn, ne_guardian_of_rules rules, rules]
    · simp [ofProfile, own]

/-- Only a profile with judged fields has time left (R99). -/
theorem rules_of_left : ∃ r, s.rules? k = some r := by
  unfold State.remaining State.budget at left
  split at left
  · next r rules => exact ⟨r, rules⟩
  · omega

end

/-! ## The end of a wait -/

section
variable (s : State) (k : Fin 16)

/-- The entries that wait, in the words of the statements. -/
theorem hasWaiting_iff : s.hasWaiting k = true ↔
    ∃ j : Fin 6, ∃ e ∈ s.seats[j].entries, (decide (e.slot = k) && e.state.isWaiting) = true := by
  unfold State.hasWaiting
  rw [any_seats]
  exact exists_congr fun j => List.any_eq_true

/-- With no time left and no pool in prospect, the waiting entries go to wind-down or to DENIED(TIME) (R105). -/
theorem windDownOrDeny_waiting : WindsDownOrDenies s (s.windDownOrDeny k (isWaitingOf k)) k
    (fun _ e => decide (e.slot = k) && e.state.isWaiting) fun _ e => e :=
  windDownOrDeny_spec s k _ _ fun _ _ _ => rfl

theorem endOfWait_of_none (none : s.hasWaiting k = false) : s.endOfWait k = s := by
  unfold State.endOfWait
  rw [none]
  rfl

section
variable {s k} (waiting : s.hasWaiting k = true)
include waiting

theorem endOfWait_of_left (left : 0 < s.remaining k) : s.endOfWait k = s.reeval (ofProfile k) := by
  unfold State.endOfWait
  rw [if_pos waiting, if_pos left]

theorem endOfWait_of_spent (spent : s.remaining k = 0) : s.endOfWait k = s.windDownOrDeny k (isWaitingOf k) := by
  unfold State.endOfWait
  rw [if_pos waiting, if_neg spent.not_gt]

end

/-- The state `t` is `s` but for the entries of one profile: the queue and the pool stand. -/
structure EntriesTaken (k : Fin 16) (s t : State) : Prop where
  requests : t.requests = s.requests
  pool : t.pool = s.pool
  entries : ∀ j : Fin 6, ∃ f : Entry → Entry, t.seats[j].entries = s.seats[j].entries.map f
    ∧ ∀ e, (f e).slot = e.slot ∧ (e.slot ≠ k → f e = e)

theorem EntriesTaken.refl : EntriesTaken k s s :=
  ⟨rfl, rfl, fun _ => ⟨id, (List.map_id _).symm, fun _ => ⟨rfl, fun _ => rfl⟩⟩⟩

variable {s k} in
theorem JudgesAnew.entriesTaken {t : State} {r : Rules} (h : JudgesAnew s t k) (rules : s.rules? k = some r) :
    EntriesTaken k s t := by
  obtain ⟨requests, pool, -, entries⟩ := h
  refine ⟨requests, pool, fun j => ⟨_, entries r rules j, fun e => ?_⟩⟩
  cases s.seats[j].programme with
  | none => exact ⟨rfl, fun _ => rfl⟩
  | some p =>
    dsimp only
    by_cases own : e.slot = k
    · exact ⟨by rw [if_pos own, own], fun other => absurd own other⟩
    · exact ⟨by rw [if_neg own], fun _ => if_neg own⟩

variable {s k} in
theorem WindsDownOrDenies.entriesTaken {t : State}
    (h : WindsDownOrDenies s t k (fun _ e => decide (e.slot = k) && e.state.isWaiting) fun _ e => e) :
    EntriesTaken k s t := by
  have written : ∀ (f : Entry → EntryState) (e : Entry),
      (if (decide (e.slot = k) && e.state.isWaiting) = true then ⟨e.slot, f e⟩ else e : Entry).slot = e.slot
        ∧ (e.slot ≠ k → (if (decide (e.slot = k) && e.state.isWaiting) = true then ⟨e.slot, f e⟩ else e : Entry) = e) := by
    intro f e
    refine ⟨by split <;> rfl, fun other => if_neg ?_⟩
    rw [decide_eq_false other, Bool.false_and]
    exact Bool.false_ne_true
  obtain ⟨requests, pool, winds, denies⟩ := h
  refine ⟨requests, pool, fun j => (Classical.em _).elim
    (fun available => ⟨_, (winds available).2 j, written _⟩)
    fun unavailable => ⟨_, (denies unavailable).2 j, written _⟩⟩

theorem endOfWait_taken : EntriesTaken k s (s.endOfWait k) := by
  by_cases waiting : s.hasWaiting k = true
  · by_cases left : 0 < s.remaining k
    · obtain ⟨r, rules⟩ := rules_of_left left
      rw [endOfWait_of_left waiting left]
      exact (reeval_judgesAnew left).entriesTaken rules
    · rw [endOfWait_of_spent waiting (Nat.eq_zero_of_not_pos left)]
      exact (windDownOrDeny_waiting s k).entriesTaken
  · rw [endOfWait_of_none s k (Bool.eq_false_of_not_eq_true waiting)]
    exact .refl s k

/-- The other profiles wait as they did. -/
theorem EntriesTaken.hasWaiting {s t : State} {k : Fin 16} (h : EntriesTaken k s t) {k' : Fin 16} (ne : k' ≠ k) :
    t.hasWaiting k' = s.hasWaiting k' := by
  rw [Bool.eq_iff_iff, hasWaiting_iff, hasWaiting_iff]
  refine exists_congr fun j => ?_
  obtain ⟨f, entries, writes⟩ := h.entries j
  have same : ∀ e : Entry, (decide ((f e).slot = k') && (f e).state.isWaiting)
      = (decide (e.slot = k') && e.state.isWaiting) := by
    intro e
    obtain ⟨slot, others⟩ := writes e
    by_cases own : e.slot = k'
    · rw [others fun taken => ne (own.symm.trans taken)]
    · rw [slot, decide_eq_false own, Bool.false_and, Bool.false_and]
  rw [entries]
  constructor
  · rintro ⟨e', mem, waits⟩
    obtain ⟨e, held, rfl⟩ := List.mem_map.mp mem
    exact ⟨e, held, (same e).symm.trans waits⟩
  · rintro ⟨e, mem, waits⟩
    exact ⟨f e, List.mem_map_of_mem mem, (same e).trans waits⟩

end

end Sys2Proof.Machine
end

section
/-! PROOFS. The timeout check (R131) and the end of a wait (R105, R110), and O29. -/

namespace Sys2Proof.Machine

/-! ## The end of an event with the pool empty -/

/-- With the pool empty the end of an event draws nothing (R128). -/
theorem settled_of_empty {s : State} (before : State) (offered : Bool) (empty : s.pool.remaining = 0) :
    s.settled before offered = State.noteSeats before s.releaseWaits := by
  have released : s.releaseWaits.pool.remaining = 0 := empty
  have noDraws : s.releaseWaits.opportunity = (s.releaseWaits, 0) := by
    unfold State.opportunity
    rw [released]
    rfl
  unfold State.settled State.settle State.settleWaits; dsimp only
  rw [noDraws, ite_self]

theorem settled_requests_of_empty {s : State} (before : State) (offered : Bool) (empty : s.pool.remaining = 0) :
    (s.settled before offered).requests = s.requests.filter fun r => s.hasWaiting r.slot := by
  rw [settled_of_empty before offered empty, noteSeats_eq]
  rfl

/-! ## The timeout check -/

section
variable (s : State)

/-- The requests that have waited 60 seconds. -/
def State.lateRequests : List Request := s.requests.filter (timedOut s.clock.counter)

/-- The part once the late requests have left the queue. -/
def State.withoutLate : State := { s with
  requests := s.requests.filter fun r => !timedOut s.clock.counter r
  due := { s.due with timeout := false } }

/-- The part once their profiles have been handed the ends of their waits. -/
def State.waitsEnded : State := s.lateRequests.foldl (fun t r => t.endOfWait r.slot) s.withoutLate

theorem timeoutCheck_eq : s.timeoutCheck = s.waitsEnded.settled s (s.requests.any (timedOut s.clock.counter)) := by
  have offered : (!s.lateRequests.isEmpty) = s.requests.any (timedOut s.clock.counter) := by
    rw [Bool.eq_iff_iff, Bool.not_eq_true', List.isEmpty_eq_false_iff, List.any_eq_true, State.lateRequests]
    simp
  rw [← offered]
  rfl

/-- The check only evaluates, waits and draws, once the late requests have left. -/
theorem timeoutCheck_work : DrawWork s.withoutLate s.timeoutCheck := by
  rw [timeoutCheck_eq]
  exact (DrawWork.foldl (fun t (r : Request) => .endOfWait t r.slot) _ _).trans (.settled ..)

/-- No request is late after the check: one that is left has not waited 60 seconds, and one that joined did so now
(R131). -/
theorem timeoutCheck_inTime : ∀ r ∈ s.timeoutCheck.requests, s.clock.counter < r.arrival + 60 := by
  intro r mem
  rcases (timeoutCheck_work s).joined r mem with stays | joins
  · have inTime := (List.mem_filter.mp stays).2
    simp only [timedOut, Bool.not_eq_true', decide_eq_false_iff_not] at inTime
    exact Nat.not_le.mp inTime
  · have now : r.arrival = s.clock.counter := congrArg Request.arrival joins
    omega

/-- The ends of waits leave the queue and the pool, and every profile that is not among them waits as it did. -/
theorem endOfWaits_taken (l : List Request) (s : State) :
    let t := l.foldl (fun t r => t.endOfWait r.slot) s
    t.requests = s.requests ∧ t.pool = s.pool
      ∧ ∀ k : Fin 16, (∀ r ∈ l, r.slot ≠ k) → t.hasWaiting k = s.hasWaiting k := by
  induction l generalizing s with
  | nil => exact ⟨rfl, rfl, fun _ _ => rfl⟩
  | cons r l ih =>
    have taken := endOfWait_taken s r.slot
    obtain ⟨requests, pool, waits⟩ := ih (s.endOfWait r.slot)
    refine ⟨requests.trans taken.requests, pool.trans taken.pool, fun k others => ?_⟩
    rw [List.forall_mem_cons] at others
    exact (waits k others.2).trans (taken.hasWaiting (Ne.symm others.1))

/-- With the pool empty and every request's profile waiting, the requests that are not late stay in their order. -/
theorem timeoutCheck_requests (empty : s.pool.remaining = 0) (distinct : (s.requests.map (·.slot)).Nodup)
    (waiting : ∀ r ∈ s.requests, s.hasWaiting r.slot = true) :
    s.timeoutCheck.requests = s.requests.filter fun r => !timedOut s.clock.counter r := by
  obtain ⟨requests, pool, waits⟩ := endOfWaits_taken s.lateRequests s.withoutLate
  have ended : s.waitsEnded.pool.remaining = 0 := (congrArg Pool.remaining pool).trans empty
  rw [timeoutCheck_eq, settled_requests_of_empty s _ ended]
  refine (List.filter_eq_self.mpr fun r mem => ?_).trans requests
  rw [State.waitsEnded, requests] at mem
  obtain ⟨queued, inTime⟩ := List.mem_filter.mp mem
  refine (waits r.slot fun late mem same => ?_).trans (waiting r queued)
  obtain ⟨queued', isLate⟩ := List.mem_filter.mp mem
  rw [List.inj_on_of_nodup_map distinct queued' queued same] at isLate
  rw [isLate] at inTime
  cases inTime

end

theorem exec_poolWaitTimeout {s : State} (awake : s.Awake) :
    exec .poolWaitTimeout s = .next (takePoolWaitTimeout s).drivePins := congrArg _ (taken_awake awake _ _)

/-- Settles O29: the late requests leave first, the ends of their waits raise no request but at this second, and the end
of one wait is a re-evaluation with time left and the end of the profile's time without. -/
theorem waitsTimeOut : Obligations.WaitsTimeOut := by
  unfold Obligations.WaitsTimeOut
  refine ⟨fun s awake => ⟨fun due => ⟨s.timeoutCheck, ?_, (timeoutCheck_work s).work, timeoutCheck_inTime s,
    timeoutCheck_requests s, timeoutCheck_eq s⟩, fun idle => ?_⟩, fun s k => ?_⟩
  · rw [exec_poolWaitTimeout awake, takePoolWaitTimeout, if_pos due]
  · rw [exec_poolWaitTimeout awake, takePoolWaitTimeout, if_neg (by rw [idle]; exact Bool.false_ne_true)]
  · dsimp only
    rw [← hasWaiting_iff]
    refine ⟨fun none => endOfWait_of_none s k (Bool.eq_false_of_not_eq_true none), fun waiting left => ?_,
      fun waiting spent => ?_⟩
    · rw [endOfWait_of_left waiting left]
      exact reeval_judgesAnew left
    · rw [endOfWait_of_spent waiting spent]
      exact windDownOrDeny_waiting s k

end Sys2Proof.Machine
end

section
/-! PROOFS. The winner of a draw (R127, R129), grant opportunities (R126, R128), what a draw brings (R108, R109), and
O30. -/

namespace Sys2Proof.Machine

/-! ## The winner -/

theorem find?_tier_eq_none_iff (q : List Request) (t : Nat) :
    q.find? (fun x => decide (x.tier = t)) = none ↔ ∀ x ∈ q, x.tier ≠ t := by
  simp

/-- The winner is the oldest request of the first tier of the order that has one (R129). -/
theorem winner?_eq_some {order : List Nat} {q : List Request} {r : Request} (won : winner? order q = some r) :
    ∃ ahead behind, order = ahead ++ r.tier :: behind ∧ (∀ x ∈ q, x.tier ∉ ahead)
      ∧ q.find? (fun x : Request => x.tier = r.tier) = some r := by
  obtain ⟨ahead, t, behind, split, found, first⟩ := List.findSome?_eq_some_iff.mp won
  have tier : r.tier = t := of_decide_eq_true (List.find?_some (p := fun x : Request => decide (x.tier = t)) found)
  subst tier
  refine ⟨ahead, behind, split, fun x mem listed => ?_, found⟩
  exact (find?_tier_eq_none_iff q _).mp (first x.tier listed) x mem rfl

theorem winner?_eq_none {order : List Nat} {q : List Request} (none : winner? order q = none) :
    ∀ x ∈ q, x.tier ∉ order := fun x mem listed =>
  (find?_tier_eq_none_iff q _).mp (List.findSome?_eq_none_iff.mp none x.tier listed) x mem rfl

/-! ## Grant opportunities -/

/-- The order ranks every tier that a request can have (R127). -/
structure State.RanksAll (s : State) : Prop where
  order : ∀ t ≤ 3, t ∈ s.settings.tierOrder
  requests : ∀ x ∈ s.requests, x.tier ≤ 3
  tiers : ∀ k r t, s.rules? k = some r → r.tier = some t → t ≤ 3

theorem State.RanksAll.tierOf_le {s : State} (h : s.RanksAll) (k : Fin 16) : s.tierOf k ≤ 3 := by
  unfold State.tierOf
  cases rules : s.rules? k with
  | none => exact Nat.zero_le _
  | some r =>
    rw [Option.bind_some]
    cases tier : r.tier with
    | none => exact Nat.zero_le _
    | some t => exact h.tiers k r t rules tier

theorem rules?_of_slots {s t : State} (h : t.slots = s.slots) (k : Fin 16) : t.rules? k = s.rules? k := by
  unfold State.rules? State.profile?
  rw [h]

theorem State.RanksAll.drawn {s t : State} (h : s.RanksAll) (work : DrawWork s t) : t.RanksAll where
  order := by rw [work.work.settings]; exact h.order
  requests x mem := by
    rcases work.joined x mem with old | new
    · exact h.requests x old
    · rw [new]; exact h.tierOf_le x.slot
  tiers k := by rw [rules?_of_slots work.work.slots]; exact h.tiers k

/-- A draw from a pool that is not empty takes at least one minute (R129). -/
theorem drawFor_remaining_lt {s : State} (left : s.pool.remaining ≠ 0) (r : Request) :
    (s.drawFor r).pool.remaining < s.pool.remaining := by
  have credited : (s.drawFor r).pool.remaining ≤ (s.paidOut r).pool.remaining :=
    (DrawWork.creditDraw (s.paidOut r) r.slot (s.drawOf r.slot)).remaining_le
  have paid : (s.paidOut r).pool.remaining = s.pool.remaining - s.drawOf r.slot := rfl
  have takes : 1 ≤ s.drawOf r.slot := le_min (le_max_left ..) (Nat.pos_of_ne_zero left)
  omega

/-- The draws end only with the pool empty or the queue (R128): P is fuel enough, since each takes a minute. -/
theorem draws_end (fuel : Nat) {s : State} (h : s.RanksAll) (enough : s.pool.remaining ≤ fuel) :
    (State.draws fuel s).1.pool.remaining = 0 ∨ (State.draws fuel s).1.requests = [] := by
  induction fuel generalizing s with
  | zero => exact .inl (Nat.le_zero.mp enough)
  | succ n ih =>
    unfold State.draws
    split
    · next empty => exact .inl empty
    · next left =>
      split
      · next none =>
        refine .inr (List.eq_nil_iff_forall_not_mem.mpr fun x mem => ?_)
        exact winner?_eq_none none x mem (h.order x.tier (h.requests x mem))
      · next r _ =>
        have falls := drawFor_remaining_lt left r
        exact ih (h.drawn (.drawFor s r)) (by omega)

theorem draws_of_none {fuel : Nat} {s : State} (none : (State.draws fuel s).2 = 0) : (State.draws fuel s).1 = s := by
  cases fuel with
  | zero => rfl
  | succ n =>
    unfold State.draws at none ⊢
    split
    · rfl
    · next left =>
      rw [if_neg left] at none
      split
      · rfl
      · next won =>
        rw [won] at none
        cases none

section
variable (s : State)

theorem opportunity_count : s.opportunity.2 = (State.draws s.pool.remaining s).2 := by
  unfold State.opportunity; dsimp only
  split <;> rfl

/-- An opportunity that makes a draw and leaves a request waiting adds POOL_WAITING, and nothing else follows the
draws (R126, R128). -/
theorem opportunity_state : s.opportunity.1 =
    if 0 < s.opportunity.2 ∧ (State.draws s.pool.remaining s).1.requests ≠ [] then
      (State.draws s.pool.remaining s).1.addNotice .poolWaiting
    else (State.draws s.pool.remaining s).1 := by
  rw [opportunity_count]
  unfold State.opportunity; dsimp only
  simp only [Bool.and_eq_true, decide_eq_true_eq, Bool.not_eq_true', List.isEmpty_eq_false_iff]
  split <;> rfl

theorem opportunity_requests : s.opportunity.1.requests = (State.draws s.pool.remaining s).1.requests := by
  rw [opportunity_state]
  split <;> rfl

theorem opportunity_pool : s.opportunity.1.pool = (State.draws s.pool.remaining s).1.pool := by
  rw [opportunity_state]
  split <;> rfl

theorem opportunity_of_none (none : s.opportunity.2 = 0) : s.opportunity.1 = s := by
  rw [opportunity_state, if_neg fun drew => drew.1.ne' none]
  exact draws_of_none ((opportunity_count s).symm.trans none)

theorem opportunity_poolWaiting (drew : 0 < s.opportunity.2) (left : s.opportunity.1.requests ≠ []) :
    s.opportunity.1.hasNotice .poolWaiting = true := by
  rw [opportunity_requests] at left
  rw [opportunity_state, if_pos ⟨drew, left⟩, addNotice_hasNotice, decide_eq_true rfl, Bool.or_true]

theorem settleWaits_eq (before : State) (offered : Bool) : s.settleWaits before offered =
    if offered = true ∨ s.releaseWaits.requests ≠ before.requests then s.releaseWaits.opportunity
    else (s.releaseWaits, 0) := by
  unfold State.settleWaits
  simp only [Bool.or_eq_true, decide_eq_true_eq]

end

/-! ## What a draw brings -/

/-- The end of a profile's time writes no more of a meter record than the wind-down flag (R105). -/
theorem windDownOrDeny_meter (s : State) (k : Fin 16) (sel : Seat → Entry → Bool) (k' : Fin 16) :
    ∃ flag, (s.windDownOrDeny k sel).meters[k'] = { s.meters[k'] with windUsed := flag } := by
  unfold State.windDownOrDeny; dsimp only
  split
  · by_cases own : k = k'
    · subst own
      exact ⟨true, Vector.getElem_set_self ..⟩
    · exact ⟨_, setMeter_of_ne s.meters own _⟩
  · exact ⟨_, rfl⟩

section
variable (s : State) (r : Request)

/-- The part once a draw has reached its profile's meter record, before what follows from its budget (R108). -/
def State.drewFor : State := { s with
  requests := s.requests.filter fun x => x.slot ≠ r.slot
  pool := s.pool.moved (s.drawOf r.slot)
  meters := s.meters.set r.slot { s.meters[r.slot] with
    drawn := s.meters[r.slot].drawn + s.drawOf r.slot, draws := s.meters[r.slot].draws + 1 }
  meterDirty := true }

theorem drewFor_meter : (s.drewFor r).meters[r.slot] = { s.meters[r.slot] with
    drawn := s.meters[r.slot].drawn + s.drawOf r.slot, draws := s.meters[r.slot].draws + 1 } :=
  Vector.getElem_set_self ..

/-- What follows from the budget after a draw (R108, R109). -/
theorem drawFor_follows : s.drawFor r =
    if 0 < (s.drewFor r).remaining r.slot then (s.drewFor r).reeval (ofProfile r.slot)
    else if (s.drewFor r).poolPossible r.slot then (s.drewFor r).raiseRequest r.slot
    else (s.drewFor r).windDownOrDeny r.slot (isWaitingOf r.slot) := rfl

/-- The queue holds no other request of the profile (R125). -/
theorem drewFor_unasked : (s.drewFor r).hasRequest r.slot = false := by
  simp [State.hasRequest, State.drewFor]

/-- What follows leaves the pool as the draw left it, and of the meter records all but the wind-down flag. -/
theorem drawFor_keeps : (s.drawFor r).pool = (s.drewFor r).pool
    ∧ ∀ k : Fin 16, ∃ flag, (s.drawFor r).meters[k] = { (s.drewFor r).meters[k] with windUsed := flag } := by
  rw [drawFor_follows]
  split
  · next left =>
    obtain ⟨-, pool, meters, -⟩ := reeval_judgesAnew left
    exact ⟨pool, fun k => ⟨_, congrArg (·[k]) meters⟩⟩
  · split
    · exact ⟨raiseRequest_pool .., fun k => ⟨_, congrArg (·[k]) (raiseRequest_meters ..)⟩⟩
    · obtain ⟨-, pool, -⟩ := windDownOrDeny_waiting (s.drewFor r) r.slot
      exact ⟨pool, windDownOrDeny_meter _ _ _⟩

/-- The draw's minutes and the draw itself are in its profile's record (R108). -/
theorem drawFor_credits : (s.drawFor r).meters[r.slot].drawn = s.meters[r.slot].drawn + s.drawOf r.slot
    ∧ (s.drawFor r).meters[r.slot].draws = s.meters[r.slot].draws + 1 := by
  obtain ⟨flag, meter⟩ := (drawFor_keeps s r).2 r.slot
  rw [meter, drewFor_meter]
  exact ⟨rfl, rfl⟩

/-- A draw that leaves no time raises a new request while the pool is possible (R109). -/
theorem drawFor_of_possible (spent : (s.drewFor r).remaining r.slot = 0)
    (possible : (s.drewFor r).poolPossible r.slot = true) :
    (s.drawFor r).seats = s.seats
      ∧ (s.drawFor r).requests = (s.drewFor r).requests ++ [(s.drewFor r).requestOf r.slot] := by
  rw [drawFor_follows, if_neg spent.not_gt, if_pos possible, raiseRequest_seats, raiseRequest_requests,
    drewFor_unasked, if_neg Bool.false_ne_true]
  exact ⟨rfl, rfl⟩

end

section
variable {s : State} {r : Request} {rules : Rules} (installed : s.rules? r.slot = some rules)
include installed

/-- The minutes that a draw moves: the lesser of the draw size and P (R129). -/
theorem drawOf_of_rules (atLeast : 1 ≤ rules.drawSize) : s.drawOf r.slot = min rules.drawSize s.pool.remaining := by
  unfold State.drawOf State.drawSizeOf
  rw [installed, Option.map_some, Option.getD_some, max_eq_right atLeast]

/-- What the draw leaves of the profile's time (R99). -/
theorem drewFor_remaining : (s.drewFor r).remaining r.slot =
    (rules.allowances[s.clock.meterWeekday] + s.extra r.slot + (s.meters[r.slot].drawn + s.drawOf r.slot)) * 6000
      - s.meters[r.slot].used := by
  have still : (s.drewFor r).rules? r.slot = some rules := installed
  unfold State.remaining State.budget State.allowance
  rw [still, drewFor_meter]
  rfl

theorem drewFor_poolPossible : (s.drewFor r).poolPossible r.slot = true ↔
    rules.tier.isSome = true ∧ s.meters[r.slot].draws + 1 < rules.drawsPerDay := by
  have still : (s.drewFor r).rules? r.slot = some rules := installed
  unfold State.poolPossible
  rw [still, drewFor_meter, Bool.and_eq_true, decide_eq_true_eq]

theorem drewFor_requestOf : (s.drewFor r).requestOf r.slot = ⟨r.slot, rules.tier.getD 0, s.clock.counter⟩ := by
  have still : (s.drewFor r).rules? r.slot = some rules := installed
  unfold State.requestOf State.tierOf
  rw [still]
  rfl

end

/-- Settles O30: the first tier found decides the winner, each draw takes a minute at least, so that draws end with the
pool or the queue, and what follows a draw is read from the state that it has credited. -/
theorem drawsGoToTheRankedWinner : Obligations.DrawsGoToTheRankedWinner := by
  unfold Obligations.DrawsGoToTheRankedWinner
  refine ⟨fun order q r => winner?_eq_some, fun order q => winner?_eq_none, fun s order requests tiers => ?_,
    settleWaits_eq, fun s r rules installed atLeast => ?_⟩
  · have ranks : s.RanksAll := ⟨order, requests, tiers⟩
    refine ⟨.opportunity s, ?_, (Drawn.opportunity s).draws, opportunity_of_none s, opportunity_poolWaiting s⟩
    rw [opportunity_pool, opportunity_requests]
    exact draws_end _ ranks le_rfl
  · dsimp only
    rw [← drawOf_of_rules installed atLeast]
    obtain ⟨pool, -⟩ := drawFor_keeps s r
    obtain ⟨drawn, draws⟩ := drawFor_credits s r
    refine ⟨pool, drawn, draws, (UsedKept.drawFor s r).1, fun left => ?_, fun spent possible => ?_,
      fun spent impossible => ?_⟩
    · rw [← drewFor_remaining installed] at left
      rw [drawFor_follows, if_pos left]
      exact reeval_judgesAnew left
    · rw [← drewFor_remaining installed] at spent
      rw [← drewFor_requestOf installed]
      exact drawFor_of_possible s r spent ((drewFor_poolPossible installed).mpr possible)
    · rw [← drewFor_remaining installed] at spent
      rw [drawFor_follows, if_neg spent.not_gt, if_neg fun still => impossible ((drewFor_poolPossible installed).mp still)]
      exact windDownOrDeny_waiting (s.drewFor r) r.slot

end Sys2Proof.Machine
end

section
/-! PROOFS. The reads of the pool, the grants, the settings and the store (R136, R145, R178, R186), and O34. -/

namespace Sys2Proof.Machine

/-- Now is sent as 0 while the clock is UNSET (R145). -/
theorem nowPayload_eq (s : State) : s.nowPayload = flagByte s.clock.isSet
    ++ be2 (if s.clock.isSet then s.clock.day else 0) ++ be2 (if s.clock.isSet then s.clock.second / 60 else 0) := by
  unfold State.nowPayload
  cases s.clock.isSet <;> rfl

theorem hread_eq (s : State) : hread (.fields ()) s = (s, ok (flagByte s.settings.pin.isSome ++ s.settings.payload
    ++ s.countdownPayload s.authority.window ++ be1 s.authority.failures
    ++ s.countdownPayload s.authority.lockout ++ be4 s.clock.counter ++ flagByte s.edit.isSome)) := rfl

section
variable (s : State) {b : Byte}

theorem gread_of_bad (out : 15 < b.toNat) (one : b ≠ 0xFF) : gread (.fields b) s = (s, refuse .badArgument) := by
  rw [gread, withFields_fields, if_pos (Bool.and_eq_true_iff.mpr ⟨decide_eq_true one, decide_eq_true out⟩)]

theorem gread_of_selector (names : b.toNat ≤ 15 ∨ b = 0xFF) : gread (.fields b) s = (s, ok
    (s.nowPayload ++ be2 s.clock.meterDay ++ be1 (s.selected b).length ++ (s.selected b).flatMap s.grantPayload)) := by
  rw [gread, withFields_fields, if_neg]
  rw [Bool.and_eq_true, decide_eq_true_eq, decide_eq_true_eq]
  rintro ⟨one, out⟩
  exact names.elim out.not_ge one

end

/-- Settles O34: each read answers its payload of the working copy as it stands. -/
theorem blockReadsAnswer : Obligations.BlockReadsAnswer := by
  unfold Obligations.BlockReadsAnswer
  refine ⟨fun s h => exec_of_owner h rfl rfl,
    fun s b h => ⟨fun out one => exec_of_owner h rfl (gread_of_bad s out one), fun names => ?_⟩,
    fun s h => ?_, fun s h => ?_⟩
  · rw [← nowPayload_eq]
    exact exec_of_owner h rfl (gread_of_selector s names)
  · rw [exec_of_owner h rfl (hread_eq s)]
    simp only [Settings.payload, List.append_assoc]
  · exact exec_of_owner h rfl rfl

end Sys2Proof.Machine
end

section
/-! SUPPORT. What the fields of a **gadd** give, and which entry of the grant table it names (R137 to R140). -/

namespace Sys2Proof.Machine

/-! ## The fields -/

/-- There is no such kind, or a field of the kind is out of range (R137, R139). -/
def GaddUnfit (a : GaddArgs) : Prop :=
  a.kind = 0 ∨ 3 < a.kind.toNat
    ∨ (a.kind = 1 ∧ (a.content = 0 ∨ 1 < a.metered.toNat ∨ 1439 < a.expiryMinute.toNat))
    ∨ (a.kind = 2 ∧ (a.minutes.toNat < 1 ∨ 720 < a.minutes.toNat)) ∨ (a.kind = 3 ∧ 1439 < a.expiryMinute.toNat)

/-- The moment that the expiry fields name. -/
def gaddExpiry (a : GaddArgs) : Moment := ⟨a.expiryDay.toNat, a.expiryMinute.toNat⟩

section
variable {a : GaddArgs} (day : Nat)

theorem grantBody?_titlePermit (kind : a.kind = 1) : grantBody? a day =
    if a.content ≠ 0 ∧ a.metered.toNat ≤ 1 ∧ a.expiryMinute.toNat ≤ 1439 then
      some (.titlePermit a.content (a.metered = 1) (gaddExpiry a)) else none := by
  unfold grantBody? gaddExpiry
  simp only [kind, if_true, Bool.and_eq_true, decide_eq_true_eq, and_assoc]

theorem grantBody?_extraTime (kind : a.kind = 2) : grantBody? a day =
    if 1 ≤ a.minutes.toNat ∧ a.minutes.toNat ≤ 720 then some (.extraTime a.minutes.toNat day) else none := by
  unfold grantBody?
  simp [kind]

theorem grantBody?_windowWaiver (kind : a.kind = 3) : grantBody? a day =
    if a.expiryMinute.toNat ≤ 1439 then some (.windowWaiver (gaddExpiry a)) else none := by
  unfold grantBody? gaddExpiry
  simp [kind]

/-- A **gadd** names one of the three kinds, or one that there is not (R137). -/
theorem gaddKind_cases (a : GaddArgs) :
    a.kind = 1 ∨ a.kind = 2 ∨ a.kind = 3 ∨ (a.kind = 0 ∨ 3 < a.kind.toNat) := by
  have eq_iff : ∀ n : Nat, n < 256 → (a.kind.toNat = n ↔ a.kind = BitVec.ofNat 8 n) := fun n small => by
    rw [BitVec.toNat_eq, BitVec.toNat_ofNat, Nat.mod_eq_of_lt small]
  have zero := eq_iff 0 (by omega)
  have one := eq_iff 1 (by omega)
  have two := eq_iff 2 (by omega)
  have three := eq_iff 3 (by omega)
  rw [show a.kind = 0 ↔ a.kind.toNat = 0 from zero.symm, show a.kind = 1 ↔ a.kind.toNat = 1 from one.symm,
    show a.kind = 2 ↔ a.kind.toNat = 2 from two.symm, show a.kind = 3 ↔ a.kind.toNat = 3 from three.symm]
  omega

theorem grantBody?_unknown (kind : a.kind = 0 ∨ 3 < a.kind.toNat) : grantBody? a day = none := by
  have others : a.kind ≠ 1 ∧ a.kind ≠ 2 ∧ a.kind ≠ 3 := by
    refine ⟨?_, ?_, ?_⟩ <;> intro known <;> rw [known] at kind <;> revert kind <;> decide
  unfold grantBody?
  simp only [others, if_false]

/-- What the fields give, kind by kind (R137). -/
theorem grantBody?_eq_some_iff {b : GrantBody} : grantBody? a day = some b ↔
    (a.kind = 1 ∧ (a.content ≠ 0 ∧ a.metered.toNat ≤ 1 ∧ a.expiryMinute.toNat ≤ 1439)
        ∧ b = .titlePermit a.content (a.metered = 1) (gaddExpiry a))
      ∨ (a.kind = 2 ∧ (1 ≤ a.minutes.toNat ∧ a.minutes.toNat ≤ 720) ∧ b = .extraTime a.minutes.toNat day)
      ∨ (a.kind = 3 ∧ a.expiryMinute.toNat ≤ 1439 ∧ b = .windowWaiver (gaddExpiry a)) := by
  rcases gaddKind_cases a with kind | kind | kind | kind
  · rw [grantBody?_titlePermit day kind, Option.ite_none_right_eq_some]
    simp [kind, @eq_comm _ b]
  · rw [grantBody?_extraTime day kind, Option.ite_none_right_eq_some]
    simp [kind, @eq_comm _ b]
  · rw [grantBody?_windowWaiver day kind, Option.ite_none_right_eq_some]
    simp [kind, @eq_comm _ b]
  · rw [grantBody?_unknown day kind]
    refine iff_of_false nofun ?_
    rintro (⟨known, -⟩ | ⟨known, -⟩ | ⟨known, -⟩) <;> rw [known] at kind <;> revert kind <;> decide

/-- Nothing is given exactly where a field does not fit (R139). -/
theorem grantBody?_eq_none_iff : grantBody? a day = none ↔ GaddUnfit a := by
  unfold GaddUnfit
  rcases gaddKind_cases a with kind | kind | kind | kind
  · rw [grantBody?_titlePermit day kind, kind]
    grind
  · rw [grantBody?_extraTime day kind, kind]
    grind
  · rw [grantBody?_windowWaiver day kind, kind]
    grind
  · exact iff_of_true (grantBody?_unknown day kind) (or_assoc.mp (.inl kind))

end

/-- The fields of every kind but extra time give an expiry (R137). -/
theorem expiry_of_grantBody? {a : GaddArgs} {day : Nat} {b : GrantBody} (given : grantBody? a day = some b) :
    b.expiry? = if a.kind = 2 then none else some (gaddExpiry a) := by
  rcases (grantBody?_eq_some_iff day).mp given with ⟨kind, -, rfl⟩ | ⟨kind, -, rfl⟩ | ⟨kind, -, rfl⟩ <;> rw [kind] <;> rfl

/-- An expiry is admitted after now and at most seven days ahead (R139). -/
theorem admitted_eq_false_iff (s : State) (e : Moment) : e.admitted s.now = false ↔
    e.day < s.clock.day ∨ (e.day = s.clock.day ∧ e.minute ≤ s.clock.second / 60) ∨ s.clock.day + 7 < e.day := by
  unfold Moment.admitted Moment.reached
  rw [Bool.and_eq_false_iff, Bool.not_eq_false', Bool.or_eq_true, Bool.and_eq_true, decide_eq_true_eq,
    decide_eq_true_eq, decide_eq_true_eq, decide_eq_false_iff_not, not_le, or_assoc]
  rfl

/-- Such an expiry passes the check (R139). -/
theorem admitted_of_ahead {s : State} {e : Moment} (ahead : e.day ≤ s.clock.day + 7)
    (later : s.clock.day < e.day ∨ (s.clock.day = e.day ∧ s.clock.second / 60 < e.minute)) :
    e.admitted s.now = true := by
  refine Bool.of_not_eq_false fun refused => ?_
  rw [admitted_eq_false_iff] at refused
  omega

/-! ## The entries -/

/-- The entry holds no grant of this profile, kind and content id (R138). -/
def State.NoMatch (s : State) (k : Fin 16) (b : GrantBody) (e : Fin 16) : Prop :=
  ∀ g ∈ s.grants[e], ¬ (g.slot = k ∧ g.body.sameKey b = true)

section
variable (s : State) (k : Fin 16) (b : GrantBody) {e : Fin 16}

theorem noMatch_iff : (s.grants[e].any fun g => g.slot = k && g.body.sameKey b) = false ↔ s.NoMatch k b e := by
  unfold State.NoMatch
  cases s.grants[e] with
  | none => exact iff_of_true rfl nofun
  | some g => simp

/-- The entry that a **gadd** must change is the lowest that matches (R140). -/
theorem matching?_eq_some_iff : s.matching? k b = some e ↔
    (∃ g, s.grants[e] = some g ∧ g.slot = k ∧ g.body.sameKey b = true) ∧ ∀ e' < e, s.NoMatch k b e' := by
  unfold State.matching?
  rw [← Fin.find?_eq_find?_finRange, Fin.find?_eq_some_iff]
  refine and_congr ?_ (forall₂_congr fun e' _ => noMatch_iff s k b)
  rw [Option.any_eq_true]
  simp only [Bool.and_eq_true, decide_eq_true_eq]

theorem matching?_eq_none_iff : s.matching? k b = none ↔ ∀ e, s.NoMatch k b e := by
  unfold State.matching?
  rw [← Fin.find?_eq_find?_finRange, Fin.find?_eq_none_iff]
  exact forall_congr' fun e => noMatch_iff s k b

/-- A new grant takes the lowest entry that is free (R138). -/
theorem freeEntry?_eq_some_iff : s.freeEntry? = some e ↔
    s.grants[e] = none ∧ ∀ e' < e, s.grants[e'].isSome = true := by
  unfold State.freeEntry?
  rw [← Fin.find?_eq_find?_finRange, Fin.find?_eq_some_iff, Option.isNone_iff_eq_none]
  simp only [Option.isNone_eq_false_iff]

theorem freeEntry?_eq_none_iff : s.freeEntry? = none ↔ ∀ e : Fin 16, s.grants[e].isSome = true := by
  unfold State.freeEntry?
  rw [← Fin.find?_eq_find?_finRange, Fin.find?_eq_none_iff]
  simp only [Option.isNone_eq_false_iff]

variable {s k b}

theorem addGrant_of_match {g : Grant} (found : s.matching? k b = some e) (live : s.grants[e] = some g) :
    s.addGrant k b = s.changeGrant e k g.body b := by
  unfold State.addGrant
  simp only [found, live]

theorem addGrant_of_free (fresh : s.matching? k b = none) (free : s.freeEntry? = some e) :
    s.addGrant k b = s.createGrant e k b := by
  unfold State.addGrant
  simp only [fresh, free]

theorem addGrant_of_full (fresh : s.matching? k b = none) (full : s.freeEntry? = none) :
    s.addGrant k b = (s, refuse .full) := by
  unfold State.addGrant
  simp only [fresh, full]

end

end Sys2Proof.Machine
end

section
/-! PROOFS. The checks of a **gadd** (R139), what it puts in the grant table (R140 to R142), and O31. -/

namespace Sys2Proof.Machine

/-! ## The grant is put -/

section
variable (s : State) (i k : Fin 16) (b : GrantBody)

/-- The part with the grant in its entry and the grant table's block in the commit queue. -/
def State.granted : State := { s with
  grants := s.grants.set i (some ⟨k, b⟩), store := { s.store with queue := s.queueWith [grantBlock] } }

theorem putGrant_eq : s.putGrant i k b = ((s.granted i k b).reeval (ofProfile k)).settled s false := by
  unfold State.putGrant; dsimp only
  rw [State.commit_queueWith]; rfl

theorem putGrant_work : SeatWork (s.granted i k b) (s.putGrant i k b) := by
  rw [putGrant_eq]
  exact (SeatWork.reeval ..).trans (.settled ..)

/-- The profile's entries are judged under the new table (R142). -/
theorem putGrant_rejudges :
    Rejudges s (s.granted i k b) (s.putGrant i k b) true fun _ e => decide (e.slot = k) := by
  rw [putGrant_eq]
  exact rejudges_reeval s (s.granted i k b) (ofProfile k) false rfl

/-- What is left of the part once the command that put the grant is answered. -/
theorem putGrant_replied (instr : Instr) (payload : List Byte) :
    let t := (s.putGrant i k b).replied instr .ok payload
    t.grants = s.grants.set i (some ⟨k, b⟩) ∧ t.store.queue = s.queueWith [grantBlock]
      ∧ CommandWork (s.granted i k b) t ∧ Rejudges s (s.granted i k b) t true fun _ e => decide (e.slot = k) := by
  have work := putGrant_work s i k b
  have grants : (s.putGrant i k b).grants = s.grants.set i (some ⟨k, b⟩) := by rw [work]; rfl
  exact ⟨grants, congrArg Store.queue work.store, work.replied .., Rejudges.replied (putGrant_rejudges s i k b) _ _ _⟩

end

/-! ## An entry is changed -/

/-- Extra time below 720 minutes takes what is added, up to 720, and keeps its meter day (R141). -/
theorem changeGrant_of_extra (s : State) (i k : Fin 16) {m d m' d' : Nat} (room : m < 720) (added : 1 ≤ m') :
    s.changeGrant i k (.extraTime m d) (.extraTime m' d') =
      (s.putGrant i k (.extraTime (min 720 (m + m')) d),
        ok (be1 i.val ++ flagByte false ++ be1 (s.countEntries (ofProfile k))
          ++ be2 (min 720 (m + m') - m) ++ be2 (min 720 (m + m')))) := by
  have credited : min 720 (m + m') - m ≠ 0 := by omega
  simp [State.changeGrant, GrantBody.changedBy, GrantBody.minutes, GrantBody.isExtra, GrantBody.replyFields,
    GrantBody.expiry?, credited]

/-- Extra time of 720 minutes takes no more, and nothing changes (R141). -/
theorem changeGrant_of_most (s : State) (i k : Fin 16) (d m' d' : Nat) :
    s.changeGrant i k (.extraTime 720 d) (.extraTime m' d') =
      (s, ok (be1 i.val ++ flagByte false ++ be1 0 ++ be2 0 ++ be2 720)) := by
  simp [State.changeGrant, GrantBody.changedBy, GrantBody.minutes, GrantBody.isExtra, GrantBody.replyFields,
    GrantBody.expiry?]

theorem minutes_of_not_extra {b : GrantBody} (other : b.isExtra = false) : b.minutes = 0 := by
  cases b with
  | extraTime => cases other
  | titlePermit | windowWaiver => rfl

theorem changedBy_of_not_extra (old : GrantBody) {new : GrantBody} (other : new.isExtra = false) :
    old.changedBy new = new := by
  cases new with
  | extraTime => cases other
  | titlePermit | windowWaiver => cases old <;> rfl

/-- A title permit and a waiver take the new fields (R141). -/
theorem changeGrant_of_not_extra (s : State) (i k : Fin 16) (old : GrantBody) {b : GrantBody}
    (other : b.isExtra = false) : s.changeGrant i k old b = (s.putGrant i k b,
      ok (be1 i.val ++ flagByte false ++ be1 (s.countEntries (ofProfile k)) ++ b.replyFields 0)) := by
  unfold State.changeGrant
  simp only [changedBy_of_not_extra old other, minutes_of_not_extra other, other, Nat.zero_sub, Bool.false_and,
    Bool.false_eq_true, if_false]

/-! ## gadd -/

section
variable {s : State} {a : GaddArgs} (isOpen : s.authority.window.isSome = true)
include isOpen

theorem gadd_of_bad (bad : 15 < a.slot.toNat ∨ GaddUnfit a) : gadd (.fields a) s = (s, refuse .badArgument) := by
  rw [gadd, guarded_open isOpen, withFields_fields]
  rcases bad with out | unfit
  · rw [inRange_of_le out]
  · rw [(grantBody?_eq_none_iff _).mpr unfit]
    cases inRange 16 a.slot <;> rfl

section
variable {k : Fin 16} {b : GrantBody} (slot : a.slot.toNat = k.val) (given : grantBody? a s.clock.meterDay = some b)
include slot given

theorem gadd_of_unjudged (unjudged : s.rules? k = none) : gadd (.fields a) s = (s, refuse .noSuch) := by
  simp only [gadd, guarded_open isOpen, withFields_fields, inRange_of_eq slot, given, unjudged, Option.isNone_none,
    if_true]

variable (judged : (s.rules? k).isSome = true)
include judged

/-- Past the check of the profile comes that of the expiry, where there is one (R139). -/
theorem gadd_of_judged : gadd (.fields a) s = b.expiry?.elim (s.addGrant k b) fun e =>
    if !s.clock.isSet then (s, refuse .state)
    else if !e.admitted s.now then (s, refuse .badArgument)
    else s.addGrant k b := by
  simp only [gadd, guarded_open isOpen, withFields_fields, inRange_of_eq slot, given,
    Option.isNone_eq_false_iff.mpr judged, Bool.false_eq_true, if_false]
  cases b.expiry? <;> rfl

theorem gadd_of_unset (timed : a.kind ≠ 2) (unset : s.clock.isSet = false) :
    gadd (.fields a) s = (s, refuse .state) := by
  rw [gadd_of_judged isOpen slot given judged, expiry_of_grantBody? given, if_neg timed, unset]; rfl

theorem gadd_of_late (timed : a.kind ≠ 2) (isSet : s.clock.isSet = true)
    (late : (gaddExpiry a).admitted s.now = false) : gadd (.fields a) s = (s, refuse .badArgument) := by
  rw [gadd_of_judged isOpen slot given judged, expiry_of_grantBody? given, if_neg timed]
  simp only [Option.elim_some, isSet, late, Bool.not_true, Bool.not_false, Bool.false_eq_true, if_false, if_true]

end

/-- Within every check the grant that the fields give is added (R139, R140). -/
theorem gadd_of_gives {k : Fin 16} {b : GrantBody} (slot : a.slot.toNat = k.val) (judged : (s.rules? k).isSome = true)
    (gives : GivesGrant s a b) : gadd (.fields a) s = s.addGrant k b := by
  have passed : ∀ {b : GrantBody}, grantBody? a s.clock.meterDay = some b → b.expiry? = some (gaddExpiry a) →
      s.clock.isSet = true → (gaddExpiry a).admitted s.now = true → gadd (.fields a) s = s.addGrant k b := by
    intro b given expiry isSet admitted
    rw [gadd_of_judged isOpen slot given judged, expiry]
    simp only [Option.elim_some, isSet, admitted, Bool.not_true, Bool.false_eq_true, if_false]
  rcases gives with ⟨kind, content, metered, ⟨isSet, minute, ahead, later⟩, rfl⟩ | ⟨kind, least, most, rfl⟩
    | ⟨kind, ⟨isSet, minute, ahead, later⟩, rfl⟩
  · exact passed ((grantBody?_eq_some_iff _).mpr (.inl ⟨kind, ⟨content, metered, minute⟩, rfl⟩)) rfl isSet
      (admitted_of_ahead ahead later)
  · have given := (grantBody?_eq_some_iff s.clock.meterDay).mpr (.inr (.inl ⟨kind, ⟨least, most⟩, rfl⟩))
    exact gadd_of_judged isOpen slot given judged
  · exact passed ((grantBody?_eq_some_iff _).mpr (.inr (.inr ⟨kind, minute, rfl⟩))) rfl isSet
      (admitted_of_ahead ahead later)

end

/-- Extra time that a **gadd** gives is at least one minute (R137). -/
theorem minutes_of_gives {s : State} {a : GaddArgs} {b : GrantBody} (gives : GivesGrant s a b)
    (extra : b.isExtra = true) : ∃ m d, b = .extraTime m d ∧ 1 ≤ m := by
  rcases gives with ⟨-, -, -, -, rfl⟩ | ⟨-, least, -, rfl⟩ | ⟨-, -, rfl⟩
  · cases extra
  · exact ⟨_, _, rfl, least⟩
  · cases extra

/-- Settles O31: the first check that fails refuses, and past them the lowest entry that matches is changed, or else the
lowest free one is taken. -/
theorem gaddPutsTheGrant : Obligations.GaddPutsTheGrant := by
  unfold Obligations.GaddPutsTheGrant
  refine ⟨fun s a h isOpen => ?_, fun s a k b h isOpen slot judged gives => ?_⟩
  · intro i day minute bad late
    refine ⟨fun unfit => exec_of_owner h rfl (gadd_of_bad isOpen unfit), fun k fits slot => ?_⟩
    obtain ⟨b, given⟩ : ∃ b, grantBody? a s.clock.meterDay = some b :=
      Option.ne_none_iff_exists'.mp fun none => fits (.inr ((grantBody?_eq_none_iff _).mp none))
    refine ⟨fun unjudged => exec_of_owner h rfl (gadd_of_unjudged isOpen slot given unjudged),
      fun judged timed unset => exec_of_owner h rfl (gadd_of_unset isOpen slot given judged timed unset),
      fun judged timed isSet isLate => ?_⟩
    exact exec_of_owner h rfl (gadd_of_late isOpen slot given judged timed isSet
      ((admitted_eq_false_iff s (gaddExpiry a)).mpr isLate))
  · have added := gadd_of_gives isOpen slot judged gives
    intro i none? put
    refine ⟨fun e fresh free taken => ?_, fun fresh full => ?_, fun e m d live extra first => ⟨fun room => ?_,
      fun most => ?_⟩, fun e g live own same other first => ?_⟩
    · have owner := added.trans (addGrant_of_free ((matching?_eq_none_iff s k b).mpr fresh)
        ((freeEntry?_eq_some_iff s).mpr ⟨free, taken⟩))
      exact ⟨_, exec_of_owner h rfl owner, putGrant_replied s e k b i _, replied_holds ..⟩
    · exact exec_of_owner h rfl (added.trans (addGrant_of_full ((matching?_eq_none_iff s k b).mpr fresh)
        ((freeEntry?_eq_none_iff s).mpr full)))
    · obtain ⟨m', d', rfl, least⟩ := minutes_of_gives gives extra
      have found := (matching?_eq_some_iff s k _).mpr ⟨⟨_, live, rfl, rfl⟩, first⟩
      have owner := (added.trans (addGrant_of_match found live)).trans (changeGrant_of_extra s e k room least)
      exact ⟨_, exec_of_owner h rfl owner, putGrant_replied s e k _ i _, replied_holds ..⟩
    · obtain ⟨m', d', rfl, least⟩ := minutes_of_gives gives extra
      have found := (matching?_eq_some_iff s k _).mpr ⟨⟨_, live, rfl, rfl⟩, first⟩
      subst most
      exact exec_of_owner h rfl ((added.trans (addGrant_of_match found live)).trans (changeGrant_of_most s e k d m' d'))
    · have found := (matching?_eq_some_iff s k b).mpr ⟨⟨g, live, own, same⟩, first⟩
      have owner := (added.trans (addGrant_of_match found live)).trans (changeGrant_of_not_extra s e k g.body other)
      exact ⟨_, exec_of_owner h rfl owner, putGrant_replied s e k b i _, replied_holds ..⟩

end Sys2Proof.Machine
end

section
/-! PROOFS. The expiry of grants (R146) and the minute boundary (R57, R58, R80, R157), and O33. -/

namespace Sys2Proof.Machine

/-! ## Expiry -/

theorem losesGrant_eq (s : State) (sel : Grant → Bool) (k : Fin 16) :
    s.losesGrant sel k = s.grants.toList.any fun g => g.any fun g => decide (g.slot = k) && sel g := by
  unfold State.losesGrant
  congr 1
  funext g
  cases g <;> rfl

theorem losesGrant_of_losesNone {s : State} {sel : Grant → Bool} (none : s.losesAny sel = false) (k : Fin 16) :
    s.losesGrant sel k = false := by
  rw [losesGrant_eq, List.any_eq_false]
  intro g hg
  have unselected := List.any_eq_false.mp none g hg
  cases g with
  | none => nofun
  | some g =>
    rw [Option.any_some, Bool.and_eq_true]
    exact fun lost => unselected lost.2

/-- An event that judges nothing anew, and the end of it. -/
theorem rejudges_settled {before x : State} (keepWind offered : Bool) (requests : before.requests = x.requests) :
    Rejudges before x (x.settled before offered) keepWind fun _ _ => false := by
  refine Rejudges.of_settled offered requests fun _ _ => ⟨x.seats, rfl, rfl, rfl, rfl, rfl, rfl, fun j => ⟨rfl, ?_⟩⟩
  rw [judgedSeat_entries]
  refine (List.map_id'' (fun e => ?_) _).symm
  split
  · exact if_neg Bool.false_ne_true
  · rfl

/-- Retiring grants goes on to judge the profiles that lost one. -/
theorem expireGrants_of_loses {s : State} {now : Moment} (loses : s.losesAny (expiredAt now) = true) :
    s.expireGrants now = (s.retiring (expiredAt now)).reeval fun e => s.losesGrant (expiredAt now) e.slot := by
  rw [State.expireGrants, if_pos loses, State.retiring, if_pos loses]

theorem expireGrants_of_losesNone {s : State} {now : Moment} (none : s.losesAny (expiredAt now) = false) :
    s.expireGrants now = s.retiring (expiredAt now) := by
  have kept : ¬ s.losesAny (expiredAt now) = true := ne_true_of_eq_false none
  rw [State.expireGrants, if_neg kept, State.retiring, if_neg kept]

/-- The grant table with its comparison taken. -/
def State.compared (s : State) : State := { s with due.expiry := none }

section
variable (s : State) (now : Moment)

/-- The table once the comparison is taken and the grants that the moment reaches are retired (R146). -/
def State.expired : State := s.compared.retiring (expiredAt now)

theorem expired_grants (e : Fin 16) : (s.expired now).grants[e] = s.grants[e].filter fun g => !expiredAt now g :=
  retiring_grants ..

theorem expired_queue : (s.expired now).store.queue =
    if s.losesAny (expiredAt now) then s.queueWith [grantBlock] else s.store.queue := retiring_queue ..

theorem expired_eq : s.expired now = { s with
    due := { s.due with expiry := none }, grants := (s.expired now).grants
    store := { s.store with queue := (s.expired now).store.queue } } := retiring_eq ..

end

section
variable {s : State} {now : Moment} (due : s.due.expiry = some now)
include due

theorem takeGrantExpiry_eq : takeGrantExpiry s = (s.compared.expireGrants now).settled s false := by
  simp only [takeGrantExpiry, due]; rfl

theorem takeGrantExpiry_work : SeatWork (s.expired now) (takeGrantExpiry s) := by
  rw [takeGrantExpiry_eq due]
  cases loses : s.compared.losesAny (expiredAt now) with
  | true => rw [expireGrants_of_loses loses]; exact (SeatWork.reeval ..).trans (.settled ..)
  | false => rw [expireGrants_of_losesNone loses]; exact .settled ..

theorem takeGrantExpiry_rejudges : Rejudges s (s.expired now) (takeGrantExpiry s) true
    fun _ e => s.losesGrant (expiredAt now) e.slot := by
  have requests : s.requests = (s.expired now).requests := by rw [expired_eq]
  rw [takeGrantExpiry_eq due]
  cases loses : s.compared.losesAny (expiredAt now) with
  | true =>
    rw [expireGrants_of_loses loses]
    exact rejudges_reeval s (s.expired now) (fun e => s.losesGrant (expiredAt now) e.slot) false requests
  | false =>
    have noProfile : ∀ k, s.losesGrant (expiredAt now) k = false := losesGrant_of_losesNone (s := s.compared) loses
    rw [expireGrants_of_losesNone loses]
    simp only [noProfile]
    exact rejudges_settled true false requests

end

/-! ## The minute boundary -/

theorem takeMinuteBoundary_of_none {s : State} (none : s.handed = []) : takeMinuteBoundary s = s := by
  simp only [takeMinuteBoundary, none]

theorem takeMinuteBoundary_of_one {s : State} {w : Handed} (one : s.handed = [w]) :
    takeMinuteBoundary s = s.takeHanded w := by
  simp only [takeMinuteBoundary, one]

theorem handed_of_noRollover {s : State} (noRollover : s.due.rollover = []) :
    s.handed = if s.due.minute then [Handed.boundary] else [] := by
  rw [State.handed, noRollover, List.map_nil, List.append_nil]

/-- The state with its minute boundary taken. -/
def State.bounded (s : State) : State := { s with due.minute := false }

/-- At a boundary that raises no pool request every entry is judged anew, and every seat derived from it (R57, R157). -/
theorem takeBoundary_quiet {s : State} (quiet : s.requests = [])
    (asks : ∀ j : Fin 6, s.AsksNone true everyEntry s.seats[j]) : s.takeBoundary =
      State.noteSeats s { s.bounded with seats := s.seats.map (s.judgedSeat true everyEntry) } := by
  have tables : SameTables s.bounded s := ⟨rfl, rfl, rfl, rfl, rfl, rfl⟩
  have judged := reeval_quiet s.bounded everyEntry fun j => .of_tables tables (asks j)
  rw [funext (judgedSeat_of_tables tables true everyEntry)] at judged
  calc s.takeBoundary
    _ = (s.bounded.reeval everyEntry).settled s false := rfl
    _ = _ := congrArg (State.settled · s false) judged
    _ = _ := settled_quiet _ s false quiet quiet

/-- A seat without a programme is not judged; an entry of any other takes its verdict. -/
theorem judgedSeat_of_noProgramme {seat : Seat} (none : seat.programme = none) (s : State) (w : Bool)
    (sel : Entry → Bool) : s.judgedSeat w sel seat = seat := by
  unfold State.judgedSeat; rw [none]

theorem judgedSeat_every {seat : Seat} {p : Programme} (shown : seat.programme = some p) (s : State) :
    (s.judgedSeat true everyEntry seat).entries = seat.entries.map fun e =>
      s.verdictOn p seat.guardianPresent e.state.windEnd? e := by
  rw [judgedSeat_entries, shown]; rfl

/-- Settles O33: what a boundary handed over is what expires, and at a boundary every entry takes its verdict. -/
theorem boundariesExpireAndJudge : Obligations.BoundariesExpireAndJudge := by
  unfold Obligations.BoundariesExpireAndJudge
  refine ⟨fun s now h due => ?_, fun s h none => ?_, fun s h noMinute noRollover => ?_, fun s p g e r judged => ?_,
    fun s h minute noRollover quiet => ?_⟩
  · intro gone
    have gone_eq : gone = expiredAt now := funext fun g => (expiredAt_eq now.day now.minute g).symm
    have work := takeGrantExpiry_work due
    have grants : (takeGrantExpiry s).grants = (s.expired now).grants := by rw [work]
    have queue := congrArg Store.queue work.store
    refine ⟨takeGrantExpiry s, exec_of_effect h rfl, fun i => ?_, ?_, ?_⟩
    · rw [grants, gone_eq, expired_grants]
    · rw [queue, gone_eq, expired_queue]; rfl
    · rw [gone_eq, grants, queue, ← expired_eq]
      simp only [← losesGrant_eq]
      exact ⟨work, takeGrantExpiry_rejudges due⟩
  · rw [exec_of_effect h (effect := takeGrantExpiry) rfl, takeGrantExpiry, none]
  · have none : s.handed = [] := by rw [handed_of_noRollover noRollover, noMinute]; rfl
    rw [exec_of_effect h (effect := takeMinuteBoundary) rfl, takeMinuteBoundary_of_none none]
  · intro v
    rw [judge_of_rules judged]
    refine ⟨rfl, ?_⟩
    have tier : s.requestOf e.slot = ⟨e.slot, r.tier.getD 0, s.clock.counter⟩ := by
      unfold State.requestOf State.tierOf; rw [judged]; rfl
    rw [← tier]
    show (if v.asks then s.raiseRequest e.slot else s).requests = _
    cases v.asks with
    | false => rfl
    | true =>
      rw [if_pos rfl, raiseRequest_requests]
      cases s.hasRequest e.slot <;> rfl
  · intro verdict asks
    have one : s.handed = [.boundary] := by rw [handed_of_noRollover noRollover, minute]; rfl
    have run := takeBoundary_quiet quiet fun j p hp e he _ r hr => asks j p hp e he r hr
    refine ⟨s.takeBoundary, ?_, ?_, ?_, fun j => ?_⟩
    · rw [exec_of_effect h (effect := takeMinuteBoundary) rfl, takeMinuteBoundary_of_one one]; rfl
    · exact (SeatWork.reeval ..).trans (.settled ..)
    · rw [run, noteSeats_eq]; rfl
    · have seat : s.takeBoundary.seats[j] = s.judgedSeat true everyEntry s.seats[j] := by
        rw [run, noteSeats_seats]; exact Vector.getElem_map ..
      rw [seat]
      refine ⟨fun none => judgedSeat_of_noProgramme none .., fun p shown => ⟨?_, ?_⟩⟩
      · rw [judgedSeat_programme, shown]
      · rw [judgedSeat_every shown]; rfl

end Sys2Proof.Machine
end

section
/-! SUPPORT. No transaction and no command takes the link out of LOADING (R198): only the end of the load does (R194). -/

namespace Sys2Proof.Machine

theorem discardHeld_state (s : State) : s.discardHeld.link.state = s.link.state := by
  unfold State.discardHeld
  split <;> rfl

section
variable {s : State} (loading : s.link.state = .loading)
include loading

theorem dispatch_loading (i : Instr) : (State.dispatch i s).link.state = .loading := by
  unfold State.dispatch
  rw [loading]
  exact (discardHeld_state s).trans loading

theorem refuseFrame_loading (status : Status) (code : Byte) : (s.refuseFrame status code).link.state = .loading := by
  unfold State.refuseFrame
  rw [loading]
  exact (discardHeld_state s).trans loading

theorem takeWrite_loading (frame : List Byte) : (takeWrite frame s).link.state = .loading := by
  have listening : ({ s with link.miso := [] } : State).link.state = .loading := loading
  unfold takeWrite; dsimp only
  split
  · exact loading
  · split
    · exact refuseFrame_loading listening ..
    · exact refuseFrame_loading listening ..
    · exact dispatch_loading listening _

theorem delivered_loading : s.delivered.link.state = .loading := by
  unfold State.delivered
  rw [loading]
  exact loading

theorem takeFetch_loading (clocked : Nat) : (takeFetch clocked s).link.state = .loading := by
  unfold takeFetch; dsimp only
  split
  · exact delivered_loading (by exact loading)
  · exact loading

theorem takeBad_loading (selector : Option Byte) : (takeBad selector s).link.state = .loading := by
  unfold takeBad
  split
  · exact loading
  · split
    · exact takeWrite_loading loading []
    · split
      · exact takeFetch_loading loading 0
      · exact loading

end

end Sys2Proof.Machine
end

section
/-! SUPPORT. The law of the tables while no full reset is held, and when a row keeps it (R2, R138, R149, R193). -/

namespace Sys2Proof.Machine

/-! ## The law -/

/-- The tables' laws of a machine that runs, with the days that a new grant takes its own from (R137, R155). -/
structure State.RunningLaw (s : State) : Prop where
  running : s.supply.held = false
  day : s.clock.day ≤ 65535
  meterDay : s.clock.meterDay ≤ 65535
  grants : s.GrantLaw
  extra : s.ExtraLaw
  schemes : s.FactorySchemes

/-- Every live EXTRA_TIME is of the meter day in force, or the part that retires it is outstanding (R149). -/
def State.ExtraCurrent (s : State) : Prop :=
  ∀ (e : Fin 16) (k : Fin 16) (m d : Nat), s.grants[e] = some ⟨k, .extraTime m d⟩ →
    d = s.clock.meterDay ∨ .grants ∈ s.due.rollover

theorem extraTime_past_iff (m d day : Nat) : (GrantBody.extraTime m d).isPastExtra day = false ↔ d = day := by
  simp [GrantBody.isPastExtra]

/-- A table that the grant table's part would leave as it is (R149). -/
theorem extraCurrent_of_inForce {s : State}
    (inForce : ∀ (e : Fin 16) (g : Grant), s.grants[e] = some g → s.outlived g = false) : s.ExtraCurrent :=
  fun e k m d live => .inl ((extraTime_past_iff m d _).mp (inForce e ⟨k, .extraTime m d⟩ live))

/-- No load is running unless the link is LOADING. -/
theorem State.RunningLaw.unloaded {s : State} (law : s.RunningLaw) (other : s.link.state ≠ .loading) :
    s.load = none := by
  obtain ⟨-, loading⟩ := law.extra
  exact Option.not_isSome_iff_eq_none.mp fun busy => other (loading (.inr busy)).1

/-- Once the load has ended the extra time alone is left to say. -/
theorem extraLaw_of_unloaded {s : State} (running : s.supply.held = false) (unloaded : s.load = none)
    (current : s.ExtraCurrent) : s.ExtraLaw := by
  refine ⟨current, ?_⟩
  rw [running, unloaded]
  rintro (held | busy)
  · cases held
  · cases busy

theorem grants_eq_free_iff (s : State) :
    s.grants = Vector.replicate 16 none ↔ ∀ e : Fin 16, s.grants[e] = none := by
  constructor
  · intro free e
    rw [free]; exact Vector.getElem_replicate ..
  · intro none
    ext1 i hi
    exact (none ⟨i, hi⟩).trans (Vector.getElem_replicate hi).symm

/-- A table without grants meets every law of grants. -/
theorem grantLaw_of_free {s : State} (free : s.grants = Vector.replicate 16 none) : s.GrantLaw := by
  have none := (grants_eq_free_iff s).mp free
  refine ⟨fun i _ _ g hg => ?_, fun i g hg => ?_⟩ <;> rw [none i] at hg <;> cases hg

theorem extraCurrent_of_free {s : State} (free : s.grants = Vector.replicate 16 none) : s.ExtraCurrent := by
  refine extraCurrent_of_inForce fun e g live => ?_
  rw [(grants_eq_free_iff s).mp free e] at live
  cases live

/-! ## Rows that at most retire grants -/

/-- What the law speaks of beside the grants and the days. -/
def State.lawFrame (s : State) : Vector SchemeSlot 8 × Option Nat × Bool × LinkState :=
  (s.schemes, s.load, s.supply.held, s.link.state)

/-- The days that extra time is held against, and what waits for the grant table to do so (R149). -/
def State.lawDays (s : State) : Nat × Nat × List RollPart := (s.clock.day, s.clock.meterDay, s.due.rollover)

/-- Grants may be retired and days move, and nothing else that the law speaks of changes. -/
structure Retires (s t : State) : Prop where
  grants : ∀ (e : Fin 16) (g : Grant), t.grants[e] = some g → s.grants[e] = some g
  frame : t.lawFrame = s.lawFrame

/-- Grants may be retired, and nothing else that the law speaks of changes. -/
structure Narrows (s t : State) : Prop extends Retires s t where
  days : t.lawDays = s.lawDays

/-- A filter of the table retires what it does not pass. -/
theorem Retires.of_filter {s t : State} {keep : Grant → Bool}
    (grants : ∀ e : Fin 16, t.grants[e] = s.grants[e].filter keep) (frame : t.lawFrame = s.lawFrame) : Retires s t := by
  refine ⟨fun e g live => ?_, frame⟩
  rw [grants, Option.filter_eq_some_iff] at live
  exact live.1

theorem Retires.of_same {s t : State} (grants : t.grants = s.grants) (frame : t.lawFrame = s.lawFrame) : Retires s t :=
  ⟨fun e g live => by rwa [grants] at live, frame⟩

section
variable {s t : State} (h : Retires s t)
include h

theorem Retires.schemes : t.schemes = s.schemes := congrArg (·.1) h.frame

theorem Retires.load : t.load = s.load := congrArg (·.2.1) h.frame

theorem Retires.held : t.supply.held = s.supply.held := congrArg (·.2.2.1) h.frame

theorem Retires.link : t.link.state = s.link.state := congrArg (·.2.2.2) h.frame

theorem Retires.grantLaw (law : s.GrantLaw) : t.GrantLaw := by
  obtain ⟨distinct, valid⟩ := law
  exact ⟨fun i j ne g hg x hx => distinct i j ne g (h.grants i g hg) x (h.grants j x hx),
    fun i g hg => valid i g (h.grants i g hg)⟩

theorem Retires.free (free : s.grants = Vector.replicate 16 none) : t.grants = Vector.replicate 16 none := by
  rw [grants_eq_free_iff] at free ⊢
  intro e
  refine Option.eq_none_iff_forall_ne_some.mpr fun g live => ?_
  have old := h.grants e g live
  rw [free e] at old
  cases old

/-- Retiring grants keeps the law, where the days stay in range and the extra time left is current. -/
theorem Retires.law (law : s.RunningLaw) (day : t.clock.day ≤ 65535) (meterDay : t.clock.meterDay ≤ 65535)
    (current : s.ExtraCurrent → t.ExtraCurrent) : t.RunningLaw := by
  obtain ⟨wasCurrent, loading⟩ := law.extra
  exact {
    running := h.held.trans law.running
    day := day
    meterDay := meterDay
    grants := h.grantLaw law.grants
    extra := by
      refine ⟨current wasCurrent, fun busy => ?_⟩
      rw [h.held, h.load] at busy
      obtain ⟨isLoading, free⟩ := loading busy
      exact ⟨h.link.trans isLoading, h.free free⟩
    schemes := by
      unfold State.FactorySchemes
      rw [h.schemes]
      exact law.schemes }

end

theorem Narrows.of_same {s t : State} (grants : t.grants = s.grants := by rfl)
    (frame : t.lawFrame = s.lawFrame := by rfl) (days : t.lawDays = s.lawDays := by rfl) : Narrows s t :=
  ⟨.of_same grants frame, days⟩

theorem Narrows.of_filter {s t : State} {keep : Grant → Bool}
    (grants : ∀ e : Fin 16, t.grants[e] = s.grants[e].filter keep) (frame : t.lawFrame = s.lawFrame)
    (days : t.lawDays = s.lawDays) : Narrows s t := ⟨.of_filter grants frame, days⟩

theorem Narrows.refl (s : State) : Narrows s s := .of_same

theorem Narrows.trans {s t u : State} (h : Narrows s t) (h' : Narrows t u) : Narrows s u :=
  { grants := fun e g live => h.grants e g (h'.grants e g live)
    frame := h'.frame.trans h.frame
    days := h'.days.trans h.days }

theorem Narrows.foldl {α : Type} {f : State → α → State} (hf : ∀ s a, Narrows s (f s a)) (l : List α) (s : State) :
    Narrows s (l.foldl f s) := by
  induction l generalizing s with
  | nil => exact .refl s
  | cons a l ih => exact (hf s a).trans (ih _)

theorem Narrows.of_seats {s t : State} (h : SeatWork s t) : Narrows s t :=
  .of_same (by rw [h]) (by rw [h]; rfl) (by rw [h]; rfl)

theorem Narrows.of_store {s t : State} (h : StoreWork s t) : Narrows s t :=
  .of_same (by rw [h]) (by rw [h]; rfl) (by rw [h]; rfl)

/-- A row of the store that no full reset comes of. -/
theorem Narrows.of_row {s t : State} (h : StoreRow s t) (held : t.supply.held = s.supply.held) : Narrows s t := by
  refine .of_same (by rw [h]) ?_ (by rw [h]; rfl)
  unfold State.lawFrame
  rw [held, h]

theorem Narrows.retireGrants (s : State) (sel : Grant → Bool) : Narrows s (s.retireGrants sel) :=
  .of_filter (retireGrants_entry s sel) (by simp [State.lawFrame]) (by simp [State.lawDays])

theorem Narrows.commit (s : State) (b : BlockId) : Narrows s (s.commit b) := .of_store (.commit ..)

/-- A change of other tables and its commit request. -/
theorem Narrows.committed {s t : State} {b : BlockId} (same : Narrows s t := by exact .of_same) :
    Narrows s (t.commit b) := same.trans (.commit ..)

theorem Narrows.settled (s before : State) (offered : Bool) : Narrows s (s.settled before offered) :=
  .of_seats (.settled ..)

theorem Narrows.reeval (s : State) (sel : Entry → Bool) : Narrows s (s.reeval sel) := .of_seats (.reeval ..)

theorem Narrows.closeWindow (s : State) : Narrows s s.closeWindow := by
  unfold State.closeWindow
  split
  · exact .refl s
  · exact .of_same

section
variable {s t : State} (h : Narrows s t)
include h

theorem Narrows.day : t.clock.day = s.clock.day := congrArg (·.1) h.days

theorem Narrows.meterDay : t.clock.meterDay = s.clock.meterDay := congrArg (·.2.1) h.days

theorem Narrows.rollover : t.due.rollover = s.due.rollover := congrArg (·.2.2) h.days

theorem Narrows.law (law : s.RunningLaw) : t.RunningLaw := by
  refine h.toRetires.law law (h.day.trans_le law.day) (h.meterDay.trans_le law.meterDay) fun current e k m d live => ?_
  rw [h.meterDay, h.rollover]
  exact current e k m d (h.grants e _ live)

end

/-! ## What keeps the law -/

/-- The law holds after, if it did before, and no load begins. -/
structure TablesKept (s t : State) : Prop where
  law : s.RunningLaw → t.RunningLaw
  unloaded : s.load = none → t.load = none

theorem TablesKept.of_narrows {s t : State} (h : Narrows s t) : TablesKept s t := ⟨h.law, h.toRetires.load.trans⟩

theorem TablesKept.refl (s : State) : TablesKept s s := ⟨id, id⟩

theorem TablesKept.trans {s t u : State} (h : TablesKept s t) (h' : TablesKept t u) : TablesKept s u :=
  ⟨h'.law ∘ h.law, h'.unloaded ∘ h.unloaded⟩

theorem TablesKept.foldl {α : Type} {f : State → α → State} (hf : ∀ s a, TablesKept s (f s a)) (l : List α)
    (s : State) : TablesKept s (l.foldl f s) := by
  induction l generalizing s with
  | nil => exact .refl s
  | cons a l ih => exact (hf s a).trans (ih _)

/-- The link moves, and leaves LOADING only where no load is running. -/
theorem TablesKept.link (s : State) (l : Link) (loading : s.link.state = .loading → l.state = .loading) :
    TablesKept s { s with link := l } := by
  refine ⟨fun law => ?_, id⟩
  obtain ⟨current, loads⟩ := law.extra
  exact { law with extra := ⟨current, fun busy => ⟨loading (loads busy).1, (loads busy).2⟩⟩ }

theorem TablesKept.of_link {s t : State} (touches : ∃ link, t = { s with link := link })
    (loading : s.link.state = .loading → t.link.state = .loading) : TablesKept s t := by
  obtain ⟨link, rfl⟩ := touches
  exact .link s link loading

/-- An operator slot is written (R6). -/
theorem TablesKept.scheme (s : State) {k : Fin 8} (c : SchemeSlot) (operator : 2 ≤ k.val) :
    TablesKept s { s with schemes := s.schemes.set k c } := by
  refine ⟨fun law => ?_, id⟩
  obtain ⟨direct, band⟩ := law.schemes
  exact { law with schemes := ⟨(Vector.getElem_set_ne (hi := k.isLt) _ (by omega)).trans direct,
    (Vector.getElem_set_ne (hi := k.isLt) _ (by omega)).trans band⟩ }

end Sys2Proof.Machine
end

section
/-! SUPPORT. The law of the tables over every command (R2, R138, R140, R141, R149, R161). -/

namespace Sys2Proof.Machine

/-! ## Keys of grants -/

/-- What two grants of one profile may not share (R138): the kind and the content id. -/
def GrantBody.key : GrantBody → Nat × Word
  | .titlePermit content _ _ => (1, content)
  | .extraTime _ _ => (2, 0)
  | .windowWaiver _ => (3, 0)

theorem sameKey_iff (b b' : GrantBody) : b.sameKey b' = true ↔ b.key = b'.key := by
  cases b <;> cases b' <;> simp [GrantBody.sameKey, GrantBody.key]

theorem clashes_eq_false_iff (g h : Grant) :
    g.clashes h = false ↔ ¬ (g.slot = h.slot ∧ g.body.key = h.body.key) := by
  rw [Grant.clashes, ← sameKey_iff, ← Bool.not_eq_true, Bool.and_eq_true, decide_eq_true_eq]

theorem clashes_comm (g h : Grant) : g.clashes h = h.clashes g := by
  rw [Bool.eq_iff_iff, ← not_iff_not, Bool.not_eq_true, Bool.not_eq_true, clashes_eq_false_iff, clashes_eq_false_iff,
    @eq_comm _ g.slot, @eq_comm _ g.body.key]

theorem changedBy_key (old new : GrantBody) : (old.changedBy new).key = new.key := by
  cases old <;> cases new <;> rfl

/-- An entry that holds no grant of this key (R138). -/
theorem noMatch_iff_key (s : State) (k : Fin 16) (b : GrantBody) (e : Fin 16) :
    s.NoMatch k b e ↔ ∀ g ∈ s.grants[e], ¬ (g.slot = k ∧ g.body.key = b.key) := by
  simp only [State.NoMatch, sameKey_iff]

/-! ## A grant is put -/

section
variable (s : State) (i k : Fin 16) (b : GrantBody)

theorem granted_same : (s.granted i k b).grants[i] = some ⟨k, b⟩ := Vector.getElem_set_self ..

theorem granted_other {e : Fin 16} (other : e ≠ i) : (s.granted i k b).grants[e] = s.grants[e] :=
  Vector.getElem_set_ne (hi := i.isLt) (hj := e.isLt) fun same => other (Fin.ext same.symm)

variable {s i k b}

/-- The table with the grant in its entry, where no other entry holds one of its key. -/
theorem granted_grantLaw (law : s.GrantLaw) (valid : b.valid = true) (distinct : ∀ e ≠ i, s.NoMatch k b e) :
    (s.granted i k b).GrantLaw := by
  obtain ⟨apart, inRange⟩ := law
  have from_new : ∀ e ≠ i, ∀ g ∈ s.grants[e], Grant.clashes ⟨k, b⟩ g = false := by
    intro e other g live
    rw [clashes_comm, clashes_eq_false_iff]
    exact (noMatch_iff_key s k b e).mp (distinct e other) g live
  constructor
  · intro e e' ne g hg x hx
    by_cases here : e = i
    · subst here
      rw [granted_same] at hg
      rw [granted_other s e k b ne.symm] at hx
      cases hg
      exact from_new e' ne.symm x hx
    · rw [granted_other s i k b here] at hg
      by_cases there : e' = i
      · subst there
        rw [granted_same] at hx
        cases hx
        rw [clashes_comm]
        exact from_new e here g hg
      · rw [granted_other s i k b there] at hx
        exact apart e e' ne g hg x hx
  · intro e g hg
    by_cases here : e = i
    · subst here
      rw [granted_same] at hg
      cases hg
      exact valid
    · rw [granted_other s i k b here] at hg
      exact inRange e g hg

/-- Extra time is put with the meter day in force, or with that of the grant that it changes (R140, R141). -/
theorem granted_current (current : s.ExtraCurrent)
    (dayOf : ∀ m d, b = .extraTime m d → d = s.clock.meterDay ∨ .grants ∈ s.due.rollover) :
    (s.granted i k b).ExtraCurrent := by
  intro e k' m d live
  by_cases here : e = i
  · subst here
    rw [granted_same] at live
    cases live
    exact dayOf m d rfl
  · rw [granted_other s i k b here] at live
    exact current e k' m d live

theorem TablesKept.putGrant (unloaded : s.load = none) (valid : s.RunningLaw → b.valid = true)
    (distinct : s.RunningLaw → ∀ e ≠ i, s.NoMatch k b e)
    (dayOf : s.RunningLaw → ∀ m d, b = .extraTime m d → d = s.clock.meterDay ∨ .grants ∈ s.due.rollover) :
    TablesKept s (s.putGrant i k b) := by
  refine TablesKept.trans (t := s.granted i k b) ⟨fun law => ?_, id⟩ (.of_narrows (.of_seats (putGrant_work s i k b)))
  obtain ⟨current, -⟩ := law.extra
  exact {
    running := law.running
    day := law.day
    meterDay := law.meterDay
    grants := granted_grantLaw law.grants (valid law) (distinct law)
    extra := extraLaw_of_unloaded law.running unloaded (granted_current current (dayOf law))
    schemes := law.schemes }

end

/-! ## gadd -/

section
variable {s : State} {a : GaddArgs} {b : GrantBody} (given : grantBody? a s.clock.meterDay = some b)
include given

/-- What the fields give is in the ranges of R137, where the meter day is. -/
theorem grantBody?_valid (meterDay : s.clock.meterDay ≤ 65535) : b.valid = true := by
  have expiryDay : a.expiryDay.toNat ≤ 65535 := Nat.le_of_lt_succ a.expiryDay.isLt
  rcases (grantBody?_eq_some_iff _).mp given with ⟨-, ⟨content, -, minute⟩, rfl⟩ | ⟨-, ⟨least, most⟩, rfl⟩
    | ⟨-, minute, rfl⟩
  · simpa [GrantBody.valid, gaddExpiry, minute, expiryDay] using content
  · simp [GrantBody.valid, least, most, meterDay]
  · simp [GrantBody.valid, gaddExpiry, minute, expiryDay]

/-- Extra time that is given carries the meter day in force (R140). -/
theorem grantBody?_day {m d : Nat} (extra : b = .extraTime m d) : d = s.clock.meterDay := by
  rcases (grantBody?_eq_some_iff _).mp given with ⟨-, -, rfl⟩ | ⟨-, -, rfl⟩ | ⟨-, -, rfl⟩ <;> cases extra
  rfl

end

/-- An addition changes extra time in its minutes, and keeps its meter day (R141). -/
theorem changedBy_valid {old new : GrantBody} (wasValid : old.valid = true) (valid : new.valid = true) :
    (old.changedBy new).valid = true := by
  cases old with
  | titlePermit | windowWaiver => exact valid
  | extraTime m d =>
    cases new with
    | titlePermit | windowWaiver => exact valid
    | extraTime m' d' =>
      simp only [GrantBody.valid, GrantBody.changedBy, Bool.and_eq_true, decide_eq_true_eq] at *
      omega

theorem changedBy_day {old new : GrantBody} {m d : Nat} (extra : old.changedBy new = .extraTime m d) :
    (∃ m', old = .extraTime m' d) ∨ new = .extraTime m d := by
  cases old with
  | titlePermit | windowWaiver => exact .inr extra
  | extraTime m' d' =>
    cases new with
    | titlePermit | windowWaiver => exact .inr extra
    | extraTime m'' d'' =>
      cases extra
      exact .inl ⟨m', rfl⟩

theorem createGrant_state (s : State) (i k : Fin 16) (b : GrantBody) :
    (s.createGrant i k b).1 = s.putGrant i k b := rfl

theorem changeGrant_cases (s : State) (i k : Fin 16) (old new : GrantBody) :
    (s.changeGrant i k old new).1 = s ∨ (s.changeGrant i k old new).1 = s.putGrant i k (old.changedBy new) := by
  unfold State.changeGrant; dsimp only
  split
  · exact .inl rfl
  · exact .inr rfl

section
variable {s : State} {a : GaddArgs} {k : Fin 16} {b : GrantBody} (unloaded : s.load = none)
  (given : grantBody? a s.clock.meterDay = some b)
include unloaded given

/-- The entry changed held the only grant of its key (R138, R141). -/
theorem TablesKept.changeGrant {i : Fin 16} {g : Grant} (live : s.grants[i] = some g) (own : g.slot = k)
    (same : g.body.sameKey b = true) : TablesKept s (s.changeGrant i k g.body b).1 := by
  rcases changeGrant_cases s i k g.body b with stands | put
  · rw [stands]; exact .refl s
  · rw [put]
    refine .putGrant unloaded (fun law => ?_) (fun law e other => ?_) (fun law m d extra => ?_)
    · exact changedBy_valid (law.grants.2 i g live) (grantBody?_valid given law.meterDay)
    · rw [noMatch_iff_key, changedBy_key, ← (sameKey_iff _ _).mp same, ← own]
      exact fun x hx => (clashes_eq_false_iff x g).mp (law.grants.1 e i other x hx g live)
    · obtain ⟨current, -⟩ := law.extra
      rcases changedBy_day extra with ⟨m', was⟩ | new
      · exact current i g.slot m' d (by rw [live, ← was])
      · exact .inl (grantBody?_day given new)

theorem TablesKept.addGrant : TablesKept s (s.addGrant k b).1 := by
  cases found : s.matching? k b with
  | some i =>
    obtain ⟨⟨g, live, own, same⟩, -⟩ := (matching?_eq_some_iff s k b).mp found
    rw [addGrant_of_match found live]
    exact .changeGrant unloaded given live own same
  | none =>
    cases free : s.freeEntry? with
    | none => rw [addGrant_of_full found free]; exact .refl s
    | some i =>
      rw [addGrant_of_free found free, createGrant_state]
      exact .putGrant unloaded (fun law => grantBody?_valid given law.meterDay)
        (fun _ e _ => (matching?_eq_none_iff s k b).mp found e) fun _ m d extra => .inl (grantBody?_day given extra)

end

/-! ## clkset -/

section
variable (s : State) (a : ClksetArgs) (w : Fin 7)

/-- A **clkset** retires grants and moves days. -/
theorem clockSet_retires : Retires s (s.clockSet a w) := by
  refine .of_filter (clockSet_grants s a w) ?_
  have work := clockSet_work s a w
  rw [tested_eq] at work
  rw [work]; rfl

theorem clockSet_day : (s.clockSet a w).clock.day = a.day.toNat := by
  rw [clockSet_clock, retimed_tested_clock]

theorem clockSet_meterDay : (s.clockSet a w).clock.meterDay =
    if (s.retimed a w).rollsOver then a.day.toNat else s.clock.meterDay := by
  rw [clockSet_clock, retimed_tested_clock]

/-- Extra time that a rollover leaves is of the meter day that it installs (R149, R160). -/
theorem clockSet_current (current : s.ExtraCurrent) : (s.clockSet a w).ExtraCurrent := by
  obtain ⟨-, -, -, -, -, due⟩ := clockSet_frame s a w
  intro e k m d live
  rw [clockSet_grants, Option.filter_eq_some_iff, Bool.not_eq_true'] at live
  obtain ⟨old, stays⟩ := live
  rw [due, clockSet_meterDay]
  cases rolls : (s.retimed a w).rollsOver with
  | false => exact current e k m d old
  | true =>
    rw [State.retiredBy, rolls, Bool.true_and, Bool.or_eq_false_iff] at stays
    obtain ⟨inForce, -⟩ := stays
    exact .inl ((extraTime_past_iff m d _).mp inForce)

theorem TablesKept.clockSet : TablesKept s (s.clockSet a w) := by
  have retires := clockSet_retires s a w
  have inRange : a.day.toNat ≤ 65535 := Nat.le_of_lt_succ a.day.isLt
  refine ⟨fun law => retires.law law ?_ ?_ (clockSet_current s a w), retires.load.trans⟩
  · rw [clockSet_day]; exact inRange
  · rw [clockSet_meterDay]
    split
    · exact inRange
    · exact law.meterDay

end

/-! ## Every command -/

section
variable (s : State)

theorem TablesKept.changeScheme {k : Fin 8} (c : SchemeSlot) (operator : 2 ≤ k.val) :
    TablesKept s (s.changeScheme k c) := by
  refine (TablesKept.scheme s c operator).trans (.of_narrows (Narrows.trans ?_ (.of_seats (changeScheme_work s k c))))
  exact .of_same

theorem Narrows.putSettings (h : Settings) : Narrows s (s.putSettings h) := by
  have written : Narrows s { s with settings := h } := .of_same
  have judged : Narrows s (if h.groupOrder = s.settings.groupOrder then { s with settings := h }
      else (State.reeval { s with settings := h } everyEntry).settled s false) := by
    split
    · exact written
    · exact written.trans ((Narrows.reeval ..).trans (.settled ..))
  unfold State.putSettings; dsimp only
  split
  · exact judged
  · exact judged.trans (.commit ..)

theorem Narrows.unlisted (k : Fin 16) : Narrows s (s.unlisted k) :=
  .of_filter (retireGrants_entry s _) rfl rfl

theorem Narrows.ungranted (i : Fin 16) : Narrows s (s.ungranted i) := by
  refine { grants := fun e g live => ?_, frame := rfl, days := rfl }
  by_cases here : e = i
  · subst here
    have freed : (s.ungranted e).grants[e] = none := Vector.getElem_set_self ..
    rw [freed] at live
    cases live
  · exact (Vector.getElem_set_ne (hi := i.isLt) (hj := e.isLt) fun same => here (Fin.ext same.symm)).symm.trans live

end

theorem TablesKept.of_command {s t : State} (unloaded : s.load = none) (h : CommandEffect s t) : TablesKept s t := by
  cases h with
  | answers => exact .refl s
  | changeScheme c operator => exact .changeScheme s c operator
  | lockScheme operator => exact (TablesKept.scheme s _ operator).trans (.of_narrows (.commit ..))
  | edit | dropEdit | clearNotices | admitPin | failPin => exact .of_narrows (.of_same)
  | installNew => exact .of_narrows (Narrows.trans .committed (.commit ..))
  | @installChange b =>
    exact .of_narrows (Narrows.trans (t := s.changed b) (.of_same) (.of_seats (installChange_work s b)))
  | retired => exact .of_narrows ((Narrows.unlisted s _).trans (.of_seats (retired_work s _)))
  | enter => exact .of_narrows (.of_seats (enter_work s _ _))
  | leave j k => exact .of_narrows (.of_seats ((SeatWork.dropEntry k s j).trans (.settled ..)))
  | vacate j => exact .of_narrows (.of_seats ((SeatWork.putSeat ..).trans (.settled ..)))
  | startProgramme j p => exact .of_narrows (.of_seats (startProgramme_work s j p))
  | endProgramme j => exact .of_narrows (.of_seats ((SeatWork.putSeat ..).trans (.settled ..)))
  | topUp x => exact .of_narrows (Narrows.trans .committed (.settled _ s true))
  | addGrant _ given => exact .addGrant unloaded given
  | revoke => exact .of_narrows ((Narrows.ungranted s _).trans (.of_seats (revoke_work s _ _)))
  | clockSet a w => exact .clockSet s a w
  | closeWindow => exact .of_narrows (.closeWindow s)
  | unsetPin | setPin => exact .of_narrows .committed
  | putSettings => exact .of_narrows (.putSettings s _)
  | retryFailed =>
    have cleared : Narrows s { s with store := { s.store with faultLatch := false } } := .of_same
    exact .of_narrows (cleared.trans (.foldl Narrows.commit _ _))
  | restarted => exact .of_narrows (Narrows.trans (t := s.emptied) (.of_same) (.closeWindow _))

section
variable {owner : State → State × Reply} (effect : ∀ s, CommandEffect s (owner s).1) {i : Instr}
include effect

/-- A command that is executed is answered: no load is running then. -/
theorem TablesKept.answer {s : State} (executing : s.link.state = .executing i) :
    TablesKept s (State.answer i (owner s)) := by
  have other : s.link.state ≠ .loading := by rw [executing]; nofun
  have run : s.load = none → TablesKept s (owner s).1 := fun unloaded => .of_command unloaded (effect s)
  refine ⟨fun law => ?_, fun unloaded => (run unloaded).unloaded unloaded⟩
  have unloaded := law.unloaded other
  have kept := (run unloaded).law law
  obtain ⟨current, -⟩ := kept.extra
  exact { kept with extra := extraLaw_of_unloaded kept.running ((run unloaded).unloaded unloaded) current }

theorem TablesKept.command (s : State) : TablesKept s (State.command i owner s) := by
  have met : TablesKept s (State.dispatch i { s with link.miso := [] }) :=
    TablesKept.trans (t := { s with link.miso := [] }) (.link s _ id)
      (.of_link (dispatch_link i _) fun loading => dispatch_loading loading i)
  unfold State.command; dsimp only
  split
  · next executing => exact .answer effect executing
  · split
    · next executing => exact met.trans (.answer effect executing)
    · exact met

end

end Sys2Proof.Machine
end

section
/-! SUPPORT. The law of the tables over the events of a second and the rows of the store (R115, R146, R149, R156 to R162,
R182 to R191). -/

namespace Sys2Proof.Machine

/-! ## What was handed over -/

/-- The state with a part of the rollover taken from those outstanding. -/
def State.partTaken (s : State) (p : RollPart) : State :=
  { s with due.rollover := s.due.rollover.filter (· ≠ p) }

theorem takeHandedRoll_eq (s : State) (p : RollPart) :
    s.takeHandedRoll p = ((s.partTaken p).takeClockWork (.roll p)).settled s false := rfl

/-- A part of the rollover writes the grant table, if any table of the law. -/
theorem takeHandedRoll_work (s : State) (p : RollPart) : TableWork (s.partTaken p) (s.takeHandedRoll p) := by
  rw [takeHandedRoll_eq]
  exact (takeClockWork_work ..).trans (SeatWork.settled ..).table

theorem takeHandedRoll_grants (s : State) (p : RollPart) (e : Fin 16) : (s.takeHandedRoll p).grants[e] =
    s.grants[e].filter fun g => !ClockWork.retires s.clock g (.roll p) := by
  have tables : (s.takeHandedRoll p).grants = ((s.partTaken p).takeClockWork (.roll p)).grants := by
    rw [takeHandedRoll_eq, SeatWork.settled ((s.partTaken p).takeClockWork (.roll p)) s false]
  rw [tables, takeClockWork_grants]; rfl

/-- The grant table's own part retires all the extra time that it leaves outdated, and the others leave that to it
(R149). -/
theorem takeHandedRoll_current {s : State} (p : RollPart) (current : s.ExtraCurrent) :
    (s.takeHandedRoll p).ExtraCurrent := by
  intro e k m d live
  rw [takeHandedRoll_grants, Option.filter_eq_some_iff, Bool.not_eq_true'] at live
  obtain ⟨old, stays⟩ := live
  rw [takeHandedRoll_work s p]
  show d = s.clock.meterDay ∨ .grants ∈ s.due.rollover.filter (· ≠ p)
  by_cases own : p = .grants
  · subst own
    exact .inl ((extraTime_past_iff m d _).mp stays)
  · refine (current e k m d old).imp_right fun outstanding => List.mem_filter.mpr ⟨outstanding, ?_⟩
    exact decide_eq_true fun same => own same.symm

theorem TablesKept.takeHandedRoll (s : State) (p : RollPart) : TablesKept s (s.takeHandedRoll p) := by
  have work := takeHandedRoll_work s p
  have retires : Retires s (s.takeHandedRoll p) := .of_filter (takeHandedRoll_grants s p) (by rw [work]; rfl)
  have clock : (s.takeHandedRoll p).clock = s.clock := by rw [work]; rfl
  refine ⟨fun law => retires.law law ?_ ?_ (takeHandedRoll_current p), retires.load.trans⟩
  · rw [clock]; exact law.day
  · rw [clock]; exact law.meterDay

theorem Narrows.takeBoundary (s : State) : Narrows s s.takeBoundary :=
  Narrows.trans (t := s.bounded) (.of_same) ((Narrows.reeval ..).trans (.settled ..))

theorem TablesKept.takeHanded (s : State) (w : Handed) : TablesKept s (s.takeHanded w) := by
  cases w with
  | boundary => exact .of_narrows (.takeBoundary s)
  | roll p => exact .takeHandedRoll s p

theorem Narrows.draw (s : State) (n : Nat) : Narrows s { s with freeCount := n } := .of_same

theorem Narrows.shuffle {α : Type} (fuel : Nat) (work : List α) (s : State) :
    Narrows s (State.shuffle fuel work s).2 := by
  obtain ⟨n, drawn⟩ := shuffle_state fuel work s
  rw [drawn]
  exact .draw s n

theorem TablesKept.takeMinuteBoundary (s : State) : TablesKept s (takeMinuteBoundary s) := by
  unfold Machine.takeMinuteBoundary; dsimp only
  split
  · exact .refl s
  · exact .takeHanded ..
  · exact (TablesKept.of_narrows ((Narrows.shuffle ..).trans (.draw ..))).trans (.foldl .takeHanded _ _)

/-! ## The events of the blocks -/

theorem Narrows.takeGrantExpiry (s : State) : Narrows s (takeGrantExpiry s) := by
  cases due : s.due.expiry with
  | none => rw [Machine.takeGrantExpiry, due]; exact .refl s
  | some now =>
    have expired : Narrows s (s.expired now) :=
      .of_filter (expired_grants s now) (by rw [expired_eq]; rfl) (by rw [expired_eq]; rfl)
    exact expired.trans (.of_seats (takeGrantExpiry_work due))

theorem Narrows.meterSecond (s : State) : Narrows s s.meterSecond :=
  Narrows.trans (t := { s with due := { s.due with metering := false } }) (.of_same)
    (.of_seats (meterSecond_work s))

theorem Narrows.takeMeteringSecond (s : State) : Narrows s (takeMeteringSecond s) := by
  unfold Machine.takeMeteringSecond
  split
  · exact .meterSecond s
  · exact .refl s

theorem Narrows.takeWindDownEnd (s : State) : Narrows s (takeWindDownEnd s) := by
  unfold Machine.takeWindDownEnd
  split
  · exact .meterSecond s
  · exact .of_seats ((SeatWork.writeEntries ..).trans (.settled ..))

theorem Narrows.takeCommitIntervalEnd (s : State) : Narrows s (takeCommitIntervalEnd s) := by
  unfold Machine.takeCommitIntervalEnd; dsimp only
  split
  · split
    · exact .committed
    · exact .of_same
  · exact .refl s

theorem Narrows.takePoolWaitTimeout (s : State) : Narrows s (takePoolWaitTimeout s) := by
  unfold Machine.takePoolWaitTimeout
  split
  · exact Narrows.trans (t := s.withoutLate) (.of_same) (.of_seats (timeoutCheck_work s).work)
  · exact .refl s

theorem Narrows.takeWindowExpiry (s : State) : Narrows s (takeWindowExpiry s) := by
  unfold Machine.takeWindowExpiry
  split
  · exact .closeWindow s
  · exact .refl s

theorem Narrows.takeLockoutEnd (s : State) : Narrows s (takeLockoutEnd s) := by
  unfold Machine.takeLockoutEnd
  split <;> exact .of_same

/-! ## The second event -/

/-- A piece taken leaves the other parts of the rollover outstanding. -/
theorem takeHanded_rollover (s : State) (w : Handed) :
    (s.takeHanded w).due.rollover = s.due.rollover.filter fun p => decide (Handed.roll p ≠ w) := by
  cases w with
  | boundary =>
    rw [show (s.takeHanded .boundary).due.rollover = s.due.rollover from (Narrows.takeBoundary s).rollover]
    exact (List.filter_eq_self.mpr fun p _ => rfl).symm
  | roll part =>
    show (s.takeHandedRoll part).due.rollover = _
    rw [takeHandedRoll_work s part]
    exact List.filter_congr fun p _ => by simp

theorem foldl_takeHanded_rollover {work : List Handed} {s : State} (all : ∀ p ∈ s.due.rollover, .roll p ∈ work) :
    (work.foldl State.takeHanded s).due.rollover = [] := by
  induction work generalizing s with
  | nil => exact List.eq_nil_iff_forall_not_mem.mpr fun p mem => List.not_mem_nil (all p mem)
  | cons w work ih =>
    refine ih fun p mem => ?_
    rw [takeHanded_rollover, List.mem_filter, decide_eq_true_eq] at mem
    obtain ⟨outstanding, other⟩ := mem
    exact (List.mem_cons.mp (all p outstanding)).resolve_left other

theorem roll_mem_handed {s : State} {p : RollPart} (outstanding : p ∈ s.due.rollover) : .roll p ∈ s.handed :=
  List.mem_append_right _ (List.mem_map_of_mem outstanding)

/-- A second event takes every part of a rollover that is outstanding (R162). -/
theorem takeEveryHanded_rollover (s : State) : (takeEveryHanded s).due.rollover = [] := by
  have all : ∀ p ∈ s.due.rollover, .roll p ∈ s.handed := fun _ => roll_mem_handed
  unfold takeEveryHanded; dsimp only
  split
  · next none =>
    rw [none] at all
    exact foldl_takeHanded_rollover (work := []) all
  · next w one =>
    rw [one] at all
    exact foldl_takeHanded_rollover (work := [w]) all
  · have perm := shuffle_perm s.handed.length s.handed s le_rfl
    refine foldl_takeHanded_rollover fun p outstanding => perm.mem_iff.mpr (all p ?_)
    exact (Narrows.shuffle ..).rollover ▸ outstanding

theorem TablesKept.takeEveryHanded (s : State) : TablesKept s (takeEveryHanded s) := by
  unfold Machine.takeEveryHanded; dsimp only
  split
  · exact .refl s
  · exact .takeHanded ..
  · exact (TablesKept.of_narrows (.shuffle ..)).trans (.foldl .takeHanded _ _)

/-- The events of the blocks that follow in a second event. -/
theorem flushDue_narrows (s : State) : Narrows (takeEveryHanded s) s.flushDue := by
  have metered := (Narrows.takeGrantExpiry (takeEveryHanded s)).trans (.takeMeteringSecond _)
  have waited := (metered.trans (.takeCommitIntervalEnd _)).trans (.takePoolWaitTimeout _)
  exact (waited.trans (.takeWindowExpiry _)).trans (.takeLockoutEnd _)

theorem flushDue_rollover (s : State) : s.flushDue.due.rollover = [] :=
  (flushDue_narrows s).rollover.trans (takeEveryHanded_rollover s)

theorem TablesKept.flushDue (s : State) : TablesKept s s.flushDue :=
  (TablesKept.takeEveryHanded s).trans (.of_narrows (flushDue_narrows s))

theorem tick_day {c : Clock} (inRange : c.day ≤ 65535) : c.tick.day ≤ 65535 := by
  unfold Clock.tick; dsimp only
  split
  · exact inRange
  · split
    · exact inRange
    · split
      · next below => exact below
      · exact inRange

theorem tick_meterDay (c : Clock) : c.tick.meterDay = c.meterDay := by
  unfold Clock.tick; dsimp only
  split
  · rfl
  · split
    · rfl
    · split <;> rfl

/-- The second is handed to the blocks where no part of a rollover is outstanding. -/
theorem TablesKept.handSecond {s : State} (none : s.due.rollover = []) : TablesKept s s.handSecond := by
  have retires : Retires s s.handSecond := ⟨fun _ _ => id, rfl⟩
  have meterDay : s.handSecond.clock.meterDay = s.clock.meterDay := tick_meterDay s.clock
  refine ⟨fun law => retires.law law (tick_day law.day) (meterDay.trans_le law.meterDay) fun current e k m d live => ?_,
    id⟩
  have inForce := current e k m d live
  rw [none] at inForce
  rw [meterDay]
  exact inForce.imp_right nofun

/-- The meter day is installed, with the parts that follow outstanding or the extra time of no other day live. -/
theorem TablesKept.installMeterDay {s t : State} (installed : Retires s t) (clock : t.clock = s.installMeterDay.clock)
    (current : t.ExtraCurrent) : TablesKept s t := by
  refine ⟨fun law => installed.law law ?_ ?_ fun _ => current, installed.load.trans⟩
  · rw [clock]; exact law.day
  · rw [clock]; exact law.day

/-- At a quiet midnight no extra time of the day left is live (R149). -/
theorem extraCurrent_of_quiet {s : State} (quiet : s.quiet = true) : s.ExtraCurrent := by
  unfold State.quiet at quiet
  rw [Bool.and_eq_true, Bool.not_eq_true'] at quiet
  obtain ⟨-, kept⟩ := quiet
  refine extraCurrent_of_inForce fun e g live => ?_
  have stays := (losesAny_eq_false_iff s _).mp kept e
  rwa [live] at stays

theorem grants_mem_rolloverParts : .grants ∈ rolloverParts := by decide

/-- A piece of the work that follows a new day at most retires grants. -/
theorem Narrows.takeClockWork (s : State) (w : ClockWork) : Narrows s (s.takeClockWork w) := by
  have work := takeClockWork_work s w
  exact .of_filter (takeClockWork_grants s w) (by rw [work]; rfl) (by rw [work]; rfl)

theorem TablesKept.rollAtMidnight (s before : State) : TablesKept s (s.rollAtMidnight before) := by
  unfold State.rollAtMidnight; dsimp only
  split
  · next quiet =>
    have installed : TablesKept s s.installMeterDay :=
      .installMeterDay ⟨fun _ _ => id, rfl⟩ rfl (extraCurrent_of_quiet quiet)
    have rolled : Narrows s.installMeterDay s.installMeterDay.rollMeters.rollPool :=
      (Narrows.takeClockWork _ (.roll .meters)).trans (.takeClockWork _ (.roll .pool))
    exact installed.trans (.of_narrows (rolled.trans (.settled ..)))
  · refine TablesKept.trans ?_ (TablesKept.foldl .takeHandedRoll _ _)
    refine TablesKept.trans ?_ (.of_narrows ((Narrows.shuffle ..).trans (.draw ..)))
    exact .installMeterDay ⟨fun _ _ => id, rfl⟩ rfl fun _ _ _ _ _ => .inr grants_mem_rolloverParts

theorem TablesKept.takeSecond (s : State) : TablesKept s (takeSecond s) := by
  have ticked := (TablesKept.flushDue s).trans (.handSecond (flushDue_rollover s))
  unfold Machine.takeSecond; dsimp only
  split
  · exact ticked.trans (.rollAtMidnight ..)
  · exact ticked

/-! ## The rows of the store and the supply -/

theorem StoreWork.held {s t : State} (h : StoreWork s t) : t.supply.held = s.supply.held := by rw [h]

section
variable (s : State)

theorem Narrows.takeEraseComplete (interrupted : Bool) : Narrows s (takeEraseComplete interrupted s) := by
  refine .of_row (takeEraseComplete_row interrupted s) ?_
  unfold Machine.takeEraseComplete
  split
  · split <;> rfl
  · rfl

theorem Narrows.takeProgramComplete (interrupted : Bool) : Narrows s (takeProgramComplete interrupted s) := by
  refine .of_row (takeProgramComplete_row interrupted s) ?_
  unfold Machine.takeProgramComplete
  split
  · split <;> rfl
  · rfl

theorem Narrows.takeVerifyComplete (interrupted isMatch : Bool) :
    Narrows s (takeVerifyComplete interrupted isMatch s) := by
  refine .of_row (takeVerifyComplete_row interrupted isMatch s) ?_
  unfold Machine.takeVerifyComplete
  split
  · split
    · split
      · exact (StoreWork.takeNextWrite _).held
      · split
        · exact (StoreWork.beginErase ..).held
        · exact (StoreWork.takeNextWrite _).held
    · rfl
  · rfl

theorem Narrows.takeSupplyWarning : Narrows s (takeSupplyWarning s) := by
  refine .of_row (takeSupplyWarning_row s) ?_
  unfold Machine.takeSupplyWarning
  split
  · rfl
  · exact (StoreWork.urgentSave _).held

theorem Narrows.restartWrite : Narrows s s.restartWrite := by
  refine .of_row (restartWrite_row s) ?_
  unfold State.restartWrite; dsimp only
  split
  · exact (StoreWork.beginErase ..).held
  · rfl

end

end Sys2Proof.Machine
end

section
/-! SUPPORT. The law of the tables over the start-up load (R3, R116, R152, R193, R194). -/

namespace Sys2Proof.Machine

/-! ## The blocks before the grant block -/

section
variable (s : State)

theorem Narrows.settleHousehold (r : ReadResult) : Narrows s (s.settleHousehold r) := by
  unfold State.settleHousehold; dsimp only
  split
  · exact .of_same
  · split
    · exact .of_same
    · exact .committed
  · exact .committed

theorem Narrows.takeSlot (k : Fin 16) (slot : Slot) (v : BlockStatus) : Narrows s (s.takeSlot k slot v) := .of_same

theorem Narrows.withoutRecord (k : Fin 16) (slot : Slot) (v : BlockStatus) : Narrows s (s.withoutRecord k slot v) := by
  unfold State.withoutRecord
  split
  · exact (Narrows.takeSlot ..).trans (.commit ..)
  · exact .takeSlot ..

theorem Narrows.tokenLaw : Narrows s s.tokenLaw := by
  refine .foldl (fun t k => ?_) _ s
  unfold State.tokenLawAt
  split
  · exact .takeSlot ..
  · exact .refl t

theorem Narrows.settleProfile (k : Fin 16) (r : ReadResult) : Narrows s (s.settleProfile k r) := by
  have lawTaken : ∀ x : State, Narrows x (if k = 15 then x.tokenLaw else x) := by
    intro x
    split
    · exact .tokenLaw x
    · exact .refl x
  unfold State.settleProfile; dsimp only
  refine Narrows.trans ?_ (lawTaken _)
  split
  · exact .withoutRecord ..
  · split
    · exact .takeSlot ..
    · exact .withoutRecord ..
  · exact .withoutRecord ..

/-- A scheme block is settled in its operator slot (R3). -/
theorem TablesKept.settleScheme {k : Fin 8} (operator : 2 ≤ k.val) (r : ReadResult) :
    TablesKept s (s.settleScheme k r) := by
  have taken : ∀ (c : SchemeSlot) (v : BlockStatus),
      TablesKept s (State.setStatus { s with schemes := s.schemes.set k c } (schemeBlock k) v) :=
    fun c v => (TablesKept.scheme s c operator).trans (.of_narrows .of_same)
  unfold State.settleScheme; dsimp only
  split
  · exact taken ..
  · split <;> exact taken ..
  · exact taken ..

theorem meterDay_of_weekday {i : MeterImage} {w : Fin 7} (h : i.weekday? = some w) : i.meterDay ≤ 65535 := by
  unfold MeterImage.weekday? at h
  split at h
  · next checked =>
    simp only [Bool.and_eq_true, decide_eq_true_eq] at checked
    exact checked.1.2
  · cases h

/-- The meter block changes the meter day alone, within its range (R116). -/
theorem settleMeters_clock (r : ReadResult) : Retires s (s.settleMeters r)
    ∧ (s.settleMeters r).clock.day = s.clock.day ∧ (s.settleMeters r).clock.meterDay ≤ 65535 := by
  have without : ∀ v, Retires s (s.withoutMeters v) ∧ (s.withoutMeters v).clock.day = s.clock.day
      ∧ (s.withoutMeters v).clock.meterDay ≤ 65535 := by
    intro v
    unfold State.withoutMeters
    exact ⟨.of_same (by simp) (by simp [State.lawFrame]), by simp, by simp⟩
  unfold State.settleMeters
  split
  · exact without _
  · split
    · next checked =>
      exact ⟨.of_same (by simp) (by simp [State.lawFrame]), by simp, by simpa using meterDay_of_weekday checked⟩
    · exact without _
  · exact without _

/-- The meter day is settled before any grant is live (R193). -/
theorem TablesKept.settleMeters (busy : s.load.isSome = true) (r : ReadResult) : TablesKept s (s.settleMeters r) := by
  obtain ⟨retires, day, meterDay⟩ := settleMeters_clock s r
  refine ⟨fun law => retires.law law (day.trans_le law.day) meterDay fun _ => ?_, retires.load.trans⟩
  obtain ⟨-, loading⟩ := law.extra
  exact extraCurrent_of_free (retires.free (loading (.inr busy)).2)

theorem below_eq_some {n m : Nat} {k : Fin n} (h : below n m = some k) : k.val = m := by
  unfold below at h
  split at h <;> cases h
  rfl

theorem TablesKept.handBlock (busy : s.load.isSome = true) {b : BlockId} (other : b ≠ grantBlock) (r : ReadResult) :
    TablesKept s (s.handBlock b r) := by
  unfold State.handBlock
  split
  · exact .of_narrows (.settleProfile ..)
  · next above =>
    split
    · next k slot =>
      refine .settleScheme s ?_ r
      have isAbove : ¬ b.val < 16 := fun small => by simp [below, small] at above
      rw [below_eq_some slot]
      omega
    · rw [if_neg other]
      split
      · exact .of_narrows (.settleHousehold ..)
      · exact .settleMeters s busy r

end

/-! ## The grant block and the end of the load -/

theorem distinctGrants_iff (gs : List Grant) :
    distinctGrants gs = true ↔ gs.Pairwise fun g h => g.clashes h = false := by
  induction gs with
  | nil => exact iff_of_true rfl .nil
  | cons g gs ih => simp [distinctGrants, ih]

theorem grant?_valid {i : GrantImage} {g : Grant} (given : i.grant? = some g) : g.body.valid = true := by
  unfold GrantImage.grant? at given
  split at given
  · split at given
    · next valid => cases given; exact valid
    · cases given
  · cases given

/-- A grant block that passes its checks gives a table within R137 and R138 (R152). -/
theorem grantsOf?_grantLaw {stored : Vector (Option GrantImage) 16} {s : State}
    (given : grantsOf? stored = some s.grants) : s.GrantLaw := by
  unfold grantsOf? at given; dsimp only at given
  rw [Option.ite_none_right_eq_some, Bool.and_eq_true, Option.some.injEq] at given
  obtain ⟨⟨-, distinct⟩, table⟩ := given
  rw [table, distinctGrants_iff, List.pairwise_filterMap, List.pairwise_iff_getElem] at distinct
  have ordered : ∀ i j : Fin 16, i < j → ∀ g ∈ s.grants[i], ∀ h ∈ s.grants[j], g.clashes h = false := by
    intro i j lt g hg h hh
    exact distinct i.val j.val (by simp) (by simp) lt g (by simpa using hg) h (by simpa using hh)
  constructor
  · intro i j ne g hg h hh
    rcases lt_or_gt_of_ne ne with lt | gt
    · exact ordered i j lt g hg h hh
    · rw [clashes_comm]
      exact ordered j i gt h hh g hg
  · intro i g hg
    have entry : s.grants[i] = stored[i].bind GrantImage.grant? := by
      rw [← table]; exact Vector.getElem_ofFn ..
    rw [entry, Option.mem_def, Option.bind_eq_some_iff] at hg
    obtain ⟨image, -, valid⟩ := hg
    exact grant?_valid valid

/-- The table as the grant block leaves it: within R137 and R138, and its extra time of the meter day in force (R152). -/
structure Settled (s t : State) : Prop where
  frame : t.lawFrame = s.lawFrame
  days : t.lawDays = s.lawDays
  grants : t.GrantLaw
  current : t.ExtraCurrent

section
variable {s t : State} (h : Settled s t)
include h

theorem Settled.held : t.supply.held = s.supply.held := congrArg (·.2.2.1) h.frame

theorem Settled.day : t.clock.day = s.clock.day := congrArg (·.1) h.days

theorem Settled.meterDay : t.clock.meterDay = s.clock.meterDay := congrArg (·.2.1) h.days

theorem Settled.factory (schemes : s.FactorySchemes) : t.FactorySchemes := by
  have same : t.schemes = s.schemes := congrArg (·.1) h.frame
  unfold State.FactorySchemes
  rw [same]
  exact schemes

end

theorem Settled.of_free {s t : State} (free : t.grants = Vector.replicate 16 none) (frame : t.lawFrame = s.lawFrame)
    (days : t.lawDays = s.lawDays) : Settled s t := ⟨frame, days, grantLaw_of_free free, extraCurrent_of_free free⟩

theorem Settled.commit {s t : State} (h : Settled s t) (b : BlockId) : Settled s (t.commit b) := by
  have kept := Narrows.commit t b
  refine ⟨kept.frame.trans h.frame, kept.days.trans h.days, kept.grantLaw h.grants, fun e k m d live => ?_⟩
  rw [kept.meterDay, kept.rollover]
  exact h.current e k m d (kept.grants e _ live)

theorem outlived_of_staleGrant {s : State} {g : Grant} (fresh : s.staleGrant g = false) : s.outlived g = false := by
  unfold State.staleGrant at fresh
  exact (Bool.or_eq_false_iff.mp fresh).2

/-- The steps of R152 retire the extra time of other meter days. -/
theorem staleRetired_current (s : State) : (s.retireGrants s.staleGrant).ExtraCurrent := by
  refine extraCurrent_of_inForce fun e g live => ?_
  rw [retireGrants_entry, Option.filter_eq_some_iff, Bool.not_eq_true'] at live
  obtain ⟨-, fresh⟩ := live
  rw [State.outlived, State.retireGrants_clock]
  exact outlived_of_staleGrant fresh

theorem settleGrants_settled (s : State) (r : ReadResult) : Settled s (s.settleGrants r) := by
  have free : ∀ v, Settled s (s.takeGrants (Vector.replicate 16 none) v) := fun v => .of_free rfl rfl rfl
  unfold State.settleGrants; dsimp only
  split
  · exact free _
  · split
    · next stored table given =>
      have law : (s.takeGrants table .ok).GrantLaw := grantsOf?_grantLaw given
      split
      · have retired := Narrows.retireGrants (s.takeGrants table .ok) (s.takeGrants table .ok).staleGrant
        have frame : (s.takeGrants table .ok).lawFrame = s.lawFrame := rfl
        have days : (s.takeGrants table .ok).lawDays = s.lawDays := rfl
        exact Settled.commit ⟨retired.frame.trans frame, retired.days.trans days, retired.grantLaw law,
          staleRetired_current _⟩ _
      · next none =>
        refine ⟨rfl, rfl, law, extraCurrent_of_inForce fun e g live => ?_⟩
        have fresh := (losesAny_eq_false_iff _ _).mp (Bool.eq_false_of_not_eq_true none) e
        rw [live] at fresh
        exact outlived_of_staleGrant fresh
    · exact (free _).commit _
  · exact (free _).commit _

/-- The load ends: the link is free to leave LOADING, as no load is running any more (R194). -/
theorem endLoad_law {s : State} (running : s.supply.held = false) (day : s.clock.day ≤ 65535)
    (meterDay : s.clock.meterDay ≤ 65535) (grants : s.GrantLaw) (current : s.ExtraCurrent)
    (schemes : s.FactorySchemes) : s.endLoad.RunningLaw := by
  unfold State.endLoad; dsimp only
  refine (Narrows.of_store (.takeNextWrite _)).law ?_
  split <;> exact {
    running := running
    day := day
    meterDay := meterDay
    grants := grants
    extra := extraLaw_of_unloaded running rfl current
    schemes := schemes }

/-- The grant block is the last that the load reads (R193). -/
theorem loadOrder_last {n : Nat} {b : BlockId} (next : loadOrder[n]? = some b) :
    n + 1 = loadOrder.length ↔ b = grantBlock := by
  have last : ∀ n : Fin loadOrder.length, n.val + 1 = loadOrder.length ↔ loadOrder[n] = grantBlock := by decide
  obtain ⟨inOrder, rfl⟩ := List.getElem?_eq_some_iff.mp next
  exact last ⟨n, inOrder⟩

section
variable (s : State)

/-- The load with the block after its `n`th still to come. -/
def State.reading (n : Nat) : State := { s with load := some (n + 1) }

theorem reading_law {n : Nat} (busy : s.load = some n) (law : s.RunningLaw) : (s.reading n).RunningLaw := by
  obtain ⟨current, loading⟩ := law.extra
  exact { law with extra := ⟨current, fun _ => loading (.inr (Option.isSome_of_eq_some busy))⟩ }

theorem readBlock_law {n : Nat} {b : BlockId} (busy : s.load = some n) (other : b ≠ grantBlock)
    (law : s.RunningLaw) : (s.readBlock n b).RunningLaw :=
  (TablesKept.handBlock (s.reading n) rfl other _).law (reading_law s busy law)

/-- The last block read is the grant block, and the load ends with it (R193, R194). -/
theorem readGrants_law {n : Nat} (law : s.RunningLaw) : (s.readBlock n grantBlock).endLoad.RunningLaw := by
  have settled := settleGrants_settled (s.reading n) (classify s.store.blocks[grantBlock])
  exact endLoad_law (settled.held.trans law.running) (settled.day.trans_le law.day)
    (settled.meterDay.trans_le law.meterDay) settled.grants settled.current (settled.factory law.schemes)

theorem TablesKept.takeStoreBlockRead : TablesKept s (takeStoreBlockRead s) := by
  unfold Machine.takeStoreBlockRead
  split
  · exact .refl s
  · next n busy =>
    have noneUnloaded : ∀ t : State, s.load = none → t.load = none := fun _ none => by rw [busy] at none; cases none
    split
    · exact .refl s
    · next b next =>
      dsimp only
      split
      · next last =>
        rw [(loadOrder_last next).mp last]
        exact ⟨readGrants_law s, noneUnloaded _⟩
      · next more =>
        exact ⟨readBlock_law s busy fun same => more ((loadOrder_last next).mpr same), noneUnloaded _⟩

end

end Sys2Proof.Machine
end

section
/-! PROOFS. The tables after every step (R2, R137, R138, R149), and O57. -/

namespace Sys2Proof.Machine

/-! ## Every row -/

/-- The effect of every row that is taken while no full reset is held. -/
theorem TablesKept.takeEvent (i : Instr) (s : State) : TablesKept s (takeEvent i s) := by
  cases i with
  | writeTransaction frame => exact .of_link (takeWrite_link frame s) fun loading => takeWrite_loading loading frame
  | fetchTransaction clocked => exact .of_link (takeFetch_link clocked s) fun loading => takeFetch_loading loading clocked
  | badTransaction selector => exact .of_link (takeBad_link selector s) fun loading => takeBad_loading loading selector
  | sload req => exact .command (sload_effect · req) s
  | sclr req => exact .command (sclr_effect · req) s
  | slock req => exact .command (slock_effect · req) s
  | sread req => exact .command (fun s => .of_read (sread_state s req)) s
  | eopen req => exact .command (eopen_effect · req) s
  | eset req => exact .command (eset_effect · req) s
  | ecommit req => exact .command (ecommit_effect · req) s
  | edrop req => exact .command (edrop_effect · req) s
  | pread req => exact .command (fun s => .of_read (pread_state s req)) s
  | retire req => exact .command (retire_effect · req) s
  | lookup req => exact .command (fun s => .of_read (lookup_state s req)) s
  | join req => exact .command (join_effect · req) s
  | leave req => exact .command (leave_effect · req) s
  | vacate req => exact .command (vacate_effect · req) s
  | play req => exact .command (play_effect · req) s
  | endp req => exact .command (endp_effect · req) s
  | sstat req => exact .command (fun s => .of_read (sstat_state s req)) s
  | preview req => exact .command (fun s => .of_read (preview_state s req)) s
  | mread req => exact .command (fun s => .of_read (mread_state s req)) s
  | topup req => exact .command (topup_effect · req) s
  | pool req => exact .command (fun s => .of_read (poolRead_state s req)) s
  | gadd req => exact .command (gadd_effect · req) s
  | grevoke req => exact .command (grevoke_effect · req) s
  | gread req => exact .command (fun s => .of_read (gread_state s req)) s
  | clkset req => exact .command (clkset_effect · req) s
  | clkread req => exact .command (fun s => .of_read (clkread_state s req)) s
  | pin req => exact .command (pin_effect · req) s
  | repin req => exact .command (repin_effect · req) s
  | close req => exact .command (close_effect · req) s
  | hset req => exact .command (hset_effect · req) s
  | hread req => exact .command (fun s => .of_read (hread_state s req)) s
  | store req => exact .command (fun s => .of_read (store_state s req)) s
  | retry req => exact .command (retry_effect · req) s
  | describe req => exact .command (fun s => .of_read (describe_state s req)) s
  | notices req => exact .command (notices_effect · req) s
  | restart req => exact .command (restart_effect · req) s
  | secondEvent => exact .takeSecond s
  | minuteBoundary => exact .takeMinuteBoundary s
  | grantExpiry => exact .of_narrows (.takeGrantExpiry s)
  | meteringSecond => exact .of_narrows (.takeMeteringSecond s)
  | windDownEnd => exact .of_narrows (.takeWindDownEnd s)
  | commitIntervalEnd => exact .of_narrows (.takeCommitIntervalEnd s)
  | poolWaitTimeout => exact .of_narrows (.takePoolWaitTimeout s)
  | windowExpiry => exact .of_narrows (.takeWindowExpiry s)
  | lockoutEnd => exact .of_narrows (.takeLockoutEnd s)
  | blockWriteBegin => exact .of_narrows (.of_store (.takeNextWrite s))
  | eraseComplete interrupted => exact .of_narrows (.takeEraseComplete s interrupted)
  | programComplete interrupted => exact .of_narrows (.takeProgramComplete s interrupted)
  | verifyComplete interrupted isMatch => exact .of_narrows (.takeVerifyComplete s interrupted isMatch)
  | supplyWarning => exact .of_narrows (.takeSupplyWarning s)
  | supplyClear => exact .of_narrows .of_same
  | storeBlockRead => exact .takeStoreBlockRead s
  | dipBegin | dipEnd _ | fullReset _ _ _ | startUpLoad _ _ => exact .refl s

theorem TablesKept.event (i : Instr) (s : State) : TablesKept s (Machine.takeEvent i s).drivePins :=
  (TablesKept.takeEvent i s).trans (.of_narrows .of_same)

theorem TablesKept.takeWork (s : State) (w : DipWork) : TablesKept s (s.takeWork w) := by
  cases w with
  | event i => exact .event i s
  | restartWrite => exact .of_narrows (.restartWrite s)

/-- The end of a dip that was held through (R191). -/
theorem TablesKept.endDip (s : State) : TablesKept s s.endDip := by
  have plan : Narrows s s.orderedWork.2 := by
    unfold State.orderedWork
    split
    · exact .refl s
    · exact .shuffle ..
  have live : TablesKept s { s.orderedWork.2 with deferred := [], supply.dip := false } :=
    .of_narrows (plan.trans .of_same)
  exact (live.trans (.foldl .takeWork _ _)).trans (.of_narrows .of_same)

/-! ## Every step -/

/-- The laws that a step keeps (O57). -/
def State.TablesLaw (s : State) : Prop := s.GrantLaw ∧ s.ExtraLaw ∧ s.FactorySchemes

theorem State.RunningLaw.tables {s : State} (law : s.RunningLaw) : s.TablesLaw := ⟨law.grants, law.extra, law.schemes⟩

/-- A full reset brings the laws about (R192). -/
theorem beginReset_tablesLaw (s : State) (straps : BitVec 2) : (s.beginReset straps).TablesLaw := by
  have free : (s.beginReset straps).grants = Vector.replicate 16 none := rfl
  exact ⟨grantLaw_of_free free, ⟨extraCurrent_of_free free, fun _ => ⟨rfl, free⟩⟩, rfl, rfl⟩

/-- The load begins from a reset that is held (R189, R193). -/
theorem takeStartUpLoad_tablesLaw (high : Bool) (millivolts : Nat) {s : State} (law : s.TablesLaw) :
    (takeStartUpLoad high millivolts s).TablesLaw := by
  unfold takeStartUpLoad
  split
  · next ends =>
    simp only [Bool.and_eq_true] at ends
    obtain ⟨⟨held, -⟩, -⟩ := ends
    obtain ⟨grants, ⟨current, loading⟩, schemes⟩ := law
    exact ⟨grants, ⟨current, fun _ => loading (.inl held)⟩, schemes⟩
  · exact law

section
variable {s : State} (clock : s.ClockLaw) (law : s.TablesLaw)
include clock law

theorem runningLaw_of_tablesLaw (running : s.supply.held = false) : s.RunningLaw := by
  obtain ⟨-, day, -, meterDay, -⟩ := clock
  obtain ⟨grants, extra, schemes⟩ := law
  exact ⟨running, day, meterDay, grants, extra, schemes⟩

theorem taken_tablesLaw (i : Instr) : (s.taken i (takeEvent i)).TablesLaw := by
  unfold State.taken
  split
  · exact law
  · next running =>
    split
    · split
      · exact law
      · exact law
    · exact ((TablesKept.event i s).law
        (runningLaw_of_tablesLaw clock law (Bool.eq_false_of_not_eq_true running))).tables

theorem takeDipEnd_tablesLaw (micros : Nat) : (takeDipEnd micros s).TablesLaw := by
  unfold takeDipEnd
  split
  · exact law
  · next inDip =>
    rw [Bool.or_eq_true, not_or, Bool.not_eq_true] at inDip
    obtain ⟨running, -⟩ := inDip
    split
    · exact beginReset_tablesLaw ..
    · exact ((TablesKept.endDip s).law (runningLaw_of_tablesLaw clock law running)).tables

theorem exec_tablesLaw {i : Instr} {t : State} (run : exec i s = .next t) : t.TablesLaw := by
  rcases exec_cases run with rfl | rfl | ⟨micros, rfl⟩ | ⟨cause, lvs1, lvs0, rfl⟩ | ⟨high, millivolts, rfl⟩
  · exact taken_tablesLaw clock law i
  · unfold takeDipBegin
    split <;> exact law
  · exact takeDipEnd_tablesLaw clock law micros
  · unfold takeFullReset
    split
    · exact beginReset_tablesLaw ..
    · exact law
  · exact takeStartUpLoad_tablesLaw high millivolts law

end

/-- Settles O57: while no full reset is held every row keeps the tables' laws together with the ranges of the days, and
a full reset brings them about. -/
theorem everyStepKeepsTheTables : Obligations.EveryStepKeepsTheTables := by
  unfold Obligations.EveryStepKeepsTheTables
  intro s t clock law run
  unfold step at run
  split at run
  · cases run; exact law
  · next i rest _ => exact exec_tablesLaw (s := { s with pending := rest }) clock law run

end Sys2Proof.Machine
end

section
/-! PROOFS. What a held reset and a dip let no row do (R189, R191, R207), the answers of **clkread** (R163), and O2 and
O36. -/

namespace Sys2Proof.Machine

/-! ## Held resets and dips -/

/-- Every row but the four of the supply and the reset is taken as an event. -/
theorem exec_eq_taken {i : Instr} (s : State) (noDip : i ≠ .dipBegin) (noEnd : ∀ us, i ≠ .dipEnd us)
    (noReset : ∀ c a b, i ≠ .fullReset c a b) (noLoad : ∀ h v, i ≠ .startUpLoad h v) :
    exec i s = .next (s.taken i (takeEvent i)) := by
  cases i with
  | dipBegin => exact absurd rfl noDip
  | dipEnd us => exact absurd rfl (noEnd us)
  | fullReset c a b => exact absurd rfl (noReset c a b)
  | startUpLoad h v => exact absurd rfl (noLoad h v)
  | _ => rfl

theorem takeDipBegin_held {s : State} (held : s.supply.held = true) : takeDipBegin s = s := if_pos held

theorem takeDipEnd_held {s : State} (held : s.supply.held = true) (us : Nat) : takeDipEnd us s = s :=
  if_pos (by rw [held, Bool.true_or])

/-- Settles O2: a held reset and a dip stand before every row's effect; the rows of the dip itself look at the reset on
their own. -/
theorem heldResetsAndDipsDelayEvents : Obligations.HeldResetsAndDipsDelayEvents := by
  unfold Obligations.HeldResetsAndDipsDelayEvents
  refine fun i s noReset noLoad => ⟨fun held => ?_, fun running dip noDip noEnd => ?_⟩
  · by_cases begins : i = .dipBegin
    · rw [begins]
      exact congrArg Host.Outcome.next (takeDipBegin_held held)
    by_cases ends : ∃ us, i = .dipEnd us
    · obtain ⟨us, rfl⟩ := ends
      exact congrArg Host.Outcome.next (takeDipEnd_held held us)
    rw [exec_eq_taken s begins (not_exists.mp ends) noReset noLoad, taken_held held]
  · rw [exec_eq_taken s noDip noEnd noReset noLoad, taken_dip running dip]

/-! ## clkread -/

theorem clkread_set {s : State} (isSet : s.clock.isSet = true) : clkread (.fields ()) s =
    (s, ok (be1 1 ++ be2 s.clock.day ++ be4 s.clock.second ++ be2 (s.clock.second / 60) ++ be1 s.clock.weekday.val
      ++ be2 s.clock.meterDay ++ be1 s.clock.meterWeekday.val ++ be4 s.clock.counter
      ++ flagByte (s.clock.counter = 4294967295))) := by
  have wall : s.clock.wallPayload = _ := if_pos isSet
  simp only [clkread, withFields_fields, wall, isSet, List.append_assoc]
  rfl

theorem clkread_unset {s : State} (unset : s.clock.isSet = false) : clkread (.fields ()) s =
    (s, ok (be1 0 ++ be2 0 ++ be4 0 ++ be2 0 ++ be1 0 ++ be2 s.clock.meterDay ++ be1 s.clock.meterWeekday.val
      ++ be4 s.clock.counter ++ flagByte (s.clock.counter = 4294967295))) := by
  have wall : s.clock.wallPayload = _ := if_neg (ne_true_of_eq_false unset)
  simp only [clkread, withFields_fields, wall, unset, List.append_assoc]
  rfl

/-- A command in LOADING is answered STARTING, in place of what was held, and its owner does nothing (R198). -/
theorem command_loading {s : State} (loading : s.link.state = .loading) (i : Instr) (owner : State → State × Reply) :
    State.command i owner s =
      (State.discardHeld { s with link.miso := [] }).hold ⟨.starting, codeOf i, []⟩ := by
  have other : s.link.state ≠ .executing i := by rw [loading]; nofun
  have met : State.dispatch i { s with link.miso := [] } =
      (State.discardHeld { s with link.miso := [] }).hold ⟨.starting, codeOf i, []⟩ := by
    simp only [State.dispatch, loading]
  have stays : (State.dispatch i { s with link.miso := [] }).link.state ≠ .executing i := by
    rw [dispatch_loading (s := { s with link.miso := [] }) loading i]; nofun
  rw [State.command, if_neg other]
  dsimp only
  rw [if_neg stays, met]

theorem discardHeld_notices (s : State) : s.discardHeld.notices = s.notices := by
  obtain ⟨link, discarded⟩ := discardHeld_link s
  rw [discarded]

/-- Settles O36: the owner reads the clock, and the link port answers for it while the load runs. -/
theorem clkreadAnswersTheClock : Obligations.ClkreadAnswersTheClock := by
  unfold Obligations.ClkreadAnswersTheClock
  refine fun s => ⟨fun handed isSet => exec_of_owner handed rfl (clkread_set isSet),
    fun handed unset => exec_of_owner handed rfl (clkread_unset unset), fun awake loading => ?_⟩
  refine ⟨_, exec_of_effect awake rfl, ?_⟩
  rw [command_loading loading]
  exact ⟨rfl, discardHeld_notices _⟩

end Sys2Proof.Machine
end

section
/-! PROOFS. A second event (R154, R156): what the clock's advance and the second handed over hold, and O37. -/

namespace Sys2Proof.Machine

/-! ## The advance of the clock (R154, R156) -/

section
variable (c : Clock)

theorem tick_counter : c.tick.counter = min (c.counter + 1) counterMax := by
  unfold Clock.tick; dsimp only
  split
  · rfl
  · split
    · rfl
    · split <;> rfl

theorem tick_isSet : c.tick.isSet = c.isSet := by
  unfold Clock.tick; dsimp only
  split
  · rfl
  · split
    · rfl
    · split <;> rfl

theorem tick_meterWeekday : c.tick.meterWeekday = c.meterWeekday := by
  unfold Clock.tick; dsimp only
  split
  · rfl
  · split
    · rfl
    · split <;> rfl

variable {c}

theorem tick_of_unset (unset : c.isSet = false) : c.tick = { c with counter := min (c.counter + 1) counterMax } := by
  simp only [Clock.tick, unset, Bool.not_false, if_true]

section
variable (isSet : c.isSet = true)
include isSet

theorem tick_of_within (within : c.second < 86399) :
    c.tick = { c with counter := min (c.counter + 1) counterMax, second := c.second + 1 } := by
  simp only [Clock.tick, isSet, Bool.not_true, if_neg Bool.false_ne_true, if_pos within]

theorem tick_of_midnight (last : c.second = 86399) (below : c.day < 65535) : c.tick =
    { c with counter := min (c.counter + 1) counterMax, second := 0, day := c.day + 1, weekday := c.weekday + 1 } := by
  simp only [Clock.tick, isSet, Bool.not_true, if_neg Bool.false_ne_true, last, lt_irrefl, if_false, if_pos below]

/-- The largest day index is held over its midnight (R156). -/
theorem tick_of_lastDay (last : c.second = 86399) (top : c.day = 65535) :
    c.tick = { c with counter := min (c.counter + 1) counterMax, second := 0 } := by
  simp only [Clock.tick, isSet, Bool.not_true, if_neg Bool.false_ne_true, last, top, lt_irrefl, if_false]

end

theorem atMidnight_iff : c.atMidnight = true ↔ c.isSet = true ∧ c.second = 86399 ∧ c.day < 65535 := by
  simp only [Clock.atMidnight, Bool.and_eq_true, decide_eq_true_eq, and_assoc]

end

/-! ## The countdowns (R169, R171) -/

theorem countdown_of_more (n : Nat) : countdown (some (n + 2)) = some (n + 1) ∧ ending (some (n + 2)) = false := by
  simp [countdown, ending]

theorem ending_of_last : ending (some 1) = true := rfl

/-! ## The second event -/

/-- With nothing left over from the second before there is nothing to take (assumption 4). -/
theorem flushDue_of_none {s : State} (none : s.due = Due.none) : s.flushDue = s := by
  have every : takeEveryHanded s = s := by
    have empty : s.handed = [] := by rw [State.handed, none]; rfl
    rw [takeEveryHanded, empty]
  have expiry : takeGrantExpiry s = s := by rw [takeGrantExpiry, none]; rfl
  have metering : takeMeteringSecond s = s := by rw [takeMeteringSecond, none]; rfl
  have interval : takeCommitIntervalEnd s = s := by rw [takeCommitIntervalEnd, none]; rfl
  have timeout : takePoolWaitTimeout s = s := by rw [takePoolWaitTimeout, none]; rfl
  have window : takeWindowExpiry s = s := by rw [takeWindowExpiry, none]; rfl
  have lockout : takeLockoutEnd s = s := by rw [takeLockoutEnd, none]; rfl
  rw [State.flushDue, every, expiry, metering, interval, timeout, window, lockout]

/-- A second that brings no midnight into a day past the meter day is handed to the blocks, and that is all (R159). -/
theorem takeSecond_of_stays {s : State} (clock : s.flushDue.clock = s.clock)
    (stays : s.clock.isSet = true → s.clock.second = 86399 → s.clock.day < 65535 → s.clock.day + 1 ≤ s.clock.meterDay) :
    takeSecond s = s.flushDue.handSecond := by
  have noRollover : ¬ (s.flushDue.clock.atMidnight && s.flushDue.handSecond.rollsOver) = true := by
    rw [Bool.and_eq_true, clock, atMidnight_iff]
    rintro ⟨⟨isSet, last, below⟩, rolls⟩
    have past : s.flushDue.clock.tick.meterDay < s.flushDue.clock.tick.day := of_decide_eq_true rolls
    rw [clock, tick_of_midnight isSet last below] at past
    exact absurd (stays isSet last below) (Nat.not_le.mpr past)
  exact if_neg noRollover

/-- Settles O37: with nothing left to take, the second event is the second handed over, whose clock is the advance of
R156. -/
theorem secondEventAdvances : Obligations.SecondEventAdvances := by
  unfold Obligations.SecondEventAdvances
  intro s awake none stays
  have flushed : s.flushDue = s := flushDue_of_none none
  have second : takeSecond s = s.handSecond := by
    rw [takeSecond_of_stays (congrArg State.clock flushed) stays, flushed]
  have clock : s.handSecond.clock = s.clock.tick := rfl
  have minute : s.handSecond.due.minute = (s.clock.tick.isSet && decide (s.clock.tick.second % 60 = 0)) := rfl
  refine ⟨s.handSecond, ?_, rfl, tick_counter _, tick_isSet _, tick_meterDay _, tick_meterWeekday _,
    fun unset => ?_, fun isSet within => ?_, fun isSet last below => ?_, fun isSet last top => ?_, ?_, rfl, rfl, rfl,
    fun below => ⟨if_pos below, decide_eq_false (by omega)⟩, fun last => decide_eq_true last.ge, rfl,
    fun n window => ?_, fun window => ?_, fun n lockout => ?_, fun lockout => ?_⟩
  · rw [exec_of_effect awake (effect := takeSecond) rfl, second]
  · rw [clock, tick_of_unset unset]; exact ⟨rfl, rfl, rfl⟩
  · rw [clock, tick_of_within isSet within]; exact ⟨rfl, rfl, rfl⟩
  · rw [clock, tick_of_midnight isSet last below]; exact ⟨rfl, rfl, rfl⟩
  · rw [clock, tick_of_lastDay isSet last top]; exact ⟨top, rfl, rfl⟩
  · rw [minute, tick_isSet, Bool.and_eq_true, decide_eq_true_eq, clock]
  · show countdown s.authority.window = _ ∧ ending s.authority.window = _
    rw [window]; exact countdown_of_more n
  · show ending s.authority.window = _
    rw [window]; exact ending_of_last
  · show countdown s.authority.lockout = _ ∧ ending s.authority.lockout = _
    rw [lockout]; exact countdown_of_more n
  · show ending s.authority.lockout = _
    rw [lockout]; exact ending_of_last

end Sys2Proof.Machine
end

section
/-! SUPPORT. What evaluations, waits and draws make of the meter dirty flag and of the notice set: the flag is never
cleared, and only members of the set are added (R114, R203). -/

namespace Sys2Proof.Machine

/-! ## The notice set -/

/-- The bits of the notice set that have no member are 0 (11.6). -/
def State.NoticesInRange (s : State) : Prop := s.notices.toNat < 16384

theorem notice_bit_lt (n : Notice) : n.bit < 14 := by
  cases n with
  | seatChanged k => exact Nat.lt_trans k.isLt (by decide)
  | _ => decide

theorem addNotice_inRange {s : State} (h : s.NoticesInRange) (n : Notice) : (s.addNotice n).NoticesInRange := by
  have member : (BitVec.twoPow 16 n.bit).toNat < 2 ^ 14 := by
    rw [BitVec.toNat_twoPow]
    exact (Nat.mod_le ..).trans_lt (Nat.pow_lt_pow_right Nat.one_lt_two (notice_bit_lt n))
  unfold State.NoticesInRange
  rw [State.addNotice_notices, BitVec.toNat_or]
  exact Nat.or_lt_two_pow h member

/-! ## The relation -/

/-- Work on seats, waits and draws that clears no dirty flag and adds notices of the set alone. -/
structure MarksKept (s t : State) : Prop where
  work : SeatWork s t
  dirty : s.meterDirty = true → t.meterDirty = true
  notices : s.NoticesInRange → t.NoticesInRange

theorem MarksKept.of_tables {s t : State} (work : SeatWork s t := by rfl) (notices : t.notices = s.notices := by rfl)
    (dirty : s.meterDirty = true → t.meterDirty = true := by exact id) : MarksKept s t :=
  ⟨work, dirty, fun h => by unfold State.NoticesInRange; rw [notices]; exact h⟩

theorem MarksKept.refl (s : State) : MarksKept s s := .of_tables

theorem MarksKept.trans {s t u : State} (h : MarksKept s t) (h' : MarksKept t u) : MarksKept s u :=
  ⟨h.work.trans h'.work, h'.dirty ∘ h.dirty, h'.notices ∘ h.notices⟩

theorem MarksKept.foldl {α : Type} {f : State → α → State} (hf : ∀ s a, MarksKept s (f s a)) (l : List α) (s : State) :
    MarksKept s (l.foldl f s) := List.foldlRecOn l f (.refl s) fun t h a _ => h.trans (hf t a)

theorem MarksKept.addNotice (s : State) (n : Notice) : MarksKept s (s.addNotice n) :=
  ⟨.addNotice s n, id, (addNotice_inRange · n)⟩

theorem MarksKept.noteSeats (before s : State) : MarksKept s (State.noteSeats before s) := by
  refine .foldl (fun s j => ?_) _ s
  unfold State.noteSeat
  split
  · exact .refl s
  · exact .addNotice ..

/-! ## Evaluation -/

theorem MarksKept.putSeat (s : State) (j : Fin 6) (es : List Entry) (p : Option Programme) :
    MarksKept s (s.putSeat j es p) := .of_tables

theorem MarksKept.writeEntries (s : State) (f : Seat → Entry → EntryState) : MarksKept s (s.writeEntries f) := .of_tables

theorem MarksKept.raiseRequest (s : State) (k : Fin 16) : MarksKept s (s.raiseRequest k) := by
  unfold State.raiseRequest; dsimp only
  split
  · exact .refl s
  · have joined : ∀ q, MarksKept s { s with requests := q } := fun _ => .of_tables
    split
    · exact (joined _).trans (.addNotice ..)
    · exact joined _

theorem MarksKept.judgeAll (p : Programme) (g w : Bool) (sel : Entry → Bool) (s : State) (es : List Entry) :
    MarksKept s (State.judgeAll p g w sel s es).1 := by
  have judged : ∀ (s : State) (e : Entry), MarksKept s (s.judge p g w e).1 := by
    intro s e
    rcases judge_cases s p g w e with h | h <;> rw [h]
    · exact .refl s
    · exact .raiseRequest ..
  induction es generalizing s with
  | nil => exact .refl s
  | cons e es ih =>
    unfold State.judgeAll; dsimp only; split
    · exact (judged s e).trans (ih _)
    · exact ih s

theorem MarksKept.reevalSeat (w : Bool) (sel : Entry → Bool) (s : State) (j : Fin 6) :
    MarksKept s (s.reevalSeat w sel j) := by
  unfold State.reevalSeat; split
  · exact .refl s
  · exact (MarksKept.judgeAll ..).trans (.putSeat ..)

theorem MarksKept.reeval (s : State) (sel : Entry → Bool) : MarksKept s (s.reeval sel) :=
  .foldl (.reevalSeat true sel) _ s

theorem MarksKept.dropEntry (k : Fin 16) (s : State) (j : Fin 6) : MarksKept s (s.dropEntry k j) := by
  unfold State.dropEntry; dsimp only; split
  · split
    · exact (MarksKept.putSeat ..).trans (.reevalSeat ..)
    · exact .putSeat ..
  · exact .refl s

theorem MarksKept.rederiveSeat (k : Fin 8) (s : State) (j : Fin 6) : MarksKept s (s.rederiveSeat k j) := by
  rw [rederiveSeat_eq]; split
  · exact (MarksKept.putSeat ..).trans (.reevalSeat ..)
  · exact .refl s

/-! ## Exhaustion and waits -/

/-- A wind-down sets the flag with the profile's record (R93, R114). -/
theorem MarksKept.windDownOrDeny (s : State) (k : Fin 16) (sel : Seat → Entry → Bool) :
    MarksKept s (s.windDownOrDeny k sel) := by
  unfold State.windDownOrDeny; dsimp only; split
  · exact .of_tables rfl rfl fun _ => rfl
  · exact .writeEntries ..

theorem MarksKept.exhaustionCheck (s : State) (k : Fin 16) : MarksKept s (s.exhaustionCheck k) := by
  unfold State.exhaustionCheck State.exhaust; dsimp only; split
  · split
    · exact .writeEntries ..
    · split
      · exact (MarksKept.raiseRequest s k).trans (.writeEntries ..)
      · exact .windDownOrDeny ..
  · exact .refl s

theorem MarksKept.afterDecrease (s before : State) (k : Fin 16) : MarksKept s (s.afterDecrease before k) := by
  unfold State.afterDecrease; split
  · exact .exhaustionCheck s k
  · exact .refl s

theorem MarksKept.endOfWait (s : State) (k : Fin 16) : MarksKept s (s.endOfWait k) := by
  unfold State.endOfWait; split
  · split
    · exact .reeval ..
    · exact .windDownOrDeny ..
  · exact .refl s

/-- The debits of a second set the flag where a record changes (R98, R114). -/
theorem MarksKept.debitAll (s : State) : MarksKept s s.debitAll := by
  refine .of_tables ?_ ?_ fun dirty => ?_ <;> rw [debitAll_eq]
  · rfl
  · rw [dirty]; rfl

theorem MarksKept.checkProfile (s : State) (k : Fin 16) : MarksKept s (s.checkProfile k) := by
  unfold State.checkProfile; split
  · split
    · exact (MarksKept.writeEntries ..).trans (.exhaustionCheck ..)
    · exact .refl s
  · exact .refl s

/-! ## Draws -/

theorem MarksKept.creditDraw (s : State) (k : Fin 16) (g : Nat) : MarksKept s (s.creditDraw k g) := by
  unfold State.creditDraw; dsimp only
  refine MarksKept.trans (t := { s with
    meters := s.meters.set k { s.meters[k] with drawn := s.meters[k].drawn + g, draws := s.meters[k].draws + 1 }
    meterDirty := true }) (.of_tables rfl rfl fun _ => rfl) ?_
  split
  · exact .reeval ..
  · split
    · exact .raiseRequest ..
    · exact .windDownOrDeny ..

theorem MarksKept.drawFor (s : State) (r : Request) : MarksKept s (s.drawFor r) := by
  rw [drawFor_eq]
  exact MarksKept.trans (t := s.paidOut r) (.of_tables rfl rfl fun _ => rfl) (.creditDraw ..)

theorem MarksKept.draws (fuel : Nat) (s : State) : MarksKept s (State.draws fuel s).1 := by
  induction fuel generalizing s with
  | zero => exact .refl s
  | succ n ih =>
    unfold State.draws; split
    · exact .refl s
    · split
      · exact .refl s
      · exact (MarksKept.drawFor s _).trans (ih _)

theorem MarksKept.opportunity (s : State) : MarksKept s s.opportunity.1 := by
  unfold State.opportunity; dsimp only; split
  · exact (MarksKept.draws ..).trans (.addNotice ..)
  · exact .draws ..

/-- The end of an event that touches seats (R46, R60, R128). -/
theorem MarksKept.settle (s before : State) (offered : Bool) : MarksKept s (s.settle before offered).1 := by
  have released : MarksKept s s.releaseWaits := .of_tables
  unfold State.settle State.settleWaits; dsimp only
  refine released.trans ?_
  split
  · exact (MarksKept.opportunity ..).trans (.noteSeats ..)
  · exact .noteSeats ..

theorem MarksKept.settled (s before : State) (offered : Bool) : MarksKept s (s.settled before offered) :=
  .settle s before offered

/-! ## The pieces of a rollover and of a comparison with the clock -/

/-- What follows a piece's writes in the tables (R112, R133, R147, R149). -/
theorem takeClockWork_marks (s : State) (w : ClockWork) : MarksKept (s.clockTables w) (s.takeClockWork w) := by
  cases w with
  | compare =>
    show MarksKept (s.retiring _) (s.expireGrants s.now)
    unfold State.retiring State.expireGrants; dsimp only
    split
    · exact .reeval ..
    · exact .refl s
  | roll part =>
    cases part with
    | meters =>
      show MarksKept (State.clockTables s (.roll .meters)) s.rollMeters
      exact .reeval ..
    | pool =>
      show MarksKept (State.clockTables s (.roll .pool)) s.rollPool
      exact MarksKept.foldl (fun t (r : Request) => .endOfWait t r.slot) s.requests _
    | grants =>
      show MarksKept (s.retiring _) s.retireExtra
      unfold State.retiring State.retireExtra; dsimp only
      split
      · exact (MarksKept.foldl (fun t k => .afterDecrease t s k) _ _).trans (.reeval ..)
      · exact .refl s
    | seats =>
      show MarksKept s (s.reeval everyEntry)
      exact .reeval ..

theorem retiring_dirty (s : State) (sel : Grant → Bool) : (s.retiring sel).meterDirty = s.meterDirty := by
  rw [retiring_eq]

theorem clockTables_dirty (s : State) (w : ClockWork) (dirty : s.meterDirty = true) :
    (s.clockTables w).meterDirty = true := by
  cases w with
  | compare => exact (retiring_dirty ..).trans dirty
  | roll part =>
    cases part with
    | meters => exact congrArg State.meterDirty (State.commit_queueWith _ meterBlock)
    | pool => rfl
    | grants => exact (retiring_dirty ..).trans dirty
    | seats => exact dirty

theorem takeClockWork_inRange (s : State) (w : ClockWork) (h : s.NoticesInRange) :
    (s.takeClockWork w).NoticesInRange := by
  refine (takeClockWork_marks s w).notices ?_
  unfold State.NoticesInRange
  rw [clockTables_notices]
  exact h

end Sys2Proof.Machine
end

section
/-! SUPPORT. What the owners of the store's blocks write as the start-up load hands them over (R39, R40, R116, R122, R152,
R166, R193). -/

namespace Sys2Proof.Machine

/-- The two states differ at most in the working copies, the meter day and weekday, and the store, and the meter day
stays in its range. -/
structure LoadWork (s t : State) : Prop where
  frame : t = { s with
    slots := t.slots, schemes := t.schemes, settings := t.settings, grants := t.grants, meters := t.meters
    meterDirty := t.meterDirty, pool := t.pool, store := t.store
    clock := { s.clock with meterDay := t.clock.meterDay, meterWeekday := t.clock.meterWeekday } }
  meterDay : s.clock.meterDay ≤ 65535 → t.clock.meterDay ≤ 65535

theorem LoadWork.of_store {s t : State} (h : StoreWork s t) : LoadWork s t := by
  rw [h]; exact ⟨rfl, id⟩

theorem LoadWork.refl (s : State) : LoadWork s s := .of_store rfl

theorem LoadWork.trans {s t u : State} (h : LoadWork s t) (h' : LoadWork t u) : LoadWork s u := by
  refine ⟨?_, h'.meterDay ∘ h.meterDay⟩
  rw [h'.frame, h.frame]

theorem LoadWork.commit (s : State) (b : BlockId) : LoadWork s (s.commit b) := .of_store (.commit ..)

variable (s : State)

theorem LoadWork.settleHousehold (r : ReadResult) : LoadWork s (s.settleHousehold r) := by
  have take : ∀ h v, LoadWork s (State.setStatus { s with settings := h } householdBlock v) := fun _ _ => ⟨rfl, id⟩
  unfold State.settleHousehold; dsimp only
  split
  · exact take ..
  · split
    · exact take ..
    · exact (take ..).trans (.commit ..)
  · exact (take ..).trans (.commit ..)

theorem LoadWork.settleScheme (k : Fin 8) (r : ReadResult) : LoadWork s (s.settleScheme k r) := by
  have taken : ∀ c v, LoadWork s (State.setStatus { s with schemes := s.schemes.set k c } (schemeBlock k) v) :=
    fun _ _ => ⟨rfl, id⟩
  unfold State.settleScheme; dsimp only
  split
  · exact taken ..
  · split <;> exact taken ..
  · exact taken ..

theorem LoadWork.takeSlot (k : Fin 16) (slot : Slot) (v : BlockStatus) : LoadWork s (s.takeSlot k slot v) := ⟨rfl, id⟩

theorem LoadWork.withoutRecord (k : Fin 16) (slot : Slot) (v : BlockStatus) :
    LoadWork s (s.withoutRecord k slot v) := by
  unfold State.withoutRecord
  split
  · exact (LoadWork.takeSlot ..).trans (.commit ..)
  · exact .takeSlot ..

theorem LoadWork.tokenLaw : LoadWork s s.tokenLaw := by
  refine List.foldlRecOn _ State.tokenLawAt (LoadWork.refl s) fun t h k _ => h.trans ?_
  unfold State.tokenLawAt
  split
  · exact .takeSlot ..
  · exact .refl t

theorem LoadWork.settleProfile (k : Fin 16) (r : ReadResult) : LoadWork s (s.settleProfile k r) := by
  have lawTaken : ∀ x : State, LoadWork x (if k = 15 then x.tokenLaw else x) := by
    intro x
    split
    · exact .tokenLaw x
    · exact .refl x
  unfold State.settleProfile; dsimp only
  refine LoadWork.trans ?_ (lawTaken _)
  split
  · exact .withoutRecord ..
  · split
    · exact .takeSlot ..
    · exact .withoutRecord ..
  · exact .withoutRecord ..

/-- A meter block's meter day is taken only within the checks of R116. -/
theorem LoadWork.settleMeters (r : ReadResult) : LoadWork s (s.settleMeters r) := by
  have taken : ∀ (meters : Vector Meter 16) (dirty : Bool) (day : Nat) (w : Fin 7) (pool : Pool) (v : BlockStatus),
      day ≤ 65535 → LoadWork s (State.setStatus { s with
        meters := meters, meterDirty := dirty, clock := { s.clock with meterDay := day, meterWeekday := w }
        pool := pool } meterBlock v) := fun _ _ _ _ _ _ inRange => ⟨rfl, fun _ => inRange⟩
  have without : ∀ v, LoadWork s (s.withoutMeters v) := fun _ => taken _ _ _ _ _ _ (Nat.zero_le _)
  unfold State.settleMeters
  split
  · exact without _
  · split
    · next checked => exact taken _ _ _ _ _ _ (meterDay_of_weekday checked)
    · exact without _
  · exact without _

theorem LoadWork.retireGrants (sel : Grant → Bool) : LoadWork s (s.retireGrants sel) := by
  refine ⟨?_, ?_⟩
  · unfold State.retireGrants; rfl
  · rw [State.retireGrants_clock]; exact id

theorem LoadWork.settleGrants (r : ReadResult) : LoadWork s (s.settleGrants r) := by
  have taken : ∀ table v, LoadWork s (s.takeGrants table v) := fun _ _ => ⟨rfl, id⟩
  unfold State.settleGrants; dsimp only
  split
  · exact taken ..
  · split
    · split
      · exact ((taken ..).trans (.retireGrants ..)).trans (.commit ..)
      · exact taken ..
    · exact (taken ..).trans (.commit ..)
  · exact (taken ..).trans (.commit ..)

/-- Whichever block was read, its owner writes its own working copy and the store's part of it. -/
theorem LoadWork.handBlock (b : BlockId) (r : ReadResult) : LoadWork s (s.handBlock b r) := by
  unfold State.handBlock
  split
  · exact .settleProfile ..
  · split
    · exact .settleScheme ..
    · split
      · exact .settleHousehold ..
      · split
        · exact .settleGrants ..
        · exact .settleMeters ..

end Sys2Proof.Machine
end

section
/-! PROOFS. The clock law over every row (R115, R154, R155, R156, R158, R159, R161), and O56. -/

namespace Sys2Proof.Machine

/-! ## What keeps the law -/

/-- The clocks and the notice set meet their law after, if they did before. -/
structure ClockKept (s t : State) : Prop where
  law : s.ClockLaw → t.ClockLaw

theorem clockLaw_iff (s : State) : s.ClockLaw ↔ s.clock.counter ≤ counterMax ∧ s.clock.day ≤ 65535
    ∧ s.clock.second ≤ 86399 ∧ s.clock.meterDay ≤ 65535
    ∧ (s.clock.isSet = false → s.clock.day = 0 ∧ s.clock.second = 0 ∧ s.clock.weekday = 0)
    ∧ s.interval ≤ 299 ∧ s.NoticesInRange := Iff.rfl

/-- The clocks stand, and the notice set takes members alone. -/
theorem ClockKept.of_notices {s t : State} (notices : s.NoticesInRange → t.NoticesInRange)
    (clock : t.clock = s.clock := by rfl) (interval : t.interval = s.interval := by rfl) : ClockKept s t := by
  constructor
  rw [clockLaw_iff, clockLaw_iff, clock, interval]
  rintro ⟨counter, day, second, meterDay, unset, inInterval, inRange⟩
  exact ⟨counter, day, second, meterDay, unset, inInterval, notices inRange⟩

theorem ClockKept.of_same {s t : State} (notices : t.notices = s.notices := by rfl)
    (clock : t.clock = s.clock := by rfl) (interval : t.interval = s.interval := by rfl) : ClockKept s t :=
  .of_notices (fun h => by unfold State.NoticesInRange; rw [notices]; exact h) clock interval

theorem ClockKept.refl (s : State) : ClockKept s s := ⟨id⟩

theorem ClockKept.trans {s t u : State} (h : ClockKept s t) (h' : ClockKept t u) : ClockKept s u := ⟨h'.law ∘ h.law⟩

theorem ClockKept.foldl {α : Type} {f : State → α → State} (hf : ∀ s a, ClockKept s (f s a)) (l : List α) (s : State) :
    ClockKept s (l.foldl f s) := List.foldlRecOn l f (.refl s) fun t h a _ => h.trans (hf t a)

theorem ClockKept.of_marks {s t : State} (h : MarksKept s t) : ClockKept s t :=
  .of_notices h.notices h.work.clock (by rw [h.work])

theorem ClockKept.of_store {s t : State} (h : StoreWork s t) : ClockKept s t :=
  .of_same (by rw [h]) (by rw [h]) (by rw [h])

theorem ClockKept.of_load {s t : State} (h : LoadWork s t) : ClockKept s t := by
  constructor
  rw [clockLaw_iff, clockLaw_iff]
  rintro ⟨counter, day, second, meterDay, unset, inInterval, inRange⟩
  have inDays := h.meterDay meterDay
  unfold State.NoticesInRange at *
  rw [h.frame] at inDays ⊢
  exact ⟨counter, day, second, inDays, unset, inInterval, inRange⟩

theorem ClockKept.addNotice (s : State) (n : Notice) : ClockKept s (s.addNotice n) := .of_marks (.addNotice s n)

theorem ClockKept.settled (s before : State) (offered : Bool) : ClockKept s (s.settled before offered) :=
  .of_marks (.settled ..)

theorem ClockKept.judged (s before : State) (sel : Entry → Bool) (offered : Bool) :
    ClockKept s ((s.reeval sel).settled before offered) := .of_marks ((MarksKept.reeval ..).trans (.settled ..))

theorem ClockKept.withStore (s : State) (x : Store) : ClockKept s { s with store := x } := .of_same

theorem ClockKept.commit (s : State) (b : BlockId) : ClockKept s (s.commit b) := .of_store (.commit ..)

/-- A change of other tables and its commit request. -/
theorem ClockKept.committed {s t : State} {b : BlockId} (same : ClockKept s t := by exact .of_same) :
    ClockKept s (t.commit b) := same.trans (.commit ..)

theorem ClockKept.retiring (s : State) (sel : Grant → Bool) : ClockKept s (s.retiring sel) := by
  refine .of_same ?_ ?_ ?_ <;> rw [retiring_eq]

theorem ClockKept.retireGrants (s : State) (sel : Grant → Bool) : ClockKept s (s.retireGrants sel) :=
  .of_same (State.retireGrants_notices ..) (State.retireGrants_clock ..) (State.retireGrants_interval ..)

theorem ClockKept.closeWindow (s : State) : ClockKept s s.closeWindow := by
  unfold State.closeWindow
  split
  · exact .refl s
  · exact ClockKept.trans (.of_same) (.addNotice _ .guardianClosed)

theorem ClockKept.clearNotices {s t : State} (cleared : t.notices = 0) (clock : t.clock = s.clock := by rfl)
    (interval : t.interval = s.interval := by rfl) : ClockKept s t := by
  refine .of_notices (fun _ => ?_) clock interval
  unfold State.NoticesInRange
  rw [cleared]; decide

/-! ## The effects of commands -/

theorem ClockKept.changeScheme (s : State) (k : Fin 8) (c : SchemeSlot) : ClockKept s (s.changeScheme k c) := by
  have written : ClockKept s (s.withScheme k c) := .of_same
  have rederived : MarksKept (s.withScheme k c) (s.rederived k c) := .foldl (.rederiveSeat k) _ _
  rw [changeScheme_eq]
  exact ((written.trans (.of_marks rederived)).trans (.withStore ..)).trans (.settled ..)

theorem ClockKept.installChange (s : State) (b : EditBuffer) : ClockKept s (s.installChange b) := by
  have changed : ClockKept s (s.changed b) := .of_same
  have decreased : MarksKept (s.changed b) (s.decreased b) := .afterDecrease ..
  rw [installChange_eq]
  exact (changed.trans (.of_marks decreased)).trans (.judged ..)

theorem ClockKept.retired (s : State) (k : Fin 16) : ClockKept s (s.retired k) := by
  have unseated : ClockKept s (s.unseated k) := by
    rw [State.unseated]; exact .of_marks (.foldl (MarksKept.dropEntry k) _ s)
  have dropped : ∀ t : State, ClockKept t (t.dropRequest k) := fun _ => .of_same
  have cleared : ∀ t : State, ClockKept t (t.clearMeter k) := fun _ => .of_same
  have freed : ∀ (t : State) slots store, ClockKept t { t with slots := slots, store := store } := fun _ _ _ => .of_same
  rw [retired_eq]
  refine ClockKept.trans (ClockKept.trans ?_ (freed (s.cleared k) _ _)) (.settled ..)
  exact ((unseated.trans (dropped _)).trans (.retireGrants ..)).trans (cleared _)

theorem MarksKept.enter (s : State) (j : Fin 6) (k : Fin 16) : MarksKept s (s.enter j k) := by
  have entered : MarksKept s (s.entered j k) := (MarksKept.putSeat ..).trans (.reevalSeat ..)
  have shared : MarksKept s (s.shared j k) := by
    unfold State.shared
    split
    · exact entered.trans (.reevalSeat ..)
    · exact entered
  rw [enter_eq]
  exact shared.trans (.settled ..)

theorem ClockKept.putGrant (s : State) (i k : Fin 16) (b : GrantBody) : ClockKept s (s.putGrant i k b) := by
  rw [putGrant_eq]
  exact ClockKept.trans (t := s.granted i k b) (.of_same) (.judged ..)

theorem ClockKept.addGrant (s : State) (k : Fin 16) (b : GrantBody) : ClockKept s (s.addGrant k b).1 := by
  unfold State.addGrant
  split
  · split
    · next i _ _ g _ =>
      rcases changeGrant_cases s i k g.body b with same | put
      · rw [same]; exact .refl s
      · rw [put]; exact .putGrant ..
    · exact .refl s
  · split
    · rw [createGrant_state]; exact .putGrant ..
    · exact .refl s

theorem ClockKept.revoke (s : State) (i k : Fin 16) : ClockKept s (s.revoke i k) := by
  rw [revoke_eq]
  refine ClockKept.trans (t := s.ungranted i) (.of_same) ?_
  exact ClockKept.trans (.of_marks (.afterDecrease ..)) (.judged ..)

theorem ClockKept.putSettings (s : State) (h : Settings) : ClockKept s (s.putSettings h) := by
  have written : ClockKept s { s with settings := h } := .of_same
  have judged : ClockKept s (if h.groupOrder = s.settings.groupOrder then { s with settings := h }
      else (State.reeval { s with settings := h } everyEntry).settled s false) := by
    split
    · exact written
    · exact written.trans (.judged ..)
  unfold State.putSettings; dsimp only
  split
  · exact judged
  · exact judged.trans (.commit ..)

/-! ## The time set -/

theorem worked_inRange {s : State} (h : s.NoticesInRange) : s.worked.NoticesInRange := by
  obtain ⟨l, n, -, run⟩ := worked_plan s
  have tested : s.tested.NoticesInRange := by
    unfold State.tested
    split
    · exact addNotice_inRange h _
    · exact h
  rw [run]
  refine List.foldlRecOn l State.takeClockWork (motive := State.NoticesInRange) ?_
    fun t inRange w _ => takeClockWork_inRange t w inRange
  exact tested

/-- The time given is in range and makes the clock SET (R160, R161). -/
theorem ClockKept.clockSet (s : State) (a : ClksetArgs) (w : Fin 7) (inDay : a.second.toNat ≤ 86399) :
    ClockKept s (s.clockSet a w) := by
  constructor
  rw [clockLaw_iff, clockLaw_iff]
  rintro ⟨counter, -, -, meterDay, -, inInterval, inRange⟩
  have day : a.day.toNat ≤ 65535 := Nat.le_of_lt_succ a.day.isLt
  have interval : (s.clockSet a w).interval = s.interval := by
    rw [clockSet_work s a w, tested_eq]; rfl
  have notices : (s.clockSet a w).NoticesInRange := by
    rw [clockSet_eq]
    exact (MarksKept.settled ..).notices (worked_inRange inRange)
  rw [interval, clockSet_clock, retimed_tested_clock]
  refine ⟨counter, day, inDay, ?_, nofun, inInterval, notices⟩
  dsimp only
  split
  · exact day
  · exact meterDay

theorem ClockKept.of_command {s t : State} (h : CommandEffect s t) : ClockKept s t := by
  cases h with
  | answers => exact .refl s
  | changeScheme c => exact .changeScheme ..
  | lockScheme | unsetPin | setPin => exact .committed
  | edit | dropEdit | admitPin | failPin => exact .of_same
  | installNew => exact ClockKept.trans (.committed) (.commit ..)
  | installChange => exact .installChange ..
  | retired => exact .retired ..
  | enter => exact .of_marks (.enter ..)
  | leave j k => exact .of_marks ((MarksKept.dropEntry k s j).trans (.settled ..))
  | vacate j => exact .of_marks ((MarksKept.putSeat s j [] none).trans (.settled ..))
  | startProgramme j p => exact .of_marks (((MarksKept.putSeat ..).trans (.reevalSeat ..)).trans (.settled ..))
  | endProgramme j => exact .of_marks ((MarksKept.putSeat ..).trans (.settled ..))
  | topUp x => exact ClockKept.trans (.committed) (.of_marks (.settle ..))
  | addGrant => exact .addGrant ..
  | revoke => exact .revoke ..
  | clockSet a w inDay => exact .clockSet s a w inDay
  | closeWindow => exact .closeWindow s
  | putSettings => exact .putSettings ..
  | retryFailed =>
    have cleared : ClockKept s { s with store := { s.store with faultLatch := false } } := .of_same
    exact cleared.trans (.foldl ClockKept.commit _ _)
  | clearNotices => exact .clearNotices rfl
  | restarted =>
    have emptied : ClockKept s s.emptied := .clearNotices rfl
    exact emptied.trans (.closeWindow _)

/-! ## The events of a second -/

theorem ClockKept.takeClockWork (s : State) (w : ClockWork) : ClockKept s (s.takeClockWork w) := by
  have work := takeClockWork_work s w
  exact .of_notices (takeClockWork_inRange s w) (by rw [work]) (by rw [work])

theorem ClockKept.takeHanded (s : State) (w : Handed) : ClockKept s (s.takeHanded w) := by
  cases w with
  | boundary => exact ClockKept.trans (t := s.bounded) (.of_same) (.judged _ s everyEntry false)
  | roll p =>
    show ClockKept s (s.takeHandedRoll p)
    rw [takeHandedRoll_eq]
    exact ClockKept.trans (t := s.partTaken p) (.of_same) ((ClockKept.takeClockWork ..).trans (.settled ..))

theorem takeGrantExpiry_marks {s : State} {now : Moment} (due : s.due.expiry = some now) :
    MarksKept (s.expired now) (takeGrantExpiry s) := by
  rw [takeGrantExpiry_eq due]
  cases loses : s.compared.losesAny (expiredAt now) with
  | true => rw [expireGrants_of_loses loses]; exact (MarksKept.reeval ..).trans (.settled ..)
  | false => rw [expireGrants_of_losesNone loses]; exact .settled ..

theorem ClockKept.takeGrantExpiry (s : State) : ClockKept s (takeGrantExpiry s) := by
  cases due : s.due.expiry with
  | none => rw [Machine.takeGrantExpiry, due]; exact .refl s
  | some now =>
    have compared : ClockKept s s.compared := .of_same
    exact (compared.trans (.retiring _ (expiredAt now))).trans (.of_marks (takeGrantExpiry_marks due))

theorem meterSecond_marks (s : State) :
    MarksKept { s with due := { s.due with metering := false } } s.meterSecond := by
  have checked : MarksKept s s.checked := by
    unfold State.checked
    exact ((MarksKept.debitAll s).trans (.writeEntries ..)).trans (.foldl MarksKept.checkProfile _ _)
  have taken : MarksKept { s with due := { s.due with metering := false } }
      { s.checked with due := { s.checked.due with metering := false } } := by
    refine ⟨?_, checked.dirty, checked.notices⟩
    rw [checked.work]; rfl
  rw [meterSecond_eq]
  exact taken.trans (.settled ..)

theorem ClockKept.meterSecond (s : State) : ClockKept s s.meterSecond :=
  ClockKept.trans (.of_same) (.of_marks (meterSecond_marks s))

theorem timeoutCheck_marks (s : State) : MarksKept s.withoutLate s.timeoutCheck := by
  rw [timeoutCheck_eq]
  exact (MarksKept.foldl (fun t (r : Request) => .endOfWait t r.slot) _ _).trans (.settled ..)

/-- The commit interval count ends at 300 and begins anew at 0 (R115). -/
theorem ClockKept.takeCommitIntervalEnd (s : State) : ClockKept s (takeCommitIntervalEnd s) := by
  have begun : ClockKept s { s with interval := 0, due := { s.due with interval := false } } := by
    refine ⟨fun ⟨counter, day, second, meterDay, unset, _, notices⟩ => ?_⟩
    exact ⟨counter, day, second, meterDay, unset, Nat.zero_le _, notices⟩
  unfold Machine.takeCommitIntervalEnd; dsimp only
  split
  · split
    · exact begun.trans (.commit ..)
    · exact begun
  · exact .refl s

/-! ## The second event -/

/-- The advance of R156 keeps the time of day within a day, the day index within its range, and an UNSET clock at 0. -/
theorem tick_inRange {c : Clock} (day : c.day ≤ 65535) (second : c.second ≤ 86399)
    (unset : c.isSet = false → c.day = 0 ∧ c.second = 0 ∧ c.weekday = 0) : c.tick.second ≤ 86399
      ∧ (c.tick.isSet = false → c.tick.day = 0 ∧ c.tick.second = 0 ∧ c.tick.weekday = 0) := by
  cases isSet : c.isSet with
  | false =>
    rw [tick_of_unset isSet]
    exact ⟨second, unset⟩
  | true =>
    rw [tick_isSet, isSet]
    refine ⟨?_, nofun⟩
    rcases second.lt_or_eq with within | last
    · rw [tick_of_within isSet within]; exact within
    · rcases day.lt_or_eq with below | top
      · rw [tick_of_midnight isSet last below]; exact Nat.zero_le _
      · rw [tick_of_lastDay isSet last top]; exact Nat.zero_le _

theorem ClockKept.handSecond (s : State) : ClockKept s s.handSecond := by
  refine ⟨fun ⟨_, day, second, meterDay, unset, inInterval, notices⟩ => ?_⟩
  obtain ⟨inDay, stillUnset⟩ := tick_inRange day second unset
  refine ⟨?_, tick_day day, inDay, (tick_meterDay s.clock).trans_le meterDay, stillUnset, ?_, notices⟩
  · exact (tick_counter s.clock).trans_le (min_le_right ..)
  · show (if s.interval < 299 then s.interval + 1 else s.interval) ≤ 299
    split
    · next below => exact below
    · exact inInterval

/-- The meter day that a rollover installs is the day index (R159). -/
theorem ClockKept.installMeterDay (s : State) : ClockKept s s.installMeterDay := by
  have installed : ClockKept s { s with
      clock := { s.clock with meterDay := s.clock.day, meterWeekday := s.clock.weekday }, meterDirty := true } := by
    refine ⟨fun ⟨counter, day, second, _, unset, inInterval, notices⟩ => ?_⟩
    exact ⟨counter, day, second, day, unset, inInterval, notices⟩
  exact installed.trans (.addNotice _ .rollover)

/-! ## The store, the supply and the start-up load -/

theorem ClockKept.takeVerifyComplete (interrupted isMatch : Bool) (s : State) :
    ClockKept s (takeVerifyComplete interrupted isMatch s) := by
  unfold Machine.takeVerifyComplete
  split
  · split
    · split
      · exact ClockKept.trans (.of_same) (.of_store (.takeNextWrite _))
      · split
        · exact .of_store (.beginErase ..)
        · exact (ClockKept.trans (.of_same) (.addNotice _ .storeFault)).trans (.of_store (.takeNextWrite _))
    · exact .refl s
  · exact .refl s

theorem ClockKept.takeSupplyWarning (s : State) : ClockKept s (takeSupplyWarning s) := by
  unfold Machine.takeSupplyWarning
  split
  · exact .refl s
  · exact (ClockKept.trans (.of_same) (.addNotice _ .supplyLow)).trans (.of_store (.urgentSave _))

theorem ClockKept.endLoad (s : State) : ClockKept s s.endLoad := by
  have linked : ClockKept s
      { s with load := none, link.state := if s.link.buffer.isSome then .answered else .ready } := .of_same
  have noticed := (linked.trans (.addNotice _ .started)).trans (.addNotice _ .clockNeeded)
  unfold State.endLoad; dsimp only
  refine ClockKept.trans ?_ (.of_store (.takeNextWrite _))
  split
  · exact noticed.trans (.addNotice _ .storeDamage)
  · exact noticed

theorem ClockKept.takeStoreBlockRead (s : State) : ClockKept s (takeStoreBlockRead s) := by
  have read : ∀ n b, ClockKept s (s.readBlock n b) :=
    fun n b => ClockKept.trans (t := { s with load := some (n + 1) }) (.of_same) (.of_load (.handBlock ..))
  unfold Machine.takeStoreBlockRead
  split
  · exact .refl s
  · split
    · exact .refl s
    · dsimp only
      split
      · exact (read ..).trans (.endLoad _)
      · exact read ..

/-! ## Every row -/

/-- Every row keeps the clock law. -/
theorem clockLaw_rows : RowsRelate ClockKept where
  refl := .refl
  trans := .trans
  link _ _ := .of_same
  pins _ := .of_same
  draw _ _ := .of_same
  command := .of_command
  handed := .takeHanded
  grantExpiry := .takeGrantExpiry
  meteringSecond s := by
    unfold takeMeteringSecond
    split
    · exact .meterSecond s
    · exact .refl s
  windDownEnd s := by
    unfold takeWindDownEnd
    split
    · exact .meterSecond s
    · exact .of_marks ((MarksKept.writeEntries ..).trans (.settled ..))
  commitIntervalEnd := .takeCommitIntervalEnd
  poolWaitTimeout s := by
    unfold takePoolWaitTimeout
    split
    · exact ClockKept.trans (t := s.withoutLate) (.of_same) (.of_marks (timeoutCheck_marks s))
    · exact .refl s
  windowExpiry s := by
    unfold takeWindowExpiry
    split
    · exact .closeWindow s
    · exact .refl s
  lockoutEnd s := by
    unfold takeLockoutEnd
    split <;> exact .of_same
  handSecond := .handSecond
  midnight s := (ClockKept.installMeterDay s).trans (.of_same)
  quietMidnight s before := by
    have rolled := (ClockKept.takeClockWork s.installMeterDay (.roll .meters)).trans (.takeClockWork _ (.roll .pool))
    exact (ClockKept.installMeterDay s).trans (rolled.trans (.settled ..))
  nextWrite s := .of_store (.takeNextWrite s)
  eraseComplete interrupted s := by
    unfold takeEraseComplete
    split
    · split <;> exact .of_same
    · exact .refl s
  programComplete interrupted s := by
    unfold takeProgramComplete
    split
    · split <;> exact .of_same
    · exact .refl s
  verifyComplete := .takeVerifyComplete
  supplyWarning := .takeSupplyWarning
  supplyClear _ := .of_same
  storeBlockRead := .takeStoreBlockRead
  restartWrite s := by
    unfold State.restartWrite; dsimp only
    split
    · exact ClockKept.trans (.of_same) (.of_store (.beginErase ..))
    · exact .of_same
  dipOver _ := .of_same

theorem clockLaw_stepLaw : StepLaw State.ClockLaw where
  pending _ _ := id
  deferred _ _ := id
  dipBegin _ := id
  reset _ _ := ⟨Nat.zero_le _, Nat.zero_le _, Nat.zero_le _, Nat.zero_le _, fun _ => ⟨rfl, rfl, rfl⟩, Nat.zero_le _,
    Nat.zero_lt_succ _⟩
  startUpLoad high millivolts s := by
    unfold takeStartUpLoad
    split <;> exact id
  event i s := (clockLaw_rows.trans (clockLaw_rows.takeEvent i s) (clockLaw_rows.pins _)).law
  endDip s := (clockLaw_rows.endDip s).law

/-- Settles O56: the second event advances the clocks within their ranges, a **clkset** and a rollover install days that
are in range, and every other row leaves the clocks and adds members of the notice set alone. -/
theorem everyStepKeepsTheClockLaw : Obligations.EveryStepKeepsTheClockLaw := clockLaw_stepLaw.keptByEveryStep

end Sys2Proof.Machine
end

section
/-! SUPPORT. What a run of the pieces that a second handed over brings about, whichever they are and in whatever order
(R112, R133, R149, R156, R157, R159, R162). -/

namespace Sys2Proof.Machine

/-! ## One piece -/

/-- What a piece writes in the tables, before any profile's time or verdict is looked at. -/
def State.pieceTables (s : State) : Machine.Handed → State
  | .boundary => s.bounded
  | .roll p => (s.partTaken p).clockTables (.roll p)

/-- The two states differ at most in what the pieces of a second write. -/
def HandedWork (s t : State) : Prop :=
  t = { s with
    due := { s.due with minute := t.due.minute, rollover := t.due.rollover }
    seats := t.seats, requests := t.requests, notices := t.notices, meters := t.meters, meterDirty := t.meterDirty
    pool := t.pool, grants := t.grants, freeCount := t.freeCount, store := { s.store with queue := t.store.queue } }

theorem HandedWork.refl (s : State) : HandedWork s s := rfl

theorem HandedWork.trans {s t u : State} (h : HandedWork s t) (h' : HandedWork t u) : HandedWork s u := by
  unfold HandedWork at *
  rw [h', h]

theorem TableWork.handed {s t : State} (h : TableWork s t) : HandedWork s t := by
  rw [h]; rfl

section
variable (s : State) (w : Handed)

theorem takeHanded_marks : MarksKept (s.pieceTables w) (s.takeHanded w) := by
  cases w with
  | boundary => exact (MarksKept.reeval ..).trans (.settled ..)
  | roll p => exact (takeClockWork_marks ..).trans (.settled ..)

theorem takeHanded_drawn : ∃ n, Drawn n (s.pieceTables w) (s.takeHanded w) := by
  cases w with
  | boundary => exact ⟨_, (Drawn.reeval ..).trans (.settle ..)⟩
  | roll p => exact ⟨_, (takeClockWork_followed (s.partTaken p) (.roll p)).drawn.trans (.settle ..)⟩

theorem takeHanded_kept : SeatsKept s (s.takeHanded w) := by
  have settled : ∀ t : State, SeatsKept t (t.settled s false) := fun t => .settled t s false
  cases w with
  | boundary =>
    have bounded : SeatsKept s s.bounded := .of_eq rfl rfl
    exact (bounded.trans (.reeval _ everyEntry)).trans (settled _)
  | roll p =>
    have parted : SeatsKept s (s.partTaken p) := .of_eq rfl rfl
    exact (parted.trans (takeClockWork_kept _ (.roll p))).trans (settled _)

theorem takeHanded_work : HandedWork s (s.takeHanded w) := by
  cases w with
  | boundary => exact HandedWork.trans (t := s.bounded) rfl (takeHanded_marks s .boundary).work.table.handed
  | roll p => exact HandedWork.trans (t := s.partTaken p) rfl (takeHandedRoll_work s p).handed

theorem takeHanded_clock : (s.takeHanded w).clock = s.clock := by rw [takeHanded_work s w]

theorem takeHanded_settings : (s.takeHanded w).settings = s.settings := by rw [takeHanded_work s w]

theorem takeHanded_minute : (s.takeHanded w).due.minute = (s.due.minute && decide (w ≠ .boundary)) := by
  cases w with
  | boundary =>
    rw [(takeHanded_marks s .boundary).work]
    exact (Bool.and_false _).symm
  | roll p =>
    show (s.takeHandedRoll p).due.minute = _
    rw [takeHandedRoll_work s p]
    exact (Bool.and_true _).symm

theorem takeHanded_dirty (dirty : s.meterDirty = true) : (s.takeHanded w).meterDirty = true := by
  refine (takeHanded_marks s w).dirty ?_
  cases w with
  | boundary => exact dirty
  | roll p => exact clockTables_dirty (s.partTaken p) (.roll p) dirty

theorem takeHanded_notice {x : Notice} (had : s.hasNotice x = true) : (s.takeHanded w).hasNotice x = true := by
  obtain ⟨n, drawn⟩ := takeHanded_drawn s w
  refine drawn.notices x ?_
  cases w with
  | boundary => exact had
  | roll p =>
    have stand : (s.pieceTables (.roll p)).notices = s.notices := clockTables_notices (s.partTaken p) (.roll p)
    unfold State.hasNotice at *
    rw [stand, had]

theorem takeHanded_queued {b : BlockId} (h : s.queued b = true) : (s.takeHanded w).queued b = true := by
  cases w with
  | boundary =>
    have store := (takeHanded_marks s .boundary).work.store
    unfold State.queued at *
    rw [store]; exact h
  | roll p =>
    have taken := takeClockWork_queued (s.partTaken p) (.roll p) h
    show (s.takeHandedRoll p).queued b = true
    unfold State.queued at *
    rw [takeHandedRoll_eq, (SeatWork.settled ..).store]; exact taken

/-- The grant table's own part retires the extra time of other meter days, and no other piece retires a grant (R149). -/
theorem takeHanded_grants (e : Fin 16) : (s.takeHanded w).grants[e] =
    s.grants[e].filter fun g => !(decide (w = .roll .grants) && s.outlived g) := by
  cases w with
  | boundary =>
    have stands : (s.takeHanded .boundary).grants = s.grants := by rw [(takeHanded_marks s .boundary).work]; rfl
    rw [stands]
    cases s.grants[e] <;> rfl
  | roll p =>
    refine (takeHandedRoll_grants s p e).trans ?_
    cases p <;> rfl

theorem pieceTables_meters : (s.pieceTables w).meters =
    if w = .roll .meters then Vector.replicate 16 Meter.cleared else s.meters := by
  cases w with
  | boundary => rfl
  | roll p =>
    refine (clockTables_meters (s.partTaken p) (.roll p)).trans ?_
    cases p <;> rfl

theorem pieceTables_pool : (s.pieceTables w).pool =
    if w = .roll .pool then ⟨s.settings.poolSize, s.settings.poolSize, 0, 0⟩ else s.pool := by
  cases w with
  | boundary => rfl
  | roll p =>
    refine (clockTables_pool (s.partTaken p) (.roll p)).trans ?_
    cases p <;> rfl

end

/-! ## The meters and the pool -/

/-- What was used, with its fractions, stands (R89). -/
def UsageStands (s t : State) : Prop :=
  ∀ k : Fin 16, t.meters[k].used = s.meters[k].used ∧ t.meters[k].residue = s.meters[k].residue

/-- What the pool was given for its day stands, whatever is drawn from it (R119). -/
structure PoolStands (s t : State) : Prop where
  size : t.pool.sizeInForce = s.pool.sizeInForce
  toppedUp : t.pool.toppedUp = s.pool.toppedUp
  minutes : t.pool.remaining + t.pool.drawn = s.pool.remaining + s.pool.drawn

theorem UsageStands.trans {s t u : State} (h : UsageStands s t) (h' : UsageStands t u) : UsageStands s u :=
  fun k => ⟨(h' k).1.trans (h k).1, (h' k).2.trans (h k).2⟩

theorem PoolStands.of_same {s t : State} (same : t.pool = s.pool := by rfl) : PoolStands s t :=
  ⟨by rw [same], by rw [same], by rw [same]⟩

theorem PoolStands.trans {s t u : State} (h : PoolStands s t) (h' : PoolStands t u) : PoolStands s u :=
  ⟨h'.size.trans h.size, h'.toppedUp.trans h.toppedUp, h'.minutes.trans h.minutes⟩

theorem Drawn.poolStands {n : Nat} {s t : State} (h : Drawn n s t) : PoolStands s t := ⟨h.size, h.used.2, h.minutes⟩

section
variable (s : State)

theorem takeHanded_usage {w : Handed} (other : w ≠ .roll .meters) : UsageStands s (s.takeHanded w) := by
  obtain ⟨n, drawn⟩ := takeHanded_drawn s w
  have tables := (pieceTables_meters s w).trans (if_neg other)
  intro k
  rw [drawn.used.1, drawn.residue, tables]
  exact ⟨rfl, rfl⟩

theorem takeHanded_pool {w : Handed} (other : w ≠ .roll .pool) : PoolStands s (s.takeHanded w) := by
  obtain ⟨n, drawn⟩ := takeHanded_drawn s w
  exact PoolStands.trans (.of_same ((pieceTables_pool s w).trans (if_neg other))) drawn.poolStands

theorem takeHanded_metersFresh : (s.takeHanded (.roll .meters)).MetersFresh := by
  show (s.takeHandedRoll .meters).MetersFresh
  rw [takeHandedRoll_eq]
  exact (takeClockWork_metersFresh _).drawn (.settled ..) (.settle ..)

theorem takeHanded_poolFresh : (s.takeHanded (.roll .pool)).PoolFresh := by
  show (s.takeHandedRoll .pool).PoolFresh
  rw [takeHandedRoll_eq]
  exact (takeClockWork_poolFresh _).drawn (.settled ..) (.settle ..)

variable {s}

theorem State.MetersFresh.takeHanded (w : Machine.Handed) (h : s.MetersFresh) : (s.takeHanded w).MetersFresh := by
  by_cases here : w = .roll .meters
  · rw [here]; exact takeHanded_metersFresh s
  · have usage := takeHanded_usage s here
    exact ⟨takeHanded_queued s w h.queued, fun k => (usage k).1.trans (h.used k),
      fun k => (usage k).2.trans (h.residue k)⟩

theorem State.PoolFresh.stands {t : State} (h : s.PoolFresh) (pool : PoolStands s t)
    (settings : t.settings = s.settings) : t.PoolFresh where
  size := by rw [settings, pool.size, h.size]
  toppedUp := pool.toppedUp.trans h.toppedUp
  minutes := by rw [settings, pool.minutes, h.minutes]

theorem State.PoolFresh.takeHanded (w : Machine.Handed) (h : s.PoolFresh) : (s.takeHanded w).PoolFresh := by
  by_cases here : w = .roll .pool
  · rw [here]; exact takeHanded_poolFresh s
  · exact h.stands (takeHanded_pool s here) (takeHanded_settings s w)

/-- The part that retires extra time queues the grant block where there is any to retire (R149). -/
theorem takeHanded_grantsQueued (loses : s.losesAny s.outlived = true) :
    (s.takeHanded (.roll .grants)).queued grantBlock = true := by
  have tables : ((s.partTaken .grants).clockTables (.roll .grants)).queued grantBlock = true := by
    show ((s.partTaken .grants).retiring _).queued grantBlock = true
    unfold State.retiring
    rw [if_pos (show (s.partTaken .grants).losesAny (s.partTaken .grants).outlived = true from loses)]
    exact queued_commit_self ..
  have store := (takeHanded_marks s (.roll .grants)).work.store
  unfold State.queued at *
  rw [store]; exact tables

end

/-! ## A run of pieces -/

section
variable (work : List Handed) (s : State)

theorem foldl_takeHanded_work : HandedWork s (work.foldl State.takeHanded s) :=
  List.foldlRecOn work State.takeHanded (HandedWork.refl s) fun t h w _ => h.trans (takeHanded_work t w)

theorem foldl_takeHanded_kept : SeatsKept s (work.foldl State.takeHanded s) := .foldl takeHanded_kept work s

theorem foldl_takeHanded_dirty (dirty : s.meterDirty = true) : (work.foldl State.takeHanded s).meterDirty = true :=
  List.foldlRecOn work State.takeHanded (motive := fun t => t.meterDirty = true) dirty
    fun t h w _ => takeHanded_dirty t w h

theorem foldl_takeHanded_notice {x : Notice} (had : s.hasNotice x = true) :
    (work.foldl State.takeHanded s).hasNotice x = true :=
  List.foldlRecOn work State.takeHanded (motive := fun t => t.hasNotice x = true) had
    fun t h w _ => takeHanded_notice t w h

theorem foldl_takeHanded_queued {b : BlockId} (h : s.queued b = true) :
    (work.foldl State.takeHanded s).queued b = true :=
  List.foldlRecOn work State.takeHanded (motive := fun t => t.queued b = true) h fun t h w _ => takeHanded_queued t w h

theorem foldl_takeHanded_outstanding : (work.foldl State.takeHanded s).due.rollover =
    s.due.rollover.filter fun p => decide (Handed.roll p ∉ work) := by
  induction work generalizing s with
  | nil => exact (List.filter_eq_self.mpr fun p _ => decide_eq_true List.not_mem_nil).symm
  | cons w work ih =>
    rw [List.foldl_cons, ih, takeHanded_rollover, List.filter_filter]
    refine List.filter_congr fun p _ => ?_
    rw [Bool.eq_iff_iff]
    simp only [Bool.and_eq_true, decide_eq_true_eq, List.mem_cons, not_or, ne_eq, and_comm]

theorem foldl_takeHanded_minute : (work.foldl State.takeHanded s).due.minute =
    (s.due.minute && decide (Handed.boundary ∉ work)) := by
  induction work generalizing s with
  | nil => exact (Bool.and_true _).symm
  | cons w work ih =>
    rw [List.foldl_cons, ih, takeHanded_minute, Bool.eq_iff_iff]
    simp only [Bool.and_eq_true, decide_eq_true_eq, List.mem_cons, not_or, and_assoc, ne_eq,
      eq_comm (a := w)]

theorem foldl_takeHanded_grants (e : Fin 16) : (work.foldl State.takeHanded s).grants[e] =
    s.grants[e].filter fun g => !(decide (Handed.roll .grants ∈ work) && s.outlived g) := by
  induction work generalizing s with
  | nil =>
    show s.grants[e] = _
    cases s.grants[e] <;> rfl
  | cons w work ih =>
    have outlived : (s.takeHanded w).outlived = s.outlived := by
      unfold State.outlived; rw [takeHanded_clock]
    rw [List.foldl_cons, ih, takeHanded_grants, outlived, Option.filter_filter]
    have mem : decide (.roll .grants ∈ w :: work) = (decide (w = .roll .grants) || decide (.roll .grants ∈ work)) := by
      rw [Bool.eq_iff_iff]
      simp only [Bool.or_eq_true, decide_eq_true_eq, List.mem_cons, eq_comm (a := w)]
    simp only [mem, Bool.and_or_distrib_right, Bool.not_or]

variable {work}

theorem foldl_takeHanded_usage (none : .roll .meters ∉ work) : UsageStands s (work.foldl State.takeHanded s) :=
  List.foldlRecOn work State.takeHanded (motive := UsageStands s) (fun _ => ⟨rfl, rfl⟩)
    fun t h _ mem => h.trans (takeHanded_usage t fun here => none (here ▸ mem))

theorem foldl_takeHanded_pool (none : .roll .pool ∉ work) : PoolStands s (work.foldl State.takeHanded s) :=
  List.foldlRecOn work State.takeHanded (motive := PoolStands s) .of_same
    fun t h w mem => h.trans (takeHanded_pool t fun here => none (here ▸ mem))

theorem foldl_takeHanded_metersFresh (mem : .roll .meters ∈ work) : (work.foldl State.takeHanded s).MetersFresh :=
  foldl_establishes mem takeHanded_metersFresh (fun _ w => State.MetersFresh.takeHanded w) s

theorem foldl_takeHanded_poolFresh (mem : .roll .pool ∈ work) : (work.foldl State.takeHanded s).PoolFresh :=
  foldl_establishes mem takeHanded_poolFresh (fun _ w => State.PoolFresh.takeHanded w) s

/-- The pieces before the grant table's part leave it the extra time that it is to retire. -/
theorem foldl_takeHanded_grantsQueued (mem : .roll .grants ∈ work) (loses : s.losesAny s.outlived = true) :
    (work.foldl State.takeHanded s).queued grantBlock = true := by
  induction work generalizing s with
  | nil => cases mem
  | cons w work ih =>
    rw [List.foldl_cons]
    by_cases here : w = .roll .grants
    · rw [here]; exact foldl_takeHanded_queued work _ (takeHanded_grantsQueued loses)
    · refine ih _ ((List.mem_cons.mp mem).resolve_left (Ne.symm here)) ?_
      have grants : (s.takeHanded w).grants = s.grants := by
        ext1 i hi
        refine (takeHanded_grants s w ⟨i, hi⟩).trans ?_
        rw [decide_eq_false here]
        cases s.grants[i] <;> rfl
      unfold State.losesAny State.outlived at *
      rw [grants, takeHanded_clock]; exact loses

end

/-! ## The parts of a rollover among them -/

theorem losesAny_outlived {s : State} {e : Fin 16} (any : s.grants[e].any s.outlived = true) :
    s.losesAny s.outlived = true := by
  by_contra none
  have := (losesAny_eq_false_iff s _).mp (Bool.eq_false_of_not_eq_true none) e
  rw [this] at any; cases any

/-- What a run of pieces makes of the parts that were outstanding. -/
theorem partsTaken_foldl {s : State} {work : List Handed} (parts : ∀ p, .roll p ∈ work → p ∈ s.due.rollover) :
    PartsTaken s (work.foldl State.takeHanded s) s.due.rollover := by
  have outstanding := foldl_takeHanded_outstanding work s
  have settings : (work.foldl State.takeHanded s).settings = s.settings := by rw [foldl_takeHanded_work work s]
  have clock : (work.foldl State.takeHanded s).clock = s.clock := by rw [foldl_takeHanded_work work s]
  have grants := foldl_takeHanded_grants work s
  unfold PartsTaken
  intro taken past
  have taken_iff : ∀ p, taken p ↔ .roll p ∈ work := by
    intro p
    show (p ∈ s.due.rollover ∧ p ∉ (work.foldl State.takeHanded s).due.rollover) ↔ _
    rw [outstanding, List.mem_filter, decide_eq_true_eq]
    constructor
    · rintro ⟨mem, gone⟩
      exact not_not.mp fun left => gone ⟨mem, left⟩
    · exact fun taken => ⟨parts p taken, fun ⟨_, left⟩ => left taken⟩
  have past_eq : past = s.outlived := by
    unfold State.outlived
    rw [← clock]; rfl
  simp only [taken_iff, past_eq]
  refine ⟨outstanding ▸ List.filter_sublist, fun taken => ?_, fun left => ?_, fun taken => ?_, fun left => ?_,
    fun taken => ⟨fun e => ?_, fun ⟨e, any⟩ => ?_⟩, fun left => ?_⟩
  · have fresh := foldl_takeHanded_metersFresh s taken
    exact ⟨fresh.queued, fun k => ⟨fresh.used k, fresh.residue k⟩⟩
  · exact foldl_takeHanded_usage s left
  · have fresh := foldl_takeHanded_poolFresh s taken
    rw [← settings]
    exact ⟨fresh.size, fresh.toppedUp, fresh.minutes⟩
  · have stands := foldl_takeHanded_pool s left
    exact ⟨stands.size, stands.toppedUp, stands.minutes⟩
  · rw [grants, decide_eq_true taken]; rfl
  · exact foldl_takeHanded_grantsQueued s taken (losesAny_outlived any)
  · ext1 i hi
    refine (grants ⟨i, hi⟩).trans ?_
    rw [decide_eq_false left]
    show s.grants[i].filter _ = _
    cases s.grants[i] <;> rfl

/-- The parts speak of the meters, the pool, the grants and the settings that were there before. -/
theorem PartsTaken.of_tables {s x u : State} {parts : List RollPart} (h : PartsTaken x u parts)
    (meters : x.meters = s.meters := by rfl) (pool : x.pool = s.pool := by rfl) (grants : x.grants = s.grants := by rfl)
    (settings : x.settings = s.settings := by rfl) : PartsTaken s u parts := by
  unfold PartsTaken at *
  rw [← meters, ← pool, ← grants, ← settings]
  exact h

/-! ## The pieces that a row takes -/

theorem boundary_mem_handed {s : State} : .boundary ∈ s.handed ↔ s.due.minute = true := by
  unfold State.handed
  cases s.due.minute <;> simp

theorem roll_mem_handed_iff {s : State} {p : RollPart} : .roll p ∈ s.handed ↔ p ∈ s.due.rollover := by
  unfold State.handed
  cases s.due.minute <;> simp

/-- A MINUTE_BOUNDARY takes at least one of the pieces outstanding (R162; assumption 6). -/
theorem takeMinuteBoundary_pieces {s : State} (some : s.handed ≠ []) : ∃ (work : List Handed) (n : Nat),
    work ≠ [] ∧ (∀ w ∈ work, w ∈ s.handed)
      ∧ takeMinuteBoundary s = work.foldl State.takeHanded { s with freeCount := n } := by
  unfold takeMinuteBoundary; dsimp only
  split
  · next none => exact absurd none some
  · next w one => exact ⟨[w], s.freeCount, List.cons_ne_nil _ _, fun w' mem => one ▸ mem, rfl⟩
  · have perm := shuffle_perm s.handed.length s.handed s le_rfl
    obtain ⟨n, drawn⟩ := shuffle_state s.handed.length s.handed s
    generalize ((State.shuffle s.handed.length s.handed s).2.draw s.handed.length).1 = count
    refine ⟨(State.shuffle s.handed.length s.handed s).1.take (count + 1), n + 1, fun none => ?_,
      fun w mem => perm.mem_iff.mp (List.mem_of_mem_take mem), by rw [drawn]; rfl⟩
    rcases List.take_eq_nil_iff.mp none with zero | empty
    · cases zero
    · exact some (List.nil_perm.mp (empty ▸ perm))

/-- A second event takes every piece outstanding (assumption 4). -/
theorem takeEveryHanded_pieces (s : State) : ∃ (work : List Handed) (n : Nat), work.Perm s.handed
    ∧ takeEveryHanded s = work.foldl State.takeHanded { s with freeCount := n } := by
  unfold takeEveryHanded; dsimp only
  split
  · next none => exact ⟨[], s.freeCount, none ▸ .refl _, rfl⟩
  · next w one => exact ⟨[w], s.freeCount, one ▸ .refl _, rfl⟩
  · obtain ⟨n, drawn⟩ := shuffle_state s.handed.length s.handed s
    exact ⟨_, n, shuffle_perm s.handed.length s.handed s le_rfl, by rw [drawn]⟩

end Sys2Proof.Machine
end

section
/-! PROOFS. The midnight, and what takes the parts of its rollover (R112, R133, R149, R156, R159, R162), and O38. -/

namespace Sys2Proof.Machine

/-! ## The pieces taken before the next second -/

/-- The clock, the settings and what the pool was given for its day stand. -/
structure DayStands (s t : State) : Prop where
  clock : t.clock = s.clock
  settings : t.settings = s.settings
  pool : PoolStands s t

theorem DayStands.of_same {s t : State} (clock : t.clock = s.clock := by rfl)
    (settings : t.settings = s.settings := by rfl) (pool : t.pool = s.pool := by rfl) : DayStands s t :=
  ⟨clock, settings, .of_same pool⟩

theorem DayStands.refl (s : State) : DayStands s s := .of_same

theorem DayStands.trans {s t u : State} (h : DayStands s t) (h' : DayStands t u) : DayStands s u :=
  ⟨h'.clock.trans h.clock, h'.settings.trans h.settings, h.pool.trans h'.pool⟩

theorem DayStands.of_draws {s t : State} (h : DrawWork s t) : DayStands s t := by
  obtain ⟨g, inPool, pool⟩ := h.moved
  refine ⟨h.work.clock, h.work.settings, by rw [pool]; rfl, by rw [pool]; rfl, ?_⟩
  rw [pool]
  show s.pool.remaining - g + (s.pool.drawn + g) = _
  omega

theorem DayStands.takeGrantExpiry (s : State) : DayStands s (takeGrantExpiry s) := by
  cases due : s.due.expiry with
  | none => rw [Machine.takeGrantExpiry, due]; exact .refl s
  | some now =>
    have expired : DayStands s (s.expired now) := by
      rw [expired_eq]; exact .of_same
    refine expired.trans (.of_draws ?_)
    rw [takeGrantExpiry_eq due]
    cases loses : s.compared.losesAny (expiredAt now) with
    | true => rw [expireGrants_of_loses loses]; exact (DrawWork.reeval ..).trans (.settled ..)
    | false => rw [expireGrants_of_losesNone loses]; exact .settled ..

theorem DayStands.meterSecond (s : State) : DayStands s s.meterSecond := by
  have debited : DayStands s s.debitAll := by
    rw [debitAll_eq]; exact .of_same
  have checked : DayStands s s.checked := by
    unfold State.checked
    exact debited.trans (.of_draws ((DrawWork.writeEntries ..).trans (.foldl DrawWork.checkProfile _ _)))
  rw [meterSecond_eq]
  exact (checked.trans .of_same).trans (.of_draws (.settled ..))

theorem DayStands.takeMeteringSecond (s : State) : DayStands s (takeMeteringSecond s) := by
  unfold Machine.takeMeteringSecond
  split
  · exact .meterSecond s
  · exact .refl s

theorem DayStands.takeCommitIntervalEnd (s : State) : DayStands s (takeCommitIntervalEnd s) := by
  have commit : ∀ (t : State) b, DayStands t (t.commit b) := fun t b => by
    rw [State.commit_queueWith]; exact .of_same
  unfold Machine.takeCommitIntervalEnd; dsimp only
  split
  · split
    · exact DayStands.trans .of_same (commit _ _)
    · exact .of_same
  · exact .refl s

theorem DayStands.takePoolWaitTimeout (s : State) : DayStands s (takePoolWaitTimeout s) := by
  unfold Machine.takePoolWaitTimeout
  split
  · exact DayStands.trans (t := s.withoutLate) .of_same (.of_draws (timeoutCheck_work s))
  · exact .refl s

theorem DayStands.takeWindowExpiry (s : State) : DayStands s (takeWindowExpiry s) := by
  unfold Machine.takeWindowExpiry State.closeWindow
  split
  · split <;> exact .of_same
  · exact .refl s

theorem DayStands.takeLockoutEnd (s : State) : DayStands s (takeLockoutEnd s) := by
  unfold Machine.takeLockoutEnd
  split <;> exact .of_same

/-- The events of the blocks after the pieces of the second before. -/
theorem flushDue_stands (s : State) : DayStands (takeEveryHanded s) s.flushDue := by
  have metered := (DayStands.takeGrantExpiry (takeEveryHanded s)).trans (.takeMeteringSecond _)
  have waited := (metered.trans (.takeCommitIntervalEnd _)).trans (.takePoolWaitTimeout _)
  exact (waited.trans (.takeWindowExpiry _)).trans (.takeLockoutEnd _)

theorem takeEveryHanded_work (s : State) : HandedWork s (takeEveryHanded s) := by
  obtain ⟨work, n, -, run⟩ := takeEveryHanded_pieces s
  rw [run]
  exact HandedWork.trans (t := { s with freeCount := n }) rfl (foldl_takeHanded_work ..)

theorem flushDue_clock (s : State) : s.flushDue.clock = s.clock :=
  (flushDue_stands s).clock.trans (by rw [takeEveryHanded_work s])

theorem flushDue_settings (s : State) : s.flushDue.settings = s.settings :=
  (flushDue_stands s).settings.trans (by rw [takeEveryHanded_work s])

/-- The pool's part is among what the next second takes (R133, R162). -/
theorem flushDue_poolFresh {s : State} (outstanding : .pool ∈ s.due.rollover) : s.flushDue.PoolFresh := by
  have taken : (takeEveryHanded s).PoolFresh := by
    obtain ⟨work, n, perm, run⟩ := takeEveryHanded_pieces s
    rw [run]
    exact foldl_takeHanded_poolFresh _ (perm.mem_iff.mpr (roll_mem_handed outstanding))
  exact taken.stands (flushDue_stands s).pool (flushDue_stands s).settings

/-- The grant table's part is among what the next second takes, and leaves the extra time of the meter day alone (R149,
R162). -/
theorem flushDue_extraTime {s : State} (outstanding : .grants ∈ s.due.rollover) {e k : Fin 16} {m day : Nat}
    (live : s.flushDue.grants[e] = some ⟨k, .extraTime m day⟩) : day = s.clock.meterDay := by
  obtain ⟨work, n, perm, run⟩ := takeEveryHanded_pieces s
  have before := (flushDue_narrows s).grants e _ live
  rw [run, foldl_takeHanded_grants, decide_eq_true (perm.mem_iff.mpr (roll_mem_handed outstanding)),
    Option.filter_eq_some_iff, Bool.true_and, Bool.not_eq_true'] at before
  exact (extraTime_past_iff m day _).mp before.2

/-! ## A minute boundary within a rollover -/

/-- A MINUTE_BOUNDARY that finds a rollover under way takes the boundary or a part of it (R162). -/
theorem takeMinuteBoundary_rolls {s : State} (outstanding : s.due.rollover ≠ []) :
    HandedWork s (takeMinuteBoundary s) ∧ SeatsKept s (takeMinuteBoundary s)
      ∧ PartsTaken s (takeMinuteBoundary s) s.due.rollover
      ∧ ((takeMinuteBoundary s).due.rollover.length < s.due.rollover.length
        ∨ (s.due.minute = true ∧ (takeMinuteBoundary s).due.minute = false)) := by
  have some : s.handed ≠ [] := by
    obtain ⟨p, mem⟩ := List.exists_mem_of_ne_nil _ outstanding
    exact List.ne_nil_of_mem (roll_mem_handed mem)
  obtain ⟨work, n, taken, handed, run⟩ := takeMinuteBoundary_pieces some
  have parts : ∀ p, .roll p ∈ work → p ∈ s.due.rollover := fun p mem => roll_mem_handed_iff.mp (handed _ mem)
  rw [run]
  refine ⟨HandedWork.trans (t := { s with freeCount := n }) rfl (foldl_takeHanded_work ..), ?_, ?_, ?_⟩
  · exact SeatsKept.trans (t := { s with freeCount := n }) (.of_eq rfl rfl) (foldl_takeHanded_kept ..)
  · exact (partsTaken_foldl (s := { s with freeCount := n }) parts).of_tables
  · obtain ⟨w, mem⟩ := List.exists_mem_of_ne_nil _ taken
    cases w with
    | boundary =>
      refine .inr ⟨boundary_mem_handed.mp (handed _ mem), ?_⟩
      rw [foldl_takeHanded_minute, decide_eq_false (not_not.mpr mem), Bool.and_false]
    | roll p =>
      refine .inl ?_
      rw [foldl_takeHanded_outstanding]
      exact List.length_filter_lt_length_iff_exists.mpr ⟨p, parts p mem, by simpa using mem⟩

/-! ## The midnight -/

section
variable {s : State} (isSet : s.clock.isSet = true) (last : s.clock.second = 86399) (below : s.clock.day < 65535)
include isSet last below

/-- A midnight whose day passes the meter day brings the rollover (R159). -/
theorem takeSecond_of_midnight (none : s.due = Due.none) (passed : s.clock.meterDay ≤ s.clock.day) :
    takeSecond s = s.handSecond.rollAtMidnight s := by
  have rolls : (s.clock.atMidnight && s.handSecond.rollsOver) = true := by
    rw [Bool.and_eq_true, atMidnight_iff]
    refine ⟨⟨isSet, last, below⟩, decide_eq_true ?_⟩
    show s.clock.tick.meterDay < s.clock.tick.day
    rw [tick_of_midnight isSet last below]
    exact Nat.lt_succ_of_le passed
  unfold takeSecond
  rw [flushDue_of_none none]
  exact if_pos rolls

/-- The new day is the meter day in force (R156, R159). -/
theorem midnight_clock : s.handSecond.installMeterDay.clock =
    { counter := min (s.clock.counter + 1) 4294967295, isSet := true, day := s.clock.day + 1, second := 0,
      weekday := s.clock.weekday + 1, meterDay := s.clock.day + 1, meterWeekday := s.clock.weekday + 1 } := by
  show { s.clock.tick with meterDay := s.clock.tick.day, meterWeekday := s.clock.tick.weekday } = _
  rw [tick_of_midnight isSet last below, isSet]; rfl

/-- The first minute of the new day is a boundary (R157). -/
theorem midnight_due : s.handSecond.due.minute = true ∧ s.handSecond.due.expiry = some ⟨s.clock.day + 1, 0⟩ := by
  have clock := tick_of_midnight isSet last below
  have minute : s.handSecond.due.minute = true := by
    show (s.clock.tick.isSet && decide (s.clock.tick.second % 60 = 0)) = true
    rw [clock, isSet]; rfl
  refine ⟨minute, ?_⟩
  show (if s.handSecond.due.minute then some (⟨s.clock.tick.day, s.clock.tick.minute⟩ : Moment) else Option.none) = _
  rw [minute, if_pos rfl, clock]
  simp only [Clock.minute, Nat.zero_div]

end

/-! ## A quiet midnight -/

/-- The tables that a quiet midnight leaves, with these seats. -/
def State.begunAnew (s : State) (seats : Vector Seat 6) : State := { s with
  seats := seats, requests := [], meters := Vector.replicate 16 Meter.cleared, meterDirty := true
  pool := ⟨s.settings.poolSize, s.settings.poolSize, 0, 0⟩
  store := { s.store with queue := s.queueWith [meterBlock] } }

/-- A midnight at which nobody watches and no request waits takes the meters' and the pool's parts at once (R112,
R133). -/
theorem quiet_settled {s before : State} (nobody : s.anyJudged = false) (requests : s.requests = [])
    (same : before.requests = []) :
    ∃ seats, s.rollMeters.rollPool.settled before false = State.noteSeats before (s.begunAnew seats) := by
  have asks : ∀ sel (j : Fin 6), (s.clockTables (.roll .meters)).AsksNone true sel
      (s.clockTables (.roll .meters)).seats[j] := by
    intro sel j p shown e mem
    rw [clockTables_seats] at shown mem
    have judged : s.anyJudged = true := by
      refine (any_seats s _).mpr ⟨j, ?_⟩
      rw [shown, Bool.and_eq_true, Bool.not_eq_true', List.isEmpty_eq_false_iff]
      exact ⟨rfl, List.ne_nil_of_mem mem⟩
    rw [nobody] at judged; cases judged
  have rolled : ∃ seats, s.rollMeters = { s.clockTables (.roll .meters) with seats := seats } :=
    ⟨_, reeval_quiet _ _ (asks _)⟩
  obtain ⟨seats, rolled⟩ := rolled
  have cleared : s.clockTables (.roll .meters) = { s with
      meters := Vector.replicate 16 Meter.cleared, meterDirty := true
      store := { s.store with queue := s.queueWith [meterBlock] } } := State.commit_queueWith _ meterBlock
  have pooled : s.rollMeters.rollPool = s.begunAnew seats := by
    rw [State.rollPool, rolled, cleared]
    dsimp only
    rw [requests]; rfl
  exact ⟨seats, by rw [pooled, settled_quiet _ before false rfl same]⟩

theorem quiet_iff {s : State} :
    s.quiet = true ↔ s.anyJudged = false ∧ s.requests = [] ∧ s.losesAny s.outlived = false := by
  simp only [State.quiet, Bool.and_eq_true, Bool.not_eq_true', List.isEmpty_iff, and_assoc]

/-- What a quiet midnight leaves, but for SEAT_CHANGED. -/
theorem rollAtMidnight_quiet {s before : State} (quiet : s.installMeterDay.quiet = true)
    (same : before.requests = s.requests) :
    ∃ seats, s.rollAtMidnight before = State.noteSeats before (s.installMeterDay.begunAnew seats) := by
  obtain ⟨nobody, requests, -⟩ := quiet_iff.mp quiet
  obtain ⟨seats, anew⟩ := quiet_settled nobody requests (before := before) (same.trans requests)
  refine ⟨seats, Eq.trans ?_ anew⟩
  unfold State.rollAtMidnight; dsimp only
  exact if_pos quiet

theorem begunAnew_queued (s : State) (seats : Vector Seat 6) : (s.begunAnew seats).queued meterBlock = true := by
  have committed := queued_commit_self s meterBlock
  rw [State.commit_queueWith] at committed
  exact committed

theorem begunAnew_metersFresh (s : State) (seats : Vector Seat 6) : (s.begunAnew seats).MetersFresh := by
  have cleared : ∀ k : Fin 16, (s.begunAnew seats).meters[k] = Meter.cleared := fun k => Vector.getElem_replicate ..
  exact ⟨begunAnew_queued s seats, fun k => by rw [cleared]; rfl, fun k => by rw [cleared]; rfl⟩

theorem begunAnew_poolFresh (s : State) (seats : Vector Seat 6) : (s.begunAnew seats).PoolFresh := ⟨rfl, rfl, rfl⟩

/-! ## The rollover, whole or in part -/

theorem mem_rolloverParts (p : RollPart) : p ∈ rolloverParts := by cases p <;> decide

/-- Every part taken at once, where no extra time is there to end. -/
theorem partsTaken_whole {s u : State} (none : u.due.rollover = []) (meters : u.MetersFresh) (pool : u.PoolFresh)
    (settings : u.settings = s.settings) (clock : u.clock = s.clock) (grants : u.grants = s.grants)
    (kept : s.losesAny s.outlived = false) : PartsTaken s u rolloverParts := by
  unfold PartsTaken
  intro taken past
  have all : ∀ p, taken p := fun p => ⟨mem_rolloverParts p, none ▸ List.not_mem_nil⟩
  have past_eq : past = s.outlived := by
    unfold State.outlived
    rw [← clock]; rfl
  have stays := (losesAny_eq_false_iff s _).mp kept
  refine ⟨none ▸ List.nil_sublist _, fun _ => ⟨meters.queued, fun k => ⟨meters.used k, meters.residue k⟩⟩,
    fun left => absurd (all _) left, fun _ => settings ▸ ⟨pool.size, pool.toppedUp, pool.minutes⟩,
    fun left => absurd (all _) left, fun _ => ⟨fun e => ?_, fun ⟨e, any⟩ => ?_⟩, fun left => absurd (all _) left⟩
  · rw [grants, past_eq, filter_of_any_eq_false (stays e)]
  · rw [past_eq, stays e] at any; cases any

/-- What a midnight's rollover leaves of the tables once its day is installed (R159, R162). -/
structure RolledOver (s u : State) : Prop where
  work : HandedWork s u
  minute : u.due.minute = s.due.minute
  kept : SeatsKept s u
  dirty : u.meterDirty = true
  notices : ∀ x : Notice, s.hasNotice x = true → u.hasNotice x = true
  parts : PartsTaken s u rolloverParts

/-- A quiet midnight takes every part within the second (R162). -/
theorem rolledOver_quiet {s before : State} (quiet : s.quiet = true) (same : before.requests = s.requests)
    (none : s.due.rollover = []) : RolledOver s (s.rollMeters.rollPool.settled before false) := by
  obtain ⟨nobody, requests, kept⟩ := quiet_iff.mp quiet
  obtain ⟨seats, anew⟩ := quiet_settled nobody requests (before := before) (same.trans requests)
  have work : SeatWork (s.begunAnew seats) (State.noteSeats before (s.begunAnew seats)) := (MarksKept.noteSeats ..).work
  have drawn : Drawn 0 (s.begunAnew seats) (State.noteSeats before (s.begunAnew seats)) := .noteSeats ..
  have frame : HandedWork s (State.noteSeats before (s.begunAnew seats)) :=
    HandedWork.trans (t := s.begunAnew seats) rfl work.table.handed
  have due : (State.noteSeats before (s.begunAnew seats)).due = s.due := by rw [work]; rfl
  have seated : SeatsKept s (s.rollMeters.rollPool.settled before false) :=
    ((takeClockWork_kept s (.roll .meters)).trans (takeClockWork_kept _ (.roll .pool))).trans (.settled ..)
  rw [anew] at seated ⊢
  refine ⟨frame, by rw [due], seated, (MarksKept.noteSeats ..).dirty rfl, drawn.notices, partsTaken_whole (due ▸ none)
    ((begunAnew_metersFresh s seats).drawn work drawn) ((begunAnew_poolFresh s seats).drawn work drawn) ?_ ?_ ?_ kept⟩
    <;> (rw [work]; rfl)

/-- Any number of parts, in any order, may be taken within the second (R162; assumption 6). -/
theorem rolledOver_parts {s : State} (dirty : s.meterDirty = true) (parts : List RollPart) (n : Nat) :
    RolledOver s ((parts.map Handed.roll).foldl State.takeHanded
      { s with due.rollover := rolloverParts, freeCount := n }) := by
  have notBoundary : .boundary ∉ parts.map Handed.roll := by simp
  refine ⟨HandedWork.trans (t := { s with due.rollover := rolloverParts, freeCount := n }) rfl
      (foldl_takeHanded_work ..), ?_,
    SeatsKept.trans (t := { s with due.rollover := rolloverParts, freeCount := n }) (.of_eq rfl rfl)
      (foldl_takeHanded_kept ..), foldl_takeHanded_dirty _ _ dirty, fun x had => foldl_takeHanded_notice _ _ had, ?_⟩
  · rw [foldl_takeHanded_minute, decide_eq_true notBoundary, Bool.and_true]
  · exact (partsTaken_foldl (s := { s with due.rollover := rolloverParts, freeCount := n })
      fun p _ => mem_rolloverParts p).of_tables

theorem rollAtMidnight_rolledOver {s before : State} (same : before.requests = s.requests)
    (none : s.due.rollover = []) : RolledOver s.installMeterDay (s.rollAtMidnight before) := by
  unfold State.rollAtMidnight; dsimp only
  split
  · next quiet => exact rolledOver_quiet quiet same none
  · obtain ⟨n, shuffled⟩ := shuffle_state rolloverParts.length rolloverParts
      { s.installMeterDay with due.rollover := rolloverParts }
    generalize State.shuffle rolloverParts.length rolloverParts
      { s.installMeterDay with due.rollover := rolloverParts } = plan at shuffled ⊢
    obtain ⟨order, drawn⟩ := plan
    dsimp only at shuffled ⊢
    have pieces := rolledOver_parts (s := s.installMeterDay) rfl (order.take (drawn.draw (rolloverParts.length + 1)).1)
      (n + 1)
    rw [List.foldl_map] at pieces
    rw [shuffled] at pieces ⊢
    exact pieces

/-! ## The obligation -/

/-- What a midnight leaves alone. -/
theorem HandedWork.midnight {s u : State} (h : HandedWork s.handSecond.installMeterDay u)
    (dirty : u.meterDirty = true) : u = { s with
      clock := u.clock, authority := u.authority, interval := u.interval, due := u.due, seats := u.seats
      requests := u.requests, notices := u.notices, meters := u.meters, meterDirty := true, pool := u.pool
      grants := u.grants, freeCount := u.freeCount, store := { s.store with queue := u.store.queue } } := by
  unfold HandedWork at h
  rw [dirty] at h
  rw [h]; rfl

theorem installMeterDay_rollover (s : State) : s.installMeterDay.hasNotice .rollover = true := by
  rw [State.installMeterDay, addNotice_hasNotice]; simp

/-- A grant that is no extra time is of every meter day (R149). -/
theorem losesAny_outlived_of_noExtra {s : State}
    (noExtra : ∀ i : Fin 16, ∀ g ∈ s.grants[i], g.body.isExtra = false) : s.losesAny s.outlived = false := by
  refine (losesAny_eq_false_iff s _).mpr fun e => ?_
  have current : ∀ g ∈ s.grants[e], s.outlived g = false := by
    rintro ⟨k, body⟩ live
    have other := noExtra e _ live
    cases body with
    | extraTime m d => cases other
    | titlePermit | windowWaiver => rfl
  cases entry : s.grants[e] with
  | none => rfl
  | some g => exact current g entry

theorem anyJudged_of_nobody {s : State} (nobody : ∀ j : Fin 6, s.seats[j].programme = none ∨ s.seats[j].entries = []) :
    s.anyJudged = false := by
  refine Bool.eq_false_of_not_eq_true fun judged => ?_
  obtain ⟨j, watched⟩ := (any_seats s _).mp judged
  rw [Bool.and_eq_true, Bool.not_eq_true', List.isEmpty_eq_false_iff] at watched
  obtain ⟨shown, entered⟩ := watched
  rcases nobody j with none | empty
  · rw [none] at shown; cases shown
  · exact entered empty

/-- Settles O38: a rollover hands its parts over, each of which brings about its own tables' new day and no other, and
every row that takes parts takes them one by one. -/
theorem midnightRollsTheDayOver : Obligations.MidnightRollsTheDayOver := by
  unfold Obligations.MidnightRollsTheDayOver
  refine ⟨fun s awake none isSet last below passed requests nobody grants => ?_,
    fun s awake none isSet last below passed => ?_, fun s awake outstanding => ?_, fun s awake stays => ?_⟩
  · have second := takeSecond_of_midnight isSet last below none passed
    have quiet : s.handSecond.installMeterDay.quiet = true :=
      quiet_iff.mpr ⟨anyJudged_of_nobody (s := s) nobody, requests,
        losesAny_outlived_of_noExtra (s := s.handSecond.installMeterDay) fun i g live => (grants i g live).1⟩
    obtain ⟨seats, anew⟩ := rollAtMidnight_quiet quiet (before := s) rfl
    have frame := noteSeats_eq s (s.handSecond.installMeterDay.begunAnew seats)
    have noticed := (Drawn.noteSeats s (s.handSecond.installMeterDay.begunAnew seats)).notices .rollover
      (installMeterDay_rollover s.handSecond)
    refine ⟨State.noteSeats s (s.handSecond.installMeterDay.begunAnew seats), ?_, ?_, by rw [frame]; rfl,
      by rw [frame]; rfl, by rw [frame]; rfl, by rw [frame]; rfl, by rw [frame]; rfl, noticed, ?_, by rw [frame]; rfl,
      by rw [frame]; rfl⟩
    · rw [exec_of_effect awake (effect := takeSecond) rfl, second, anew]
    · rw [frame]; exact midnight_clock isSet last below
    · rw [frame]; exact begunAnew_queued s.handSecond.installMeterDay seats
  · have second := takeSecond_of_midnight isSet last below none passed
    have rolled : RolledOver s.handSecond.installMeterDay (s.handSecond.rollAtMidnight s) :=
      rollAtMidnight_rolledOver rfl rfl
    obtain ⟨minute, expiry⟩ := midnight_due isSet last below
    refine ⟨s.handSecond.rollAtMidnight s, ?_, ?_, rolled.dirty, rolled.notices _ (installMeterDay_rollover _),
      rolled.minute.trans minute, ?_, ?_, rolled.parts.of_tables,
      fun j => ⟨rolled.kept.viewers j, rolled.kept.programme j⟩, rolled.work.midnight rolled.dirty⟩
    · rw [exec_of_effect awake (effect := takeSecond) rfl, second]
    · rw [rolled.work]; exact midnight_clock isSet last below
    · rw [rolled.work]; rfl
    · rw [rolled.work]; exact expiry
  · obtain ⟨work, kept, parts, progress⟩ := takeMinuteBoundary_rolls outstanding
    exact ⟨takeMinuteBoundary s, exec_of_effect awake (effect := takeMinuteBoundary) rfl, parts, progress,
      fun j => ⟨kept.viewers j, kept.programme j⟩, work⟩
  · have second := takeSecond_of_stays (flushDue_clock s) stays
    refine ⟨s.flushDue.handSecond, ?_, rfl, fun outstanding => ?_,
      fun outstanding _ _ _ _ => flushDue_extraTime outstanding⟩
    · rw [exec_of_effect awake (effect := takeSecond) rfl, second]
    · have fresh := flushDue_poolFresh outstanding
      exact ⟨fresh.size.trans (congrArg _ (flushDue_settings s)), fresh.toppedUp⟩

end Sys2Proof.Machine
end

section
/-! SUPPORT. Which settings are in range (R64, R127, R166), and what of the guardian unit's records the shared
operations keep (R166 to R172). -/

namespace Sys2Proof.Machine

/-! ## The settings -/

theorem Settings.valid_iff (h : Settings) : h.valid = true ↔
    (∀ p, h.pin = some p → pinValid p = true) ∧ groupOrderValid h.groupOrder = true ∧ tierOrderValid h.tierOrder = true
      ∧ h.poolSize ≤ 600 ∧ 60 ≤ h.windowLength ∧ h.windowLength ≤ 900 := by
  simp only [Settings.valid, Bool.and_eq_true, decide_eq_true_eq, and_assoc, Option.all_eq_true]

theorem factory_valid : Settings.factory.valid = true := by decide

theorem groupOrder?_valid {w : Word} {g : List RuleGroup} (given : groupOrder? w = some g) :
    groupOrderValid g = true := by
  unfold groupOrder? at given; dsimp only at given
  rw [Option.ite_none_right_eq_some] at given
  obtain ⟨valid, ⟨⟩⟩ := given
  exact valid

theorem tierOrder?_valid {w : Word} {t : List Nat} (given : tierOrder? w = some t) : tierOrderValid t = true := by
  unfold tierOrder? at given
  rw [Option.ite_none_right_eq_some] at given
  obtain ⟨valid, ⟨⟩⟩ := given
  exact valid

/-- A setting that may be written: the one given where there is one, and otherwise the one in force. -/
theorem getD_meets {α : Type} {P : α → Prop} {given : Option α} {old : α} (ofGiven : ∀ x, given = some x → P x)
    (ofOld : P old) : P (given.getD old) := by
  cases given with
  | none => exact ofOld
  | some x => exact ofGiven x rfl

theorem clampLength_range (n : Nat) : 60 ≤ clampLength n ∧ clampLength n ≤ 900 := by
  unfold clampLength
  omega

/-- Settings that an **hset** writes are in range, its checks past (R176). -/
theorem updated_valid {h : Settings} {a : HsetArgs} (fits : hsetRefused a = false) (valid : h.valid = true) :
    (h.updated a).valid = true := by
  rw [Settings.valid_iff] at valid ⊢
  obtain ⟨pin, groups, tiers, size, shortest, longest⟩ := valid
  refine ⟨pin, ?_, ?_, updated_poolSize fits size, ?_⟩
  · show groupOrderValid (if _ then _ else _) = true
    split
    · exact getD_meets (fun _ => groupOrder?_valid) groups
    · exact groups
  · show tierOrderValid (if _ then _ else _) = true
    split
    · exact getD_meets (fun _ => tierOrder?_valid) tiers
    · exact tiers
  · unfold Settings.updated; dsimp only
    split
    · exact clampLength_range _
    · exact ⟨shortest, longest⟩

/-! ## What keeps the law -/

/-- What the guardian law speaks of, beside the edit buffer. -/
def State.guardianTables (s : State) : Settings × Authority × Bool := (s.settings, s.authority, s.supply.held)

/-- No full reset begins or ends, and while none is held the guardian law is kept (R189). -/
structure GuardianKept (s t : State) : Prop where
  held : t.supply.held = s.supply.held
  law : s.supply.held = false → s.GuardianLaw → t.GuardianLaw

/-- A buffer is there after only where one was, or where the window is OPEN. -/
theorem GuardianKept.of_edit {s t : State}
    (edit : t.edit.isSome = true → s.authority.window.isSome = true ∨ s.edit.isSome = true)
    (same : t.guardianTables = s.guardianTables := by rfl) : GuardianKept s t := by
  obtain ⟨settings, rest⟩ := Prod.mk.inj same
  obtain ⟨authority, held⟩ := Prod.mk.inj rest
  refine ⟨held, fun running law => ?_⟩
  obtain ⟨valid, edited, remaining⟩ := law
  unfold State.GuardianLaw
  rw [settings, authority, held]
  exact ⟨valid, fun some => (edit some).elim id edited, remaining⟩

theorem GuardianKept.of_same {s t : State} (edit : t.edit = s.edit := by rfl)
    (same : t.guardianTables = s.guardianTables := by rfl) : GuardianKept s t :=
  .of_edit (fun some => .inr (edit ▸ some)) same

theorem GuardianKept.dropped {s t : State} (none : t.edit = none := by rfl)
    (same : t.guardianTables = s.guardianTables := by rfl) : GuardianKept s t :=
  .of_edit (fun some => by rw [none] at some; cases some) same

/-- Settings in range take the place of those in force. -/
theorem GuardianKept.settings {s t : State} (settings : s.settings.valid = true → t.settings.valid = true)
    (edit : t.edit = s.edit := by rfl) (authority : t.authority = s.authority := by rfl)
    (held : t.supply.held = s.supply.held := by rfl) : GuardianKept s t := by
  refine ⟨held, fun running law => ?_⟩
  obtain ⟨valid, remaining⟩ := law
  unfold State.GuardianLaw
  rw [edit, authority, held]
  exact ⟨settings valid, remaining⟩

theorem GuardianKept.refl (s : State) : GuardianKept s s := .of_same

theorem GuardianKept.trans {s t u : State} (h : GuardianKept s t) (h' : GuardianKept t u) : GuardianKept s u :=
  ⟨h'.held.trans h.held, fun running law => h'.law (h.held.trans running) (h.law running law)⟩

theorem GuardianKept.foldl {α : Type} {f : State → α → State} (hf : ∀ s a, GuardianKept s (f s a)) (l : List α)
    (s : State) : GuardianKept s (l.foldl f s) := List.foldlRecOn l f (.refl s) fun t h a _ => h.trans (hf t a)

theorem GuardianKept.of_seats {s t : State} (h : SeatWork s t) : GuardianKept s t :=
  .of_same (by rw [h]) (by rw [h]; rfl)

theorem GuardianKept.of_tables {s t : State} (h : TableWork s t) : GuardianKept s t :=
  .of_same (by rw [h]) (by rw [h]; rfl)

theorem GuardianKept.of_handed {s t : State} (h : HandedWork s t) : GuardianKept s t :=
  .of_same (by rw [h]) (by rw [h]; rfl)

theorem GuardianKept.of_store {s t : State} (h : StoreWork s t) : GuardianKept s t :=
  .of_same (by rw [h]) (by rw [h]; rfl)

/-- A row of the store that no full reset comes of. -/
theorem GuardianKept.of_row {s t : State} (h : StoreRow s t) (held : t.supply.held = s.supply.held) :
    GuardianKept s t := by
  refine .of_same (by rw [h]) ?_
  unfold State.guardianTables
  rw [held, h]

theorem GuardianKept.commit (s : State) (b : BlockId) : GuardianKept s (s.commit b) := .of_store (.commit ..)

/-- A change of other tables and its commit request. -/
theorem GuardianKept.committed {s t : State} {b : BlockId} (same : GuardianKept s t := by exact .of_same) :
    GuardianKept s (t.commit b) := same.trans (.commit ..)

theorem GuardianKept.settled (s before : State) (offered : Bool) : GuardianKept s (s.settled before offered) :=
  .of_seats (.settled ..)

theorem GuardianKept.judged (s before : State) (sel : Entry → Bool) (offered : Bool) :
    GuardianKept s ((s.reeval sel).settled before offered) := .of_seats ((SeatWork.reeval ..).trans (.settled ..))

/-! ## The window and the lockout -/

/-- A window that closes takes the buffer with it (R172). -/
theorem GuardianKept.closeWindow (s : State) : GuardianKept s s.closeWindow := by
  cases isOpen : s.authority.window with
  | none => rw [closeWindow_of_closed isOpen]; exact .refl s
  | some n =>
    rw [closeWindow_of_open (Option.isSome_of_eq_some isOpen)]
    refine ⟨rfl, fun running law => ?_⟩
    obtain ⟨valid, -, -, -, failures, -, lockout⟩ := law
    exact ⟨valid, nofun, nofun, fun _ => rfl, failures, nofun, lockout⟩

/-- The window opens for the length in force, which is in range, and under no lockout (R168, R171). -/
theorem GuardianKept.admitPin {s : State} (free : s.authority.lockout = none) : GuardianKept s s.admitPin := by
  refine ⟨rfl, fun running law => ?_⟩
  obtain ⟨valid, -, -, -, -, -, lockout⟩ := law
  obtain ⟨-, -, -, -, shortest, longest⟩ := (Settings.valid_iff _).mp valid
  refine ⟨valid, fun _ => rfl, fun _ => free, fun held => ?_, Nat.zero_le _, ?_, lockout⟩
  · rw [show s.admitPin.supply.held = false from running] at held
    cases held
  · rintro n ⟨⟩
    exact ⟨le_trans (by decide) shortest, longest⟩

/-- A lockout lasts at least a second and at most 3840 (R169). -/
theorem lockoutFor_range {f n : Nat} (begins : lockoutFor f = some n) : 1 ≤ n ∧ n ≤ 3840 := by
  unfold lockoutFor at begins
  rw [Option.ite_none_left_eq_some] at begins
  obtain ⟨-, begins⟩ := begins
  cases begins
  have low : 1 ≤ 2 ^ min (f - 3) 6 := Nat.one_le_two_pow
  have high : 2 ^ min (f - 3) 6 ≤ 2 ^ 6 := Nat.pow_le_pow_right (by decide) (min_le_right ..)
  omega

theorem GuardianKept.failPin {s : State} (closed : s.authority.window = none) : GuardianKept s s.failPin := by
  refine ⟨rfl, fun running law => ?_⟩
  obtain ⟨valid, edited, -, held, -, window, -⟩ := law
  refine ⟨valid, edited, fun isOpen => ?_, held, min_le_right .., window, fun n => lockoutFor_range⟩
  rw [show s.failPin.authority.window = none from closed] at isOpen
  cases isOpen

/-- A countdown that runs keeps running, and falls (R169, R171). -/
theorem countdown_isSome (left : Option Nat) : (countdown left).isSome = left.isSome := Option.isSome_map

theorem countdown_range {left : Option Nat} {most : Nat} (inRange : ∀ n ∈ left, 1 ≤ n ∧ n ≤ most) :
    ∀ n ∈ countdown left, 1 ≤ n ∧ n ≤ most := by
  intro n falls
  obtain ⟨m, was, rfl⟩ := Option.mem_map.mp falls
  have := inRange m was
  split <;> omega

theorem GuardianKept.handSecond (s : State) : GuardianKept s s.handSecond := by
  refine ⟨rfl, fun running law => ?_⟩
  obtain ⟨valid, edited, apart, held, failures, window, lockout⟩ := law
  have isOpen : s.handSecond.authority.window.isSome = s.authority.window.isSome := countdown_isSome _
  refine ⟨valid, fun some => isOpen.trans (edited some), fun opened => ?_, fun reset => ?_, failures,
    countdown_range window, countdown_range lockout⟩
  · exact congrArg countdown (apart (isOpen.symm.trans opened))
  · exact congrArg countdown (held reset)

theorem GuardianKept.takeLockoutEnd (s : State) : GuardianKept s (takeLockoutEnd s) := by
  unfold Machine.takeLockoutEnd
  split
  · refine ⟨rfl, fun running law => ?_⟩
    obtain ⟨valid, edited, -, held, failures, window, -⟩ := law
    exact ⟨valid, edited, fun _ => rfl, held, failures, window, nofun⟩
  · exact .refl s

end Sys2Proof.Machine
end

section
/-! SUPPORT. What the owners of the store's blocks leave as the start-up load hands them over: what the blocks hold, and
settings in range (R166, R193). -/

namespace Sys2Proof.Machine

/-- The two states differ at most in the working copies, the clock and the statuses and the commit queue of the store,
and settings in range stay in range. -/
structure OwnerWork (s t : State) : Prop where
  frame : t = { s with
    slots := t.slots, schemes := t.schemes, settings := t.settings, grants := t.grants, meters := t.meters
    meterDirty := t.meterDirty, pool := t.pool, clock := t.clock
    store := { s.store with status := t.store.status, queue := t.store.queue } }
  settings : s.settings.valid = true → t.settings.valid = true

/-- Work that leaves the settings. -/
theorem OwnerWork.of_frame {s t : State} (settings : t.settings = s.settings) (frame : t = { s with
    slots := t.slots, schemes := t.schemes, settings := t.settings, grants := t.grants, meters := t.meters
    meterDirty := t.meterDirty, pool := t.pool, clock := t.clock
    store := { s.store with status := t.store.status, queue := t.store.queue } }) : OwnerWork s t :=
  ⟨frame, fun valid => by rw [settings]; exact valid⟩

theorem OwnerWork.trans {s t u : State} (h : OwnerWork s t) (h' : OwnerWork t u) : OwnerWork s u := by
  refine ⟨?_, h'.settings ∘ h.settings⟩
  rw [h'.frame, h.frame]

theorem OwnerWork.refl (s : State) : OwnerWork s s := .of_frame rfl rfl

theorem OwnerWork.commit (s : State) (b : BlockId) : OwnerWork s (s.commit b) := by
  rw [commit_settled]; exact .of_frame rfl rfl

variable (s : State)

/-- The settings that are settled are in range (R166). -/
theorem OwnerWork.settleHousehold (r : ReadResult) : OwnerWork s (s.settleHousehold r) := by
  have take : ∀ (h : Settings) (v : BlockStatus), h.valid = true →
      OwnerWork s (State.setStatus { s with settings := h } householdBlock v) := fun _ _ valid => ⟨rfl, fun _ => valid⟩
  have factory := fun v => take Settings.factory v factory_valid
  unfold State.settleHousehold; dsimp only
  split
  · exact factory .blank
  · split
    · next settles => exact take _ _ (image_settings settles).1
    · exact (factory .damaged).trans (.commit ..)
  · exact (factory .damaged).trans (.commit ..)

theorem OwnerWork.settleScheme (k : Fin 8) (r : ReadResult) : OwnerWork s (s.settleScheme k r) := by
  unfold State.settleScheme; dsimp only
  split
  · exact .of_frame rfl rfl
  · split <;> exact .of_frame rfl rfl
  · exact .of_frame rfl rfl

theorem OwnerWork.takeSlot (k : Fin 16) (slot : Slot) (v : BlockStatus) : OwnerWork s (s.takeSlot k slot v) :=
  .of_frame rfl rfl

theorem OwnerWork.withoutRecord (k : Fin 16) (slot : Slot) (v : BlockStatus) :
    OwnerWork s (s.withoutRecord k slot v) := by
  unfold State.withoutRecord
  split
  · exact (OwnerWork.takeSlot ..).trans (.commit ..)
  · exact .takeSlot ..

theorem OwnerWork.tokenLaw : OwnerWork s s.tokenLaw := by
  refine List.foldlRecOn _ State.tokenLawAt (OwnerWork.refl s) fun t h k _ => h.trans ?_
  unfold State.tokenLawAt
  split
  · exact .takeSlot ..
  · exact .refl t

theorem OwnerWork.settleProfile (k : Fin 16) (r : ReadResult) : OwnerWork s (s.settleProfile k r) := by
  have lawTaken : ∀ x : State, OwnerWork x (if k = 15 then x.tokenLaw else x) := by
    intro x
    split
    · exact .tokenLaw x
    · exact .refl x
  unfold State.settleProfile; dsimp only
  refine OwnerWork.trans ?_ (lawTaken _)
  split
  · exact .withoutRecord ..
  · split
    · exact .takeSlot ..
    · exact .withoutRecord ..
  · exact .withoutRecord ..

theorem OwnerWork.settleMeters (r : ReadResult) : OwnerWork s (s.settleMeters r) := by
  unfold State.settleMeters
  split
  · exact .of_frame rfl rfl
  · split <;> exact .of_frame rfl rfl
  · exact .of_frame rfl rfl

theorem OwnerWork.settleGrants (r : ReadResult) : OwnerWork s (s.settleGrants r) := by
  have taken : ∀ table v, OwnerWork s (s.takeGrants table v) := fun _ _ => .of_frame rfl rfl
  have retired : ∀ (t : State) sel, OwnerWork t (t.retireGrants sel) := fun _ _ => .of_frame rfl rfl
  unfold State.settleGrants; dsimp only
  split
  · exact taken ..
  · split
    · split
      · exact ((taken ..).trans (retired ..)).trans (.commit ..)
      · exact taken ..
    · exact (taken ..).trans (.commit ..)
  · exact (taken ..).trans (.commit ..)

/-- Whichever block was read, its owner leaves what the blocks hold. -/
theorem OwnerWork.handBlock (b : BlockId) (r : ReadResult) : OwnerWork s (s.handBlock b r) := by
  unfold State.handBlock
  split
  · exact .settleProfile ..
  · split
    · exact .settleScheme ..
    · split
      · exact .settleHousehold ..
      · split
        · exact .settleGrants ..
        · exact .settleMeters ..

end Sys2Proof.Machine
end

section
/-! PROOFS. The guardian law over every row (R166 to R176), and O54. -/

namespace Sys2Proof.Machine

/-! ## The effects of commands -/

theorem GuardianKept.changeScheme (s : State) (k : Fin 8) (c : SchemeSlot) : GuardianKept s (s.changeScheme k c) := by
  refine GuardianKept.trans ?_ (.of_seats (changeScheme_work s k c))
  exact .of_same

/-- A commit of the record ends the edit (R30, R31). -/
theorem GuardianKept.installNew (s : State) (b : EditBuffer) : GuardianKept s (s.installNew b) := by
  unfold State.installNew; dsimp only
  refine GuardianKept.trans ?_ (.commit ..)
  exact .committed (.dropped)

theorem GuardianKept.installChange (s : State) (b : EditBuffer) : GuardianKept s (s.installChange b) :=
  GuardianKept.trans (t := s.changed b) (.dropped) (.of_seats (installChange_work s b))

theorem GuardianKept.topUp (s : State) (x : Nat) : GuardianKept s ((s.topUp (s.pool.credit x)).settle s true).1 := by
  refine GuardianKept.trans ?_ (.of_seats (.settle ..))
  exact .committed

theorem GuardianKept.putGrant (s : State) (i k : Fin 16) (b : GrantBody) : GuardianKept s (s.putGrant i k b) :=
  GuardianKept.trans (t := s.granted i k b) (.of_same) (.of_seats (putGrant_work s i k b))

theorem GuardianKept.addGrant (s : State) (k : Fin 16) (b : GrantBody) : GuardianKept s (s.addGrant k b).1 := by
  unfold State.addGrant
  split
  · split
    · next i _ _ g _ =>
      rcases changeGrant_cases s i k g.body b with same | put
      · rw [same]; exact .refl s
      · rw [put]; exact .putGrant ..
    · exact .refl s
  · split
    · rw [createGrant_state]; exact .putGrant ..
    · exact .refl s

theorem GuardianKept.clockSet (s : State) (a : ClksetArgs) (w : Fin 7) : GuardianKept s (s.clockSet a w) := by
  refine GuardianKept.trans ?_ (.of_tables (clockSet_work s a w))
  rw [tested_eq]
  exact .of_same

theorem GuardianKept.putSettings (s : State) {h : Settings} (inRange : s.settings.valid = true → h.valid = true) :
    GuardianKept s (s.putSettings h) := by
  have written : GuardianKept s { s with settings := h } := .settings inRange
  have judged : GuardianKept s (if h.groupOrder = s.settings.groupOrder then { s with settings := h }
      else (State.reeval { s with settings := h } everyEntry).settled s false) := by
    split
    · exact written
    · exact written.trans (.judged ..)
  unfold State.putSettings; dsimp only
  split
  · exact judged
  · exact judged.trans (.commit ..)

/-- The PIN is UNSET or well-formed (R166, R175). -/
theorem GuardianKept.setPin (s : State) {p : Option (List Nat)}
    (formed : ∀ digits, p = some digits → pinValid digits = true) : GuardianKept s (s.setPin p) := by
  refine GuardianKept.committed (GuardianKept.settings fun valid => ?_)
  rw [Settings.valid_iff] at valid ⊢
  exact ⟨formed, valid.2⟩

theorem pinValid_of_formed {a : PinArgs} (formed : pinWellFormed a = true) : pinValid (pinSequence a) = true :=
  (Bool.and_eq_true_iff.mp formed).2

theorem GuardianKept.of_command {s t : State} (h : CommandEffect s t) : GuardianKept s t := by
  cases h with
  | answers => exact .refl s
  | changeScheme c => exact .changeScheme ..
  | lockScheme => exact .committed
  | edit b allowed => exact .of_edit fun _ => allowed
  | dropEdit => exact .dropped
  | installNew => exact .installNew ..
  | installChange => exact .installChange ..
  | @retired k => exact GuardianKept.trans (t := s.unlisted k) (.of_same) (.of_seats (retired_work s k))
  | enter => exact .of_seats (enter_work ..)
  | leave j k => exact .of_seats ((SeatWork.dropEntry k s j).trans (.settled ..))
  | vacate j => exact .of_seats ((SeatWork.putSeat ..).trans (.settled ..))
  | startProgramme j p => exact .of_seats (startProgramme_work s j p)
  | endProgramme j => exact .of_seats ((SeatWork.putSeat ..).trans (.settled ..))
  | topUp x => exact .topUp s x
  | addGrant => exact .addGrant ..
  | @revoke i g => exact GuardianKept.trans (t := s.ungranted i) (.of_same) (.of_seats (revoke_work s i g.slot))
  | clockSet a w => exact .clockSet s a w
  | admitPin free => exact .admitPin free
  | failPin _ closed => exact .failPin closed
  | closeWindow => exact .closeWindow s
  | unsetPin => exact .setPin s nofun
  | setPin _ formed => exact .setPin s fun digits same => by cases same; exact pinValid_of_formed formed
  | putSettings _ fits => exact .putSettings s (updated_valid fits)
  | retryFailed =>
    have cleared : GuardianKept s { s with store := { s.store with faultLatch := false } } := .of_same
    exact cleared.trans (.foldl GuardianKept.commit _ _)
  | clearNotices => exact .of_same
  | restarted => exact GuardianKept.trans (t := s.emptied) (.dropped) (.closeWindow _)

/-! ## The events of a second -/

theorem GuardianKept.takeGrantExpiry (s : State) : GuardianKept s (takeGrantExpiry s) := by
  cases due : s.due.expiry with
  | none => rw [Machine.takeGrantExpiry, due]; exact .refl s
  | some now =>
    have expired : GuardianKept s (s.expired now) := by rw [expired_eq]; exact .of_same
    exact expired.trans (.of_seats (takeGrantExpiry_work due))

theorem GuardianKept.meterSecond (s : State) : GuardianKept s s.meterSecond :=
  GuardianKept.trans (t := { s with due := { s.due with metering := false } }) (.of_same)
    (.of_seats (meterSecond_work s))

theorem GuardianKept.takeCommitIntervalEnd (s : State) : GuardianKept s (takeCommitIntervalEnd s) := by
  unfold Machine.takeCommitIntervalEnd; dsimp only
  split
  · split
    · exact .committed
    · exact .of_same
  · exact .refl s

/-! ## The start-up load -/

theorem GuardianKept.of_owner {s t : State} (h : OwnerWork s t) : GuardianKept s t := by
  refine .settings h.settings ?_ ?_ ?_ <;> rw [h.frame]

theorem GuardianKept.endLoad (s : State) : GuardianKept s s.endLoad := by
  unfold State.endLoad; dsimp only
  refine GuardianKept.trans ?_ (.of_store (.takeNextWrite _))
  split <;> exact .of_same

theorem GuardianKept.takeStoreBlockRead (s : State) : GuardianKept s (takeStoreBlockRead s) := by
  have read : ∀ n b, GuardianKept s (s.readBlock n b) :=
    fun n b => GuardianKept.trans (t := s.reading n) (.of_same) (.of_owner (.handBlock ..))
  unfold Machine.takeStoreBlockRead
  split
  · exact .refl s
  · split
    · exact .refl s
    · dsimp only
      split
      · exact (read ..).trans (.endLoad _)
      · exact read ..

/-! ## Every row -/

/-- Every row keeps the guardian law. -/
theorem guardianLaw_rows : RowsRelate GuardianKept where
  refl := .refl
  trans := .trans
  link _ _ := .of_same
  pins _ := .of_same
  draw _ _ := .of_same
  command := .of_command
  handed s w := .of_handed (takeHanded_work s w)
  grantExpiry := .takeGrantExpiry
  meteringSecond s := by
    unfold takeMeteringSecond
    split
    · exact .meterSecond s
    · exact .refl s
  windDownEnd s := by
    unfold takeWindDownEnd
    split
    · exact .meterSecond s
    · exact .of_seats ((SeatWork.writeEntries ..).trans (.settled ..))
  commitIntervalEnd := .takeCommitIntervalEnd
  poolWaitTimeout s := by
    unfold takePoolWaitTimeout
    split
    · exact GuardianKept.trans (t := s.withoutLate) (.of_same) (.of_seats (timeoutCheck_work s).work)
    · exact .refl s
  windowExpiry s := by
    unfold takeWindowExpiry
    split
    · exact .closeWindow s
    · exact .refl s
  lockoutEnd := .takeLockoutEnd
  handSecond := .handSecond
  midnight _ := .of_same
  quietMidnight s before := by
    have installed : GuardianKept s s.installMeterDay := .of_same
    have rolled : TableWork s.installMeterDay s.installMeterDay.rollMeters.rollPool :=
      (takeClockWork_work _ (.roll .meters)).trans (takeClockWork_work _ (.roll .pool))
    exact installed.trans ((GuardianKept.of_tables rolled).trans (.settled ..))
  nextWrite s := .of_store (.takeNextWrite s)
  eraseComplete interrupted s := .of_row (takeEraseComplete_row ..) (Narrows.takeEraseComplete s interrupted).held
  programComplete interrupted s := .of_row (takeProgramComplete_row ..) (Narrows.takeProgramComplete s interrupted).held
  verifyComplete interrupted isMatch s :=
    .of_row (takeVerifyComplete_row ..) (Narrows.takeVerifyComplete s interrupted isMatch).held
  supplyWarning s := .of_row (takeSupplyWarning_row s) (Narrows.takeSupplyWarning s).held
  supplyClear _ := .of_same
  storeBlockRead := .takeStoreBlockRead
  restartWrite s := .of_row (restartWrite_row s) (Narrows.restartWrite s).held
  dipOver _ := .of_same

/-! ## Every step -/

/-- A full reset brings the law about (R192). -/
theorem beginReset_guardianLaw (s : State) (straps : BitVec 2) : (s.beginReset straps).GuardianLaw :=
  ⟨factory_valid, nofun, nofun, fun _ => rfl, Nat.zero_le _, nofun, nofun⟩

/-- The window is CLOSED while a reset is held, so that the start-up lockout does not meet it (R170). -/
theorem takeStartUpLoad_guardianLaw (high : Bool) (millivolts : Nat) {s : State} (law : s.GuardianLaw) :
    (takeStartUpLoad high millivolts s).GuardianLaw := by
  unfold takeStartUpLoad
  split
  · next ends =>
    simp only [Bool.and_eq_true] at ends
    obtain ⟨⟨reset, -⟩, -⟩ := ends
    obtain ⟨valid, edited, -, held, failures, window, -⟩ := law
    refine ⟨valid, edited, fun isOpen => ?_, nofun, failures, window, ?_⟩
    · have isOpen : s.authority.window.isSome = true := isOpen
      rw [held reset] at isOpen; cases isOpen
    · rintro n ⟨⟩; decide
  · exact law

section
variable {s : State} (law : s.GuardianLaw)
include law

theorem taken_guardianLaw (i : Instr) : (s.taken i (takeEvent i)).GuardianLaw := by
  unfold State.taken
  split
  · exact law
  · next running =>
    split
    · split <;> exact law
    · exact (guardianLaw_rows.trans (guardianLaw_rows.takeEvent i s) (guardianLaw_rows.pins _)).law
        (Bool.eq_false_of_not_eq_true running) law

theorem takeDipEnd_guardianLaw (micros : Nat) : (takeDipEnd micros s).GuardianLaw := by
  unfold takeDipEnd
  split
  · exact law
  · next inDip =>
    rw [Bool.or_eq_true, not_or, Bool.not_eq_true] at inDip
    obtain ⟨running, -⟩ := inDip
    split
    · exact beginReset_guardianLaw ..
    · exact (guardianLaw_rows.endDip s).law running law

theorem exec_guardianLaw {i : Instr} {t : State} (run : exec i s = .next t) : t.GuardianLaw := by
  rcases exec_cases run with rfl | rfl | ⟨micros, rfl⟩ | ⟨cause, lvs1, lvs0, rfl⟩ | ⟨high, millivolts, rfl⟩
  · exact taken_guardianLaw law i
  · unfold takeDipBegin
    split <;> exact law
  · exact takeDipEnd_guardianLaw law micros
  · unfold takeFullReset
    split
    · exact beginReset_guardianLaw ..
    · exact law
  · exact takeStartUpLoad_guardianLaw high millivolts law

end

/-- Settles O54: while no full reset is held every row keeps the guardian law, and a full reset brings it about, from
which the start-up load begins with the window CLOSED. -/
theorem everyStepKeepsTheGuardianLaw : Obligations.EveryStepKeepsTheGuardianLaw := by
  unfold Obligations.EveryStepKeepsTheGuardianLaw KeptByEveryStep
  intro s t law run
  unfold step at run
  split at run
  · cases run; exact law
  · next i rest _ => exact exec_guardianLaw (s := { s with pending := rest }) law run

end Sys2Proof.Machine
end

section
/-! PROOFS. What a CLOSED window refuses (R173), the outcomes of **pin** (R167 to R171), **repin** and **close** (R172,
R175), and O7, O39 and O40. -/

namespace Sys2Proof.Machine

/-! ## Guarded commands -/

/-- Settles O7: the window is looked at before the payload and everything else. -/
theorem guardedCommandsNeedTheWindow : Obligations.GuardedCommandsNeedTheWindow := by
  unfold Obligations.GuardedCommandsNeedTheWindow
  intro i s isOne h closed
  cases i with
  | eopen req | retire req | topup req | gadd req | grevoke req | repin req | hset req =>
    exact exec_of_owner h rfl (guarded_closed closed _)
  | _ => cases isOne

/-! ## Digit sequences -/

section
variable {a : PinArgs}

/-- The digits that a sequence gives are those of its count, as far as there are digits (11.6). -/
theorem pinSequence_length (digits : a.digits.length = 8) (most : a.count.toNat ≤ 8) :
    (pinSequence a).length = a.count.toNat := by
  rw [pinSequence, List.length_map, List.length_take, digits, min_eq_left most]

/-- A count of 4..8 and decimal digits alone make a sequence well-formed (R167, R175). -/
theorem pinWellFormed_of_digits (least : 4 ≤ a.count.toNat) (most : a.count.toNat ≤ 8) (digits : a.digits.length = 8)
    (decimal : ∀ d ∈ pinSequence a, d ≤ 9) : pinWellFormed a = true := by
  simp only [pinWellFormed, pinValid, pinSequence_length digits most, Bool.and_eq_true, decide_eq_true_eq,
    List.all_eq_true]
  exact ⟨⟨least, most⟩, ⟨least, most⟩, decimal⟩

theorem pinWellFormed_of_bad (bad : a.count.toNat < 4 ∨ 8 < a.count.toNat ∨ ∃ d ∈ pinSequence a, 9 < d) :
    pinWellFormed a = false := by
  refine Bool.eq_false_iff.mpr fun formed => ?_
  simp only [pinWellFormed, pinValid, Bool.and_eq_true, decide_eq_true_eq, List.all_eq_true] at formed
  obtain ⟨⟨least, most⟩, -, decimal⟩ := formed
  rcases bad with low | high | ⟨d, mem, high⟩
  · omega
  · omega
  · exact absurd (decimal d mem) (by omega)

end

/-- A sequence is right where the PIN is UNSET or is that sequence (R167). -/
theorem admits_iff (h : Settings) (digits : List Nat) :
    h.admits digits = true ↔ h.pin = none ∨ h.pin = some digits := by
  unfold Settings.admits
  cases h.pin <;> simp

/-! ## pin -/

section
variable {s : State} {a : PinArgs}

theorem pin_of_bad (bad : pinWellFormed a = false) : pin (.fields a) s = (s, refuse .badArgument) := by
  rw [pin, withFields_fields, bad]; rfl

theorem pin_of_lockout (formed : pinWellFormed a = true) {left : Nat} (locked : s.authority.lockout = some left) :
    pin (.fields a) s = (s, ⟨.lockedOut, be2 left⟩) := by
  rw [pin, withFields_fields, formed, locked]; rfl

theorem pin_of_free (formed : pinWellFormed a = true) (free : s.authority.lockout = none) : pin (.fields a) s =
    if s.settings.admits (pinSequence a) then (s.admitPin, ok s.admitPin.pinPayload)
    else if s.authority.window.isSome then (s, ⟨.wrongPin, be1 s.authority.failures ++ optField be2 none⟩)
    else (s.failPin, ⟨.wrongPin, be1 s.failPin.authority.failures ++ optField be2 s.failPin.authority.lockout⟩) := by
  rw [pin, withFields_fields, formed, free]; rfl

end

/-- Settles O39: the sequence's form, the lockout, the PIN and the window are looked at in this order. -/
theorem pinOutcomes : Obligations.PinOutcomes := by
  unfold Obligations.PinOutcomes
  intro s a h i digits formed right len
  have wellFormed : formed → pinWellFormed a = true :=
    fun ⟨most, least, digits, decimal⟩ => pinWellFormed_of_digits least most digits decimal
  have admits : s.settings.admits (pinSequence a) = true ↔ right := admits_iff ..
  refine ⟨fun bad => ?_, fun good left locked => ?_, fun good free isRight => ?_, fun good free wrong isOpen => ?_,
    fun good free wrong closed => ?_⟩
  · exact exec_of_owner h rfl (pin_of_bad (pinWellFormed_of_bad bad))
  · exact exec_of_owner h rfl (pin_of_lockout (wellFormed good) locked)
  · have opened : s.admitPin = { s with
        authority := ⟨some len, 0, none⟩, due := { s.due with window := false } } := by
      rw [← free]; rfl
    rw [← opened]
    exact exec_of_owner h rfl (by rw [pin_of_free (wellFormed good) free, if_pos (admits.mpr isRight)]; rfl)
  · exact exec_of_owner h rfl (by
      rw [pin_of_free (wellFormed good) free, if_neg (wrong ∘ admits.mp), if_pos isOpen]; rfl)
  · intro f length
    have failed : s.failPin = { s with authority := ⟨none, f, lockoutFor f⟩ } := by rw [← closed]; rfl
    have payload : be1 s.failPin.authority.failures ++ optField be2 s.failPin.authority.lockout =
        be1 f ++ if f < 3 then be1 0 ++ be2 0 else be1 1 ++ be2 length := by
      rw [failed]
      dsimp only [lockoutFor]
      split <;> rfl
    have isClosed : ¬ s.authority.window.isSome = true := by rw [closed]; nofun
    show _ = Host.Outcome.next (State.replied { s with authority := ⟨none, f, lockoutFor f⟩ } i .wrongPin _)
    rw [← payload, ← failed]
    exact exec_of_owner h rfl (by
      rw [pin_of_free (wellFormed good) free, if_neg (wrong ∘ admits.mp), if_neg isClosed])

/-! ## repin and close -/

theorem repin_of_open {s : State} (isOpen : s.authority.window.isSome = true) (a : PinArgs) : repin (.fields a) s =
    if a.count = 0 then (s.setPin none, ok (flagByte true))
    else if pinWellFormed a then (s.setPin (some (pinSequence a)), ok (flagByte false))
    else (s, refuse .badArgument) := by
  rw [repin, guarded_open isOpen, withFields_fields]

theorem close_eq (s : State) : close (.fields ()) s = (s.closeWindow,
    ok (flagByte s.authority.window.isSome ++ flagByte (s.authority.window.isSome && s.edit.isSome))) := rfl

/-- Settles O40: a count of 0 stands before the form of the sequence, and a CLOSED window has nothing to close. -/
theorem repinAndClose : Obligations.RepinAndClose := by
  unfold Obligations.RepinAndClose
  refine ⟨fun s a h isOpen length => ?_, fun s h => ⟨fun closed => ?_, fun isOpen => ?_⟩⟩
  · intro i digits put
    refine ⟨fun unset => ?_, fun least most decimal => ?_, fun counted bad => ?_⟩
    · exact exec_of_owner h rfl (by rw [repin_of_open isOpen, if_pos unset]; rfl)
    · have counted : a.count ≠ 0 := fun zero => by rw [zero] at least; cases least
      exact exec_of_owner h rfl (by
        rw [repin_of_open isOpen, if_neg counted, if_pos (pinWellFormed_of_digits least most length decimal)]; rfl)
    · exact exec_of_owner h rfl (by rw [repin_of_open isOpen, if_neg counted, pinWellFormed_of_bad bad]; rfl)
  · exact exec_of_owner h rfl (by rw [close_eq, closeWindow_of_closed closed, closed]; rfl)
  · exact exec_of_owner h rfl (by rw [close_eq, closeWindow_of_open isOpen, isOpen, Bool.true_and]; rfl)

end Sys2Proof.Machine
end

section
/-! PROOFS. The settings that an **hset** writes (R176, R177), and O41. -/

namespace Sys2Proof.Machine

/-! ## The fields -/

section
variable {a : HsetArgs}

/-- What an **hset** is refused for (R176). -/
theorem hsetRefused_iff : hsetRefused a = true ↔ a.mask &&& 0xF0 ≠ 0
    ∨ (a.mask.getLsbD 0 = true ∧ groupOrder? a.groups = none)
    ∨ (a.mask.getLsbD 1 = true ∧ tierOrder? a.tiers = none)
    ∨ (a.mask.getLsbD 2 = true ∧ 600 < a.poolSize.toNat) := by
  simp only [hsetRefused, Bool.or_eq_true, Bool.and_eq_true, decide_eq_true_eq, Option.isNone_iff_eq_none, or_assoc]

/-- The mark of a window length that was clamped (R176). -/
theorem clampLength_ne_iff (n : Nat) : clampLength n ≠ n ↔ n < 60 ∨ 900 < n := by
  unfold clampLength
  omega

section
variable (h : Settings) (fits : hsetRefused a = false)
include fits

theorem updated_groupOrder : if a.mask.getLsbD 0 then groupOrder? a.groups = some (h.updated a).groupOrder
    else (h.updated a).groupOrder = h.groupOrder := by
  unfold Settings.updated
  cases present : a.mask.getLsbD 0 with
  | false => rfl
  | true =>
    cases given : groupOrder? a.groups with
    | none => exact absurd (hsetRefused_iff.mpr (.inr (.inl ⟨present, given⟩))) (Bool.eq_false_iff.mp fits)
    | some g => rfl

theorem updated_tierOrder : if a.mask.getLsbD 1 then tierOrder? a.tiers = some (h.updated a).tierOrder
    else (h.updated a).tierOrder = h.tierOrder := by
  unfold Settings.updated
  cases present : a.mask.getLsbD 1 with
  | false => rfl
  | true =>
    cases given : tierOrder? a.tiers with
    | none => exact absurd (hsetRefused_iff.mpr (.inr (.inr (.inl ⟨present, given⟩)))) (Bool.eq_false_iff.mp fits)
    | some g => rfl

end

end

/-! ## The settings are put -/

section
variable (s : State) (h : Settings)

/-- The part with the settings written and every entry judged under them, if their group order is new (R177). -/
def State.reordered : State :=
  if h.groupOrder = s.settings.groupOrder then { s with settings := h }
  else (State.reeval { s with settings := h } everyEntry).settled s false

theorem putSettings_eq : s.putSettings h =
    if h = s.settings then s.reordered h else (s.reordered h).commit householdBlock := rfl

theorem reordered_work : SeatWork { s with settings := h } (s.reordered h) := by
  unfold State.reordered
  split
  · exact .refl _
  · exact (SeatWork.reeval ..).trans (.settled ..)

/-- The commit queue after an **hset** (R177, R181). -/
def State.settingsQueued : Store :=
  { s.store with queue := if h = s.settings then s.store.queue else s.queueWith [householdBlock] }

/-- The commit request comes last, and the seats do not see it. -/
theorem putSettings_store : s.putSettings h = { s.reordered h with store := s.settingsQueued h } := by
  have store : (s.reordered h).store = s.store := (reordered_work s h).store
  rw [putSettings_eq]
  unfold State.settingsQueued
  split
  · rw [← store]
  · rw [State.commit_queueWith]
    unfold State.queueWith State.queued
    rw [store]

theorem putSettings_work : SeatWork { s with settings := h, store := s.settingsQueued h } (s.putSettings h) := by
  rw [putSettings_store]
  exact (reordered_work s h).withStore _

/-- Settings that stand leave the part as it was (R177). -/
theorem putSettings_same : s.putSettings s.settings = s := by
  rw [putSettings_eq, if_pos rfl, State.reordered, if_pos rfl]

theorem putSettings_stands (same : h.groupOrder = s.settings.groupOrder) :
    s.putSettings h = { s with settings := h, store := s.settingsQueued h } := by
  rw [putSettings_store, State.reordered, if_pos same]

/-- A new group order judges every entry (R177). -/
theorem putSettings_rejudges (new : h.groupOrder ≠ s.settings.groupOrder) :
    Rejudges s { s with settings := h } (s.putSettings h) true fun _ _ => true := by
  rw [putSettings_store, State.reordered, if_neg new]
  exact rejudges_reeval s { s with settings := h } everyEntry false rfl

end

/-! ## hset -/

section
variable {s : State} {a : HsetArgs} (isOpen : s.authority.window.isSome = true)
include isOpen

theorem hset_of_bad (bad : hsetRefused a = true) : hset (.fields a) s = (s, refuse .badArgument) := by
  rw [hset, guarded_open isOpen, withFields_fields, if_pos bad]

theorem hset_of_fits (fits : hsetRefused a = false) : hset (.fields a) s =
    let h := s.settings.updated a
    (s.putSettings h, ok (h.payload
      ++ flagByte (h.groupOrder ≠ s.settings.groupOrder) ++ flagByte (h.tierOrder ≠ s.settings.tierOrder)
      ++ flagByte (h.poolSize ≠ s.settings.poolSize) ++ flagByte (h.windowLength ≠ s.settings.windowLength)
      ++ flagByte (a.mask.getLsbD 3 && decide (clampLength a.windowLength.toNat ≠ a.windowLength.toNat))
      ++ be1 (if h.groupOrder = s.settings.groupOrder then 0 else s.countEntries everyEntry))) := by
  rw [hset, guarded_open isOpen, withFields_fields, fits]; rfl

end

/-- Settles O41: past the checks the settings are put at once, and what follows asks which of them changed. -/
theorem hsetWritesTheSettings : Obligations.HsetWritesTheSettings := by
  unfold Obligations.HsetWritesTheSettings
  intro s a handed isOpen i old n bad
  have refused : hsetRefused a = true ↔ bad := hsetRefused_iff
  refine ⟨fun isBad => exec_of_owner handed rfl (hset_of_bad isOpen (refused.mpr isBad)), fun good => ?_⟩
  have fits : hsetRefused a = false := Bool.eq_false_iff.mpr (good ∘ refused.mp)
  let h := old.updated a
  have work := putSettings_work s h
  have settings : (s.putSettings h).settings = h := by rw [work]
  have store : (s.putSettings h).store = s.settingsQueued h := by rw [work]
  have sameSettings : ∀ payload, ((s.putSettings h).replied i .ok payload).settings = h := fun _ => settings
  have sameStore : ∀ payload, ((s.putSettings h).replied i .ok payload).store = s.settingsQueued h := fun _ => store
  refine ⟨_, exec_of_owner handed rfl (hset_of_fits isOpen fits), ?_⟩
  rw [sameSettings, sameStore]
  refine ⟨rfl, updated_groupOrder old fits, updated_tierOrder old fits, rfl, rfl, rfl, fun same => ?_, ?_, ?_,
    fun same => ?_, fun new => ?_⟩
  · have stands : s.putSettings h = s := (congrArg s.putSettings same).trans (putSettings_same s)
    rw [stands]; rfl
  · simp only [clampLength_ne_iff]
    exact replied_holds ..
  · exact work.replied ..
  · rw [putSettings_stands s h same]
    exact ⟨rfl, rfl, rfl, rfl, rfl⟩
  · exact Rejudges.replied (putSettings_rejudges s h new) _ _ _

end Sys2Proof.Machine
end

section
/-! SUPPORT. The token law of the start-up load, slot by slot (R40). -/

namespace Sys2Proof.Machine

theorem slot_profile?_iff {x : Slot} {p : Profile} : x.profile? = some p ↔ x = .live p := by
  cases x <;> simp [Slot.profile?]

theorem profile?_iff {s : State} {k : Fin 16} {p : Profile} : s.profile? k = some p ↔ s.slots[k] = .live p :=
  slot_profile?_iff

/-- The record of slot k shares a token with a LIVE slot below it (R40). -/
theorem tokenClash_iff (s : State) (k : Fin 16) : s.tokenClash k = true ↔
    ∃ p, s.slots[k] = .live p ∧ ∃ j < k, ∃ q, s.slots[j] = .live q
      ∧ ∃ t, (p.who.primary = some t ∨ p.who.secondary = some t) ∧ q.holdsToken t = true := by
  have shares : ∀ p q : Profile, (p.who.primary.any q.holdsToken || p.who.secondary.any q.holdsToken) = true ↔
      ∃ t, (p.who.primary = some t ∨ p.who.secondary = some t) ∧ q.holdsToken t = true := by
    intro p q
    simp only [Bool.or_eq_true, Option.any_eq_true, or_and_right, exists_or]
  simp only [State.tokenClash, Option.any_eq_true, List.any_eq_true, List.mem_finRange, true_and, Bool.and_eq_true,
    decide_eq_true_eq, profile?_iff, shares]

section
variable (s : State) (k : Fin 16)

theorem tokenLawAt_frame : s.tokenLawAt k =
    { s with slots := (s.tokenLawAt k).slots, store := { s.store with status := (s.tokenLawAt k).store.status } } := by
  unfold State.tokenLawAt
  split <;> rfl

theorem tokenLawAt_other {j : Fin 16} (other : j ≠ k) : (s.tokenLawAt k).slots[j] = s.slots[j] := by
  unfold State.tokenLawAt
  split
  · exact Vector.getElem_set_ne (hi := k.isLt) (hj := j.isLt) fun same => other (Fin.ext same.symm)
  · rfl

theorem tokenLawAt_status {b : BlockId} (other : b ≠ profileBlock k) :
    (s.tokenLawAt k).store.status[b] = s.store.status[b] := by
  unfold State.tokenLawAt
  split
  · exact Vector.getElem_set_ne (hi := (profileBlock k).isLt) (hj := b.isLt) fun same => other (Fin.ext same.symm)
  · rfl

variable {s k}

theorem tokenLawAt_of_clash (above : k ≠ 0) (clash : s.tokenClash k = true) : (s.tokenLawAt k).slots[k] = .damaged
    ∧ (s.tokenLawAt k).store.status[profileBlock k] = .damaged := by
  have taken : s.tokenLawAt k = s.takeSlot k .damaged .damaged :=
    if_pos (Bool.and_eq_true_iff.mpr ⟨decide_eq_true above, clash⟩)
  rw [taken]
  exact ⟨Vector.getElem_set_self .., Vector.getElem_set_self ..⟩

theorem tokenLawAt_of_none (none : ¬ (k ≠ 0 ∧ s.tokenClash k = true)) : s.tokenLawAt k = s :=
  if_neg fun both => none ((Bool.and_eq_true_iff.mp both).imp_left of_decide_eq_true)

end

/-! ## A run of slots -/

section
variable (l : List (Fin 16)) (s : State)

theorem foldl_tokenLawAt_frame : l.foldl State.tokenLawAt s = { s with
    slots := (l.foldl State.tokenLawAt s).slots
    store := { s.store with status := (l.foldl State.tokenLawAt s).store.status } } := by
  induction l generalizing s with
  | nil => rfl
  | cons k l ih =>
    rw [List.foldl_cons, ih, tokenLawAt_frame s k]

variable {l}

theorem foldl_tokenLawAt_other {j : Fin 16} (absent : j ∉ l) : (l.foldl State.tokenLawAt s).slots[j] = s.slots[j] :=
  List.foldlRecOn l State.tokenLawAt (motive := fun t => t.slots[j] = s.slots[j]) rfl fun t same k mem =>
    (tokenLawAt_other t k fun equal => absent (by rw [equal]; exact mem)).trans same

theorem foldl_tokenLawAt_status {b : BlockId} (absent : ∀ k ∈ l, b ≠ profileBlock k) :
    (l.foldl State.tokenLawAt s).store.status[b] = s.store.status[b] :=
  List.foldlRecOn l State.tokenLawAt (motive := fun t => t.store.status[b] = s.store.status[b]) rfl fun t same k mem =>
    (tokenLawAt_status t k (absent k mem)).trans same

end

theorem profileBlock_injective {j k : Fin 16} (same : profileBlock j = profileBlock k) : j = k :=
  Fin.ext (Fin.mk.inj same)

/-- Taking the slots in ascending order, each one meets the slots below it as the law leaves them (R40). -/
theorem foldl_tokenLawAt_taken {l : List (Fin 16)} (all : ∀ k, k ∈ l) (sorted : l.Pairwise (· < ·)) (s : State) :
    TokenLawTaken s (l.foldl State.tokenLawAt s) := by
  refine ⟨foldl_tokenLawAt_frame l s, fun b above => foldl_tokenLawAt_status s fun k _ same => ?_, fun k => ?_⟩
  · rw [same] at above
    exact absurd k.isLt (Nat.not_lt.mpr above)
  · obtain ⟨before, after, rfl⟩ := List.append_of_mem (all k)
    obtain ⟨-, fromHere, below⟩ := List.pairwise_append.mp sorted
    have above : ∀ j ∈ after, k < j := fun _ => List.rel_of_pairwise_cons fromHere
    have notBefore : k ∉ before := fun mem => lt_irrefl k (below k mem k (List.mem_cons_self ..))
    have notAfter : k ∉ after := fun mem => lt_irrefl k (above k mem)
    have apart : ∀ {l : List (Fin 16)}, k ∉ l → ∀ j ∈ l, profileBlock k ≠ profileBlock j :=
      fun absent j mem same => absent (profileBlock_injective same ▸ mem)
    rw [List.foldl_append, List.foldl_cons]
    generalize met : before.foldl State.tokenLawAt s = t
    have slot : t.slots[k] = s.slots[k] := met ▸ foldl_tokenLawAt_other s notBefore
    have status : t.store.status[profileBlock k] = s.store.status[profileBlock k] :=
      met ▸ foldl_tokenLawAt_status s (apart notBefore)
    have lower : ∀ j < k, (after.foldl State.tokenLawAt (t.tokenLawAt k)).slots[j] = t.slots[j] := by
      intro j lt
      rw [foldl_tokenLawAt_other _ fun mem => lt_asymm lt (above j mem), tokenLawAt_other t k lt.ne]
    have clash : t.tokenClash k = true ↔ ∃ p, s.slots[k] = .live p ∧ ∃ j < k, ∃ q,
        (after.foldl State.tokenLawAt (t.tokenLawAt k)).slots[j] = .live q
          ∧ ∃ x, (p.who.primary = some x ∨ p.who.secondary = some x) ∧ q.holdsToken x = true := by
      rw [tokenClash_iff, slot]
      refine exists_congr fun p => and_congr_right fun _ => exists_congr fun j => and_congr_right fun lt => ?_
      rw [lower j lt]
    dsimp only
    rw [← clash, foldl_tokenLawAt_other _ notAfter, foldl_tokenLawAt_status _ (apart notAfter)]
    refine ⟨fun ⟨above, shares⟩ => tokenLawAt_of_clash above shares, fun none => ?_⟩
    rw [tokenLawAt_of_none none]
    exact ⟨slot, status⟩

theorem tokenLaw_taken (s : State) : TokenLawTaken s s.tokenLaw :=
  foldl_tokenLawAt_taken List.mem_finRange (List.pairwise_lt_finRange 16) s

end Sys2Proof.Machine
end

section
/-! SUPPORT. What the meter unit, the pool arbiter and the grant table settle from their blocks (R116, R122, R152). -/

namespace Sys2Proof.Machine

/-! ## The meter block -/

/-- The contents that a meter block may give (R116, R122). -/
def MeterImage.Valid (x : MeterImage) : Prop := (∀ k : Fin 16, x.records[k].valid = true) ∧ x.flagsOk = true
  ∧ x.meterDay ≤ 65535 ∧ x.meterWeekday ≤ 6 ∧ x.pool.valid = true

theorem records_valid_iff (records : Vector Meter 16) :
    records.toList.all Meter.valid = true ↔ ∀ k : Fin 16, records[k].valid = true := by
  rw [List.all_eq_true]
  constructor
  · exact fun all k => all _ (Vector.mem_toList_iff.mpr (Vector.getElem_mem k.isLt))
  · intro all m mem
    obtain ⟨i, hi, rfl⟩ := Vector.mem_iff_getElem.mp (Vector.mem_toList_iff.mp mem)
    exact all ⟨i, hi⟩

/-- The weekday of contents that pass the checks. -/
theorem weekday?_of_valid {x : MeterImage} (valid : x.Valid) : x.weekday? = some (Fin.ofNat 7 x.meterWeekday) := by
  obtain ⟨records, flags, day, weekday, pool⟩ := valid
  have checked : (x.records.toList.all Meter.valid && x.flagsOk && x.meterDay ≤ 65535 && x.pool.valid) = true := by
    simp only [Bool.and_eq_true, decide_eq_true_eq]
    exact ⟨⟨⟨(records_valid_iff _).mpr records, flags⟩, day⟩, pool⟩
  rw [MeterImage.weekday?, if_pos checked]
  exact below_of_eq (Nat.mod_eq_of_lt (Nat.lt_succ_of_le weekday)).symm

theorem valid_of_weekday? {x : MeterImage} {w : Fin 7} (given : x.weekday? = some w) : x.Valid := by
  rw [MeterImage.weekday?, Option.ite_none_right_eq_some] at given
  obtain ⟨checked, inWeek⟩ := given
  simp only [Bool.and_eq_true, decide_eq_true_eq] at checked
  obtain ⟨⟨⟨records, flags⟩, day⟩, pool⟩ := checked
  exact ⟨(records_valid_iff _).mp records, flags, day,
    below_eq_some inWeek ▸ Nat.le_of_lt_succ w.isLt, pool⟩

theorem weekday?_of_invalid {x : MeterImage} (invalid : ¬ x.Valid) : x.weekday? = none :=
  Option.eq_none_iff_forall_ne_some.mpr fun _ given => invalid (valid_of_weekday? given)

section
variable {s : State} {r : ReadResult} {v : BlockStatus}

/-- Contents that pass the checks are taken, with the records of LIVE CHILD and GUEST profiles alone (R94, R116). -/
theorem settleMeters_of_contents {x : MeterImage} (gives : MeterGives r (some x) v) : s.settleMeters r =
    State.setStatus { s with
      meters := s.keptRecords x.records
      meterDirty := decide (s.keptRecords x.records ≠ x.records)
      clock := { s.clock with meterDay := x.meterDay, meterWeekday := Fin.ofNat 7 x.meterWeekday }
      pool := x.pool } meterBlock v := by
  rcases gives with ⟨-, given, -⟩ | ⟨y, rfl, valid, given, rfl⟩ | ⟨-, given, -⟩
  · cases given
  · cases given
    rw [State.settleMeters, weekday?_of_valid valid]
  · cases given

/-- Without contents every record is cleared, and the pool begins anew (R116, R122). -/
theorem settleMeters_of_none (gives : MeterGives r none v) : s.settleMeters r = s.withoutMeters v := by
  rcases gives with ⟨rfl, -, rfl⟩ | ⟨y, -, -, given, -⟩ | ⟨failed, -, rfl⟩
  · rfl
  · cases given
  · rcases failed with rfl | ⟨d, rfl, invalid⟩
    · rfl
    · cases d with
      | meter x => rw [State.settleMeters, weekday?_of_invalid (invalid x rfl)]
      | _ => rfl

end

theorem keptRecords_entry (s : State) (records : Vector Meter 16) (k : Fin 16) : (s.keptRecords records)[k] =
    match s.rules? k with
    | some _ => records[k]
    | none => Meter.cleared := by
  have entry : (s.keptRecords records)[k] = _ := Vector.getElem_ofFn ..
  rw [entry]
  cases s.rules? k <;> rfl

/-! ## The grant block -/

/-- The grants that a grant block may give (R137, R138, R152). -/
def ValidGrants (table : Vector (Option Grant) 16) : Prop := (∀ e : Fin 16, ∀ g ∈ table[e], g.body.valid = true)
  ∧ ∀ d e : Fin 16, d ≠ e → ∀ g ∈ table[d], ∀ h ∈ table[e], g.clashes h = false

/-- The contents of a grant block for a table (R151). -/
def grantImages (table : Vector (Option Grant) 16) : Vector (Option GrantImage) 16 :=
  table.map fun g => g.map Grant.image

theorem grant?_of_valid {g : Grant} (valid : g.body.valid = true) : g.image.grant? = some g := by
  have slot : below 16 g.slot.val = some g.slot := below_of_eq rfl
  simp only [Grant.image, GrantImage.grant?, slot, valid, if_true]

/-- A stored entry that gives a grant is the grant's own (R151, R152). -/
theorem image_of_grant? {i : GrantImage} {g : Grant} (given : i.grant? = some g) : i = g.image := by
  obtain ⟨slot, body⟩ := i
  unfold GrantImage.grant? at given
  split at given
  · next k b named stored =>
    rw [Option.ite_none_right_eq_some] at given
    obtain ⟨-, ⟨⟩⟩ := given
    exact GrantImage.mk.injEq .. ▸ ⟨(below_eq_some named).symm, stored⟩
  · cases given

theorem grantsOf?_of_valid {table : Vector (Option Grant) 16} (valid : ValidGrants table) :
    grantsOf? (grantImages table) = some table := by
  obtain ⟨inRange, distinct⟩ := valid
  have entry : ∀ e : Fin 16, (grantImages table)[e] = table[e].map Grant.image := fun e => Vector.getElem_map ..
  have back : ∀ e : Fin 16, (grantImages table)[e].bind GrantImage.grant? = table[e] := by
    intro e
    rw [entry]
    cases live : table[e] with
    | none => rfl
    | some g => exact grant?_of_valid (inRange e g live)
  have same : (Vector.ofFn fun e : Fin 16 => (grantImages table)[e].bind GrantImage.grant?) = table := by
    ext1 i hi
    exact (Vector.getElem_ofFn ..).trans (back ⟨i, hi⟩)
  have stored : (grantImages table).toList.all (fun e => e.all fun g => g.grant?.isSome) = true := by
    refine List.all_eq_true.mpr fun x mem => ?_
    obtain ⟨i, hi, rfl⟩ := Vector.mem_iff_getElem.mp (Vector.mem_toList_iff.mp mem)
    show ((grantImages table)[(⟨i, hi⟩ : Fin 16)].all _) = true
    rw [entry]
    cases live : table[(⟨i, hi⟩ : Fin 16)] with
    | none => rfl
    | some g => exact Option.isSome_of_eq_some (grant?_of_valid (inRange _ g live))
  have apart : distinctGrants (table.toList.filterMap id) = true := by
    rw [distinctGrants_iff, List.pairwise_filterMap, List.pairwise_iff_getElem]
    intro i j hi hj lt g hg h hh
    rw [Vector.length_toList] at hi hj
    exact distinct ⟨i, hi⟩ ⟨j, hj⟩ (fun equal => lt.ne (Fin.mk.inj equal)) g (by simpa using hg) h (by simpa using hh)
  unfold grantsOf?; dsimp only
  rw [same, stored, apart]; rfl

theorem valid_of_grantsOf? {stored : Vector (Option GrantImage) 16} {table : Vector (Option Grant) 16}
    (given : grantsOf? stored = some table) : ValidGrants table ∧ stored = grantImages table := by
  obtain ⟨distinct, inRange⟩ := grantsOf?_grantLaw (s := State.takeGrants State.reset table .ok) given
  refine ⟨⟨inRange, distinct⟩, ?_⟩
  unfold grantsOf? at given; dsimp only at given
  rw [Option.ite_none_right_eq_some, Bool.and_eq_true, List.all_eq_true] at given
  obtain ⟨⟨readable, -⟩, given⟩ := given
  cases given
  ext1 i hi
  have some := readable stored[i] (Vector.mem_toList_iff.mpr (Vector.getElem_mem hi))
  rw [grantImages, Vector.getElem_map, Vector.getElem_ofFn]
  show stored[i] = (stored[i].bind GrantImage.grant?).map Grant.image
  cases entry : stored[i] with
  | none => rfl
  | some x =>
    rw [entry] at some
    obtain ⟨g, reads⟩ := Option.isSome_iff_exists.mp some
    rw [Option.bind_some, reads, Option.map_some, image_of_grant? reads]

/-- The contents of another owner, or outside the ranges, give no table. -/
theorem grantsOf?_of_invalid {stored : Vector (Option GrantImage) 16}
    (invalid : ∀ x, ValidGrants x → BlockData.grants stored ≠ .grants (grantImages x)) : grantsOf? stored = none := by
  refine Option.eq_none_iff_forall_ne_some.mpr fun table given => ?_
  obtain ⟨valid, same⟩ := valid_of_grantsOf? given
  exact invalid table valid (congrArg BlockData.grants same)

theorem losesAny_of_free {s : State} (free : s.grants = Vector.replicate 16 none) (sel : Grant → Bool) :
    s.losesAny sel = false :=
  (losesAny_eq_false_iff s sel).mpr fun e => by rw [(grants_eq_free_iff s).mp free e]; rfl

section
variable {s : State} {r : ReadResult} {table : Vector (Option Grant) 16} {v : BlockStatus}

/-- What the grant table settles from the grant block: the table it gives, past the two further steps of R152. -/
theorem settleGrants_spec (gives : GrantGives r table v) : s.settleGrants r =
    if v = .damaged then (s.takeGrants table v).commit grantBlock
    else (s.takeGrants table v).retiring (s.takeGrants table v).staleGrant := by
  rcases gives with ⟨rfl, rfl, rfl⟩ | ⟨rfl, valid, rfl⟩ | ⟨failed, rfl, rfl⟩
  · have none := losesAny_of_free (s := s.takeGrants (Vector.replicate 16 none) .blank) rfl
    rw [if_neg (by decide), State.retiring, none]; rfl
  · have table_read : grantsOf? (table.map fun g => g.map Grant.image) = some table := grantsOf?_of_valid valid
    simp only [State.settleGrants, table_read]; rfl
  · rw [if_pos rfl]
    rcases failed with rfl | ⟨d, rfl, invalid⟩
    · rfl
    · cases d with
      | grants stored => simp only [State.settleGrants, grantsOf?_of_invalid invalid]
      | _ => rfl

/-- A grant that the load keeps: of a LIVE CHILD or GUEST, and no extra time of another meter day (R152). -/
def State.keepsGrant (s : State) (g : Grant) : Bool :=
  (s.rules? g.slot).isSome && match g.body with
    | .extraTime _ d => d = s.clock.meterDay
    | _ => true

theorem staleGrant_eq (s : State) (g : Grant) : s.staleGrant g = !s.keepsGrant g := by
  unfold State.staleGrant State.keepsGrant GrantBody.isPastExtra
  cases s.rules? g.slot <;> cases g.body <;> simp

theorem takeGrants_staleGrant : (s.takeGrants table v).staleGrant = fun g => !s.keepsGrant g := by
  funext g
  exact staleGrant_eq (s.takeGrants table v) g

/-- The table that is live after the load (R152). -/
theorem settleGrants_grants (gives : GrantGives r table v) (e : Fin 16) :
    (s.settleGrants r).grants[e] = table[e].filter s.keepsGrant := by
  rw [settleGrants_spec gives]
  split
  · next damaged =>
    have free : table = Vector.replicate 16 none := by
      rcases gives with ⟨-, free, -⟩ | ⟨-, -, other⟩ | ⟨-, free, -⟩
      · exact free
      · rw [other] at damaged; cases damaged
      · exact free
    have entry : table[e] = none := by rw [free]; exact Vector.getElem_replicate ..
    have kept : ((s.takeGrants table v).commit grantBlock).grants[e] = table[e] :=
      congrArg (fun x : Vector (Option Grant) 16 => x[e]) (StoreWork.commit ..).frame.2.2.2.1
    rw [kept, entry]; rfl
  · rw [takeGrants_staleGrant, retiring_grants]
    simp only [Bool.not_not]
    rfl

theorem takeGrants_losesAny (sel : Grant → Bool) : (s.takeGrants table v).losesAny (fun g => !sel g) = true ↔
    ∃ e : Fin 16, ∃ g ∈ table[e], sel g = false := by
  have none := losesAny_eq_false_iff (s.takeGrants table v) fun g => !sel g
  rw [← Bool.not_eq_false, none, not_forall]
  refine exists_congr fun e => ?_
  show ¬ table[e].any (fun g => !sel g) = false ↔ _
  rw [Bool.not_eq_false, Option.any_eq_true]
  simp only [Bool.not_eq_true', Option.mem_def]

theorem queueWith_one (s : State) (b : BlockId) :
    s.queueWith [b] = if s.queued b = false then s.store.queue ++ [⟨b, false⟩] else s.store.queue := by
  unfold State.queueWith
  cases waits : s.queued b <;> simp [waits]

/-- The grant block's commit is requested where its contents were damaged or a grant was retired (R152, R181). -/
theorem settleGrants_store (gives : GrantGives r table v) : (s.settleGrants r).store = { s.store with
    status := s.store.status.set 23 v
    queue := if (v = .damaged ∨ ∃ e : Fin 16, ∃ g ∈ table[e], s.keepsGrant g = false) ∧ s.queued 23 = false then
      s.store.queue ++ [⟨23, false⟩] else s.store.queue } := by
  rw [settleGrants_spec gives]
  split
  · next damaged =>
    rw [commit_settled]
    simp only [damaged, true_or, true_and]
    rfl
  · next sound =>
    rw [takeGrants_staleGrant, retiring_eq, retiring_queue, queueWith_one]
    simp only [takeGrants_losesAny, sound, false_or, ite_and]
    rfl

end

end Sys2Proof.Machine
end

section
/-! PROOFS. The steps of the start-up load (R189, R193, R194), and O49. -/

namespace Sys2Proof.Machine

/-! ## The end of the load -/

/-- The part with the load over, before any write begins (R194). -/
def State.loaded (s : State) : State := { s with
  load := none, link.state := if s.link.buffer.isSome then .answered else .ready
  notices := s.notices ||| 0x00C0 ||| (if .damaged ∈ s.store.status.toList then 0x0800 else 0) }

theorem endLoad_eq (s : State) : s.endLoad = s.loaded.takeNextWrite := by
  have started : s.notices ||| BitVec.twoPow 16 6 ||| BitVec.twoPow 16 7 = s.notices ||| 0x00C0 := by
    rw [BitVec.or_assoc]; rfl
  have damaged : s.store.status.toList.any (· = .damaged) = true ↔ .damaged ∈ s.store.status.toList :=
    List.any_eq_true.trans ⟨fun ⟨_, mem, own⟩ => of_decide_eq_true own ▸ mem, fun mem => ⟨_, mem, decide_eq_true rfl⟩⟩
  have none : s.notices ||| 0x00C0 ||| 0 = s.notices ||| 0x00C0 := BitVec.or_zero
  refine congrArg State.takeNextWrite ?_
  simp only [damaged]
  unfold State.loaded State.addNotice Notice.bit
  split
  · simp only [started]; rfl
  · simp only [started, none]

/-- No write that begins settles a status (R180, R183). -/
theorem takeNextWrite_status (s : State) : s.takeNextWrite.store.status = s.store.status := by
  have begun : ∀ (t : State) (w : WriteRecord), (t.beginErase w).store.status = t.store.status := by
    intro t w
    unfold State.beginErase; dsimp only
    split <;> rfl
  have headed : s.startHead.store.status = s.store.status := by
    unfold State.startHead State.startWrite
    split
    · rfl
    · exact begun ..
  unfold State.takeNextWrite
  split
  · rfl
  · split
    · exact headed
    · split
      · unfold State.resume; dsimp only
        split
        · exact begun ..
        · rfl
      · exact headed

section
variable {s : State}

/-- With no write running or suspended the next one is the head of the commit queue (R182). -/
theorem takeNextWrite_of_idle (running : s.store.running = none) (suspended : s.store.suspended = none)
    (other : s.link.state ≠ .loading) : s.takeNextWrite = s.startHead := by
  rw [State.takeNextWrite, running, suspended, if_neg (by simpa using other)]
  exact ite_self _

theorem startHead_of_empty (empty : s.store.queue = []) : s.startHead = s := by
  rw [State.startHead, empty]

/-- The head's write is in ERASE, at attempt 1 (R182, R183). -/
theorem startHead_of_cons {item : QueueItem} {rest : List QueueItem} (queue : s.store.queue = item :: rest) :
    s.startHead.store.queue = rest
      ∧ ∃ w, s.startHead.store.running = some w ∧ w.block = item.block ∧ w.phase = .erase ∧ w.attempt = 1 := by
  rw [State.startHead, queue]
  dsimp only [State.startWrite, State.beginErase]
  split <;> exact ⟨rfl, _, rfl, rfl, rfl, rfl⟩

end

theorem endLoad_work (s : State) : StoreWork s.loaded s.endLoad := by
  rw [endLoad_eq]; exact .takeNextWrite _

theorem endLoad_status (s : State) : s.endLoad.store.status = s.store.status := by
  rw [endLoad_eq, takeNextWrite_status]; rfl

/-- What the end of the load leaves of the link, the seats and the grants (R194). -/
theorem endLoad_frame (s : State) : s.endLoad.load = none
    ∧ s.endLoad.link.state = (if s.link.buffer.isSome then .answered else .ready)
    ∧ s.endLoad.link.buffer = s.link.buffer ∧ s.endLoad.seats = s.seats ∧ s.endLoad.grants = s.grants := by
  rw [endLoad_work s]; exact ⟨rfl, rfl, rfl, rfl, rfl⟩

theorem endLoad_notices (s : State) : s.endLoad.notices = s.notices ||| 0x00C0
    ||| (if .damaged ∈ s.endLoad.store.status.toList then 0x0800 else 0) := by
  rw [endLoad_status, endLoad_work s]; rfl

theorem loaded_ne_loading (s : State) : s.loaded.link.state ≠ .loading := by
  show (if _ then LinkState.answered else .ready) ≠ .loading
  split <;> nofun

/-- The first write of the queue begins with the end of the load (R182, R194). -/
theorem endLoad_of_idle {s : State} (running : s.store.running = none) (suspended : s.store.suspended = none) :
    (s.store.queue = [] → s.endLoad.store.running = none ∧ s.endLoad.store.queue = [])
      ∧ ∀ item rest, s.store.queue = item :: rest → s.endLoad.store.queue = rest
        ∧ ∃ w, s.endLoad.store.running = some w ∧ w.block = item.block ∧ w.phase = .erase ∧ w.attempt = 1 := by
  rw [endLoad_eq, takeNextWrite_of_idle (s := s.loaded) running suspended (loaded_ne_loading s)]
  refine ⟨fun empty => ?_, fun item rest queue => startHead_of_cons (s := s.loaded) queue⟩
  rw [startHead_of_empty (s := s.loaded) empty]
  exact ⟨running, empty⟩

/-! ## Which block is read, and who settles it -/

theorem readBlock_of_reads {s : State} {b : BlockId} {r : ReadResult} (reads : s.Reads b r) (n : Nat) :
    s.readBlock n b = (s.reading n).handBlock b r := by
  rw [State.readBlock, classify_of_reads reads]; rfl

theorem takeStoreBlockRead_of_more {s : State} {n : Nat} {b : BlockId} (busy : s.load = some n) (more : n < 24)
    (next : loadOrder[n]? = some b) : takeStoreBlockRead s = s.readBlock n b := by
  have notLast : n + 1 ≠ loadOrder.length := by
    rw [show loadOrder.length = 25 from rfl]; omega
  simp only [takeStoreBlockRead, busy, next, if_neg notLast]

theorem takeStoreBlockRead_of_last {s : State} (busy : s.load = some 24) :
    takeStoreBlockRead s = (s.readBlock 24 grantBlock).endLoad := by
  rw [takeStoreBlockRead, busy]; rfl

section
variable (s : State) {b : BlockId} (r : ReadResult)

theorem handBlock_profile {k : Fin 16} (own : b.val = k.val) : s.handBlock b r = s.settleProfile k r := by
  rw [State.handBlock, below_of_eq own]

theorem handBlock_scheme {k : Fin 8} (operator : 2 ≤ k.val) (own : b.val = 14 + k.val) :
    s.handBlock b r = s.settleScheme k r := by
  have above : below 16 b.val = none := below_of_le (by omega)
  have slot : below 8 (b.val - 14) = some k := below_of_eq (by omega)
  rw [State.handBlock, above, slot]

end

/-! ## The obligation -/

/-- The blocks before the grant block, in the order of R193. -/
def earlierBlocks : List BlockId :=
  [22, 16, 17, 18, 19, 20, 21, 0, 1, 2, 3, 4, 5, 6, 7, 8, 9, 10, 11, 12, 13, 14, 15, 24]

theorem earlier_next {n : Nat} {b : BlockId} (next : earlierBlocks[n]? = some b) :
    n < 24 ∧ loadOrder[n]? = some b := by
  have inList : n < earlierBlocks.length := (List.getElem?_eq_some_iff.mp next).1
  exact ⟨inList, (List.getElem?_append_left (l₂ := [grantBlock]) inList).trans next⟩

theorem clearLevel_eq (straps : BitVec 2) : clearLevel straps = 3000 + 100 * straps.toNat := by
  unfold clearLevel warningLevel
  omega

/-- A held reset ends under its two conditions alone (R189). -/
theorem startUp_ends_iff (s : State) (high : Bool) (millivolts : Nat) :
    (s.supply.held && high && clearLevel s.supply.straps < millivolts) = true ↔
      s.supply.held = true ∧ high = true ∧ 3000 + 100 * s.supply.straps.toNat < millivolts := by
  rw [Bool.and_eq_true, Bool.and_eq_true, decide_eq_true_eq, clearLevel_eq, and_assoc]

theorem exec_storeBlockRead {s : State} (awake : s.Awake) :
    exec .storeBlockRead s = .next (takeStoreBlockRead s).drivePins := exec_of_effect awake rfl

/-- A block before the grant block goes to its owner, and the load goes on (R193). -/
theorem exec_storeBlockRead_of_earlier {s : State} {n : Nat} {b : BlockId} {r : ReadResult} (awake : s.Awake)
    (busy : s.load = some n) (next : earlierBlocks[n]? = some b) (reads : s.Reads b r) :
    exec .storeBlockRead s = .next ((s.reading n).handBlock b r).drivePins := by
  obtain ⟨more, inOrder⟩ := earlier_next next
  rw [exec_storeBlockRead awake, takeStoreBlockRead_of_more busy more inOrder, readBlock_of_reads reads]

theorem settledBlock_false (s : State) (b : BlockId) (v : BlockStatus) (t : State) :
    s.settledBlock b v t False = { t with store := { s.store with status := s.store.status.set b v } } := by
  unfold State.settledBlock
  simp only [false_and, if_false]

section
variable {s : State} {r : ReadResult} {v : BlockStatus}

theorem settleMeters_entry_of_contents {x : MeterImage} (gives : MeterGives r (some x) v) (k : Fin 16) :
    (s.settleMeters r).meters[k] = match s.rules? k with
      | some _ => x.records[k]
      | none => Meter.cleared := by
  simp only [settleMeters_of_contents gives]
  exact keptRecords_entry ..

theorem settleMeters_entry_of_none (gives : MeterGives r none v) (k : Fin 16) :
    (s.settleMeters r).meters[k] = Meter.cleared := by
  simp only [settleMeters_of_none gives]
  exact Vector.getElem_replicate ..

/-- The dirty flag says whether the records in force are those of the block (R116). -/
theorem settleMeters_dirty_iff {i : Option MeterImage} (gives : MeterGives r i v) :
    (s.settleMeters r).meterDirty = false ↔ ∃ x, i = some x ∧ (s.settleMeters r).meters = x.records := by
  cases i with
  | none =>
    rw [settleMeters_of_none gives]
    exact iff_of_false nofun nofun
  | some x =>
    rw [settleMeters_of_contents gives]
    simp only [State.setStatus_meterDirty, State.setStatus_meters, decide_eq_false_iff_not, not_not,
      Option.some.injEq, exists_eq_left']

/-- Beyond the records and the flag, the meter block settles the household meter state (R116, R122). -/
theorem settleMeters_settled {i : Option MeterImage} (gives : MeterGives r i v) :
    s.settleMeters r = s.settledBlock 24 v { s with
      meters := (s.settleMeters r).meters, meterDirty := (s.settleMeters r).meterDirty
      clock := { s.clock with
        meterDay := (i.map (·.meterDay)).getD 0
        meterWeekday := Fin.ofNat 7 ((i.map (·.meterWeekday)).getD 0) }
      pool := (i.map (·.pool)).getD ⟨s.settings.poolSize, s.settings.poolSize, 0, 0⟩ } False := by
  rw [settledBlock_false]
  cases i with
  | none => rw [settleMeters_of_none gives]; rfl
  | some x =>
    rw [settleMeters_of_contents gives]
    generalize decide (s.keptRecords x.records ≠ x.records) = dirty
    rfl

end

/-- The last block is the grant block, and the load ends with it (R193, R194). -/
theorem exec_storeBlockRead_of_last {s : State} (awake : s.Awake) (busy : s.load = some 24) :
    exec .storeBlockRead s = .next (s.readBlock 24 grantBlock).endLoad.drivePins := by
  rw [exec_storeBlockRead awake, takeStoreBlockRead_of_last busy]

/-- What an owner's work leaves of what the load reads at its end. -/
theorem OwnerWork.loadFrame {s t : State} (h : OwnerWork s t) : t.link = s.link ∧ t.seats = s.seats
    ∧ t.notices = s.notices ∧ t.store.running = s.store.running ∧ t.store.suspended = s.store.suspended := by
  rw [h.frame]; exact ⟨rfl, rfl, rfl, rfl, rfl⟩

/-- Settles O49: each block read is classified once, its owner settles it, and the grant block, the last, ends the
load. -/
theorem theLoadReadsTheStore : Obligations.TheLoadReadsTheStore := by
  unfold Obligations.TheLoadReadsTheStore
  refine ⟨fun s high millivolts => ⟨fun ends => ?_, fun stays => ?_⟩, fun s awake idle => ?_,
    fun s n awake busy more => ?_, fun s n b r awake busy next reads => ?_, fun s awake busy => ?_⟩
  · exact congrArg Host.Outcome.next (if_pos ((startUp_ends_iff ..).mpr ends))
  · exact congrArg Host.Outcome.next (if_neg (stays ∘ (startUp_ends_iff ..).mp))
  · rw [exec_storeBlockRead awake, takeStoreBlockRead, idle]
  · have inOrder : n < loadOrder.length := more.trans (by decide)
    have work : OwnerWork (s.reading n) (s.readBlock n loadOrder[n]) := .handBlock ..
    have run := takeStoreBlockRead_of_more busy more (List.getElem?_eq_getElem inOrder)
    refine ⟨s.readBlock n loadOrder[n], by rw [exec_storeBlockRead awake, run], ?_⟩
    rw [work.frame]
    exact ⟨rfl, rfl, rfl, rfl, rfl⟩
  · intro settles left
    have handed : ∀ {t : State}, (s.reading n).handBlock b r = t → settles t := fun same =>
      same ▸ exec_storeBlockRead_of_earlier awake busy next reads
    refine ⟨fun own h v gives => ?_, fun k operator own c v gives => ?_, fun k own slot v gives => ?_,
      fun own i v gives => ?_⟩
    · subst own
      exact handed (settleHousehold_spec gives)
    · exact handed ((handBlock_scheme _ r operator own).trans (settleScheme_spec own gives))
    · have spec := (handBlock_profile (s.reading n) r own).trans (settleProfile_spec own gives)
      refine ⟨fun other => handed (spec.trans (if_neg other)), fun last => ?_⟩
      exact ⟨_, handed (spec.trans (if_pos last)), tokenLaw_taken _⟩
    · subst own
      refine ⟨_, handed rfl, fun k => ?_, settleMeters_dirty_iff gives, settleMeters_settled gives⟩
      cases i with
      | none => exact settleMeters_entry_of_none gives k
      | some x =>
        refine (settleMeters_entry_of_contents gives k).trans ?_
        show (match s.rules? k with | some _ => _ | none => _) = _
        cases s.rules? k <;> rfl
  · have work : OwnerWork (s.reading 24) (s.readBlock 24 grantBlock) := .handBlock ..
    have run := exec_storeBlockRead_of_last awake busy
    generalize read : s.readBlock 24 grantBlock = y at work run
    obtain ⟨link, seats, notices, running, suspended⟩ := work.loadFrame
    obtain ⟨load, state, buffer, seated, grants⟩ := endLoad_frame y
    have noticed := endLoad_notices y
    rw [link] at state buffer
    rw [notices] at noticed
    refine ⟨y.endLoad, run, load, state, buffer, seated.trans seats, ?_, ?_, noticed, fun r reads table v gives => ?_⟩
    · rw [State.hasNotice, noticed]; simp [Notice.bit]
    · rw [State.hasNotice, noticed]; simp [Notice.bit]
    · have settled : (s.reading 24).settleGrants r = y := (readBlock_of_reads reads 24).symm.trans read
      have entry := settleGrants_grants (s := s.reading 24) gives
      have store := settleGrants_store (s := s.reading 24) gives
      rw [settled] at entry store
      refine ⟨fun e => ?_, ?_, fun noneRuns noneWaits => ?_⟩
      · simp only [grants]; exact entry e
      · rw [endLoad_status, store]; rfl
      · have first := endLoad_of_idle (running.trans noneRuns) (suspended.trans noneWaits)
        rw [store] at first
        exact first

end Sys2Proof.Machine
end

section
/-! SUPPORT. Every command row is its owner's step behind the link port (R199), and O6. -/

namespace Sys2Proof.Machine

/-- A row with a command code goes through the link port to an owner, which does one of the things that owners do. -/
theorem takeEvent_of_code {i : Instr} (code : (commandCode i).isSome = true) : ∃ owner : State → State × Reply,
    takeEvent i = State.command i owner ∧ ∀ s, CommandEffect s (owner s).1 := by
  cases i with
  | sload req => exact ⟨_, rfl, (sload_effect · req)⟩
  | sclr req => exact ⟨_, rfl, (sclr_effect · req)⟩
  | slock req => exact ⟨_, rfl, (slock_effect · req)⟩
  | sread req => exact ⟨_, rfl, fun s => .of_read (sread_state s req)⟩
  | eopen req => exact ⟨_, rfl, (eopen_effect · req)⟩
  | eset req => exact ⟨_, rfl, (eset_effect · req)⟩
  | ecommit req => exact ⟨_, rfl, (ecommit_effect · req)⟩
  | edrop req => exact ⟨_, rfl, (edrop_effect · req)⟩
  | pread req => exact ⟨_, rfl, fun s => .of_read (pread_state s req)⟩
  | retire req => exact ⟨_, rfl, (retire_effect · req)⟩
  | lookup req => exact ⟨_, rfl, fun s => .of_read (lookup_state s req)⟩
  | join req => exact ⟨_, rfl, (join_effect · req)⟩
  | leave req => exact ⟨_, rfl, (leave_effect · req)⟩
  | vacate req => exact ⟨_, rfl, (vacate_effect · req)⟩
  | play req => exact ⟨_, rfl, (play_effect · req)⟩
  | endp req => exact ⟨_, rfl, (endp_effect · req)⟩
  | sstat req => exact ⟨_, rfl, fun s => .of_read (sstat_state s req)⟩
  | preview req => exact ⟨_, rfl, fun s => .of_read (preview_state s req)⟩
  | mread req => exact ⟨_, rfl, fun s => .of_read (mread_state s req)⟩
  | topup req => exact ⟨_, rfl, (topup_effect · req)⟩
  | pool req => exact ⟨_, rfl, fun s => .of_read (poolRead_state s req)⟩
  | gadd req => exact ⟨_, rfl, (gadd_effect · req)⟩
  | grevoke req => exact ⟨_, rfl, (grevoke_effect · req)⟩
  | gread req => exact ⟨_, rfl, fun s => .of_read (gread_state s req)⟩
  | clkset req => exact ⟨_, rfl, (clkset_effect · req)⟩
  | clkread req => exact ⟨_, rfl, fun s => .of_read (clkread_state s req)⟩
  | pin req => exact ⟨_, rfl, (pin_effect · req)⟩
  | repin req => exact ⟨_, rfl, (repin_effect · req)⟩
  | close req => exact ⟨_, rfl, (close_effect · req)⟩
  | hset req => exact ⟨_, rfl, (hset_effect · req)⟩
  | hread req => exact ⟨_, rfl, fun s => .of_read (hread_state s req)⟩
  | store req => exact ⟨_, rfl, fun s => .of_read (store_state s req)⟩
  | retry req => exact ⟨_, rfl, (retry_effect · req)⟩
  | describe req => exact ⟨_, rfl, fun s => .of_read (describe_state s req)⟩
  | notices req => exact ⟨_, rfl, (notices_effect · req)⟩
  | restart req => exact ⟨_, rfl, (restart_effect · req)⟩
  | _ => cases code

/-- A command is none of the four rows of the supply and the reset that no dip defers. -/
theorem exec_of_code {i : Instr} (code : (commandCode i).isSome = true) (s : State) :
    exec i s = .next (s.taken i (takeEvent i)) := by
  refine exec_eq_taken s ?_ ?_ ?_ ?_
  · rintro rfl; cases code
  · rintro us rfl; cases code
  · rintro cause lvs1 lvs0 rfl; cases code
  · rintro high millivolts rfl; cases code

/-- The response that a link in LOADING holds takes the place of the one held, which is lost (R198). -/
theorem discardHeld_hold (s : State) (r : Response) : s.discardHeld.hold r = { s with link := { s.link with
    buffer := some r
    flags := { s.link.flags with responseLost := s.link.flags.responseLost || s.link.buffer.isSome } } } := by
  unfold State.discardHeld
  split
  · next none => simp only [State.hold, none, Option.isSome_none, Bool.or_false]
  · next held => simp only [State.hold, held, Option.isSome_some, Bool.or_true]

/-- Settles O6: whatever the command, the link port answers for its owner. -/
theorem commandsInTheLoadAnswerStarting : Obligations.CommandsInTheLoadAnswerStarting := by
  unfold Obligations.CommandsInTheLoadAnswerStarting
  intro i code s awake loading coded
  have isCommand : (commandCode i).isSome = true := Option.isSome_of_eq_some coded
  have echoed : codeOf i = code := by rw [codeOf, coded]; rfl
  obtain ⟨owner, effect, -⟩ := takeEvent_of_code isCommand
  rw [exec_of_code isCommand, taken_awake awake, effect, command_loading loading, discardHeld_hold, echoed]

end Sys2Proof.Machine
end

section
/-! PROOFS. The beginning of a write (R182, R183, R188, R191), the CRC-16 byte by byte (R179), and O43. -/

namespace Sys2Proof.Machine

/-! ## An erase begins -/

section
variable (s : State)

/-- All that the beginning of an erase does (R114, R183). -/
theorem beginErase_eq (w : WriteRecord) : s.beginErase w = { s with
    meterDirty := s.meterDirty && decide (w.block ≠ meterBlock)
    store := { s.store with
      running := some { w with phase := .erase, image := s.imageOf w.block }
      blocks := s.store.blocks.set w.block { s.store.blocks[w.block] with contents := .erased } } } := by
  unfold State.beginErase
  by_cases meter : w.block = meterBlock <;> simp [meter, State.putContents, State.setRunning]

/-- The record of a write of a block that begins now, at attempt 1 (R183). -/
def State.newWrite (b : BlockId) : WriteRecord := ⟨b, .erase, 1, s.imageOf b, s.store.blocks[b].contents⟩

theorem startWrite_eq (b : BlockId) : s.startWrite b = s.beginErase (s.newWrite b) := rfl

end

section
variable {s : State}

/-- A change of the queue or of the suspended write changes nothing of the write that begins. -/
theorem newWrite_of_blocks {t : State} (work : StoreWork s t) (same : t.store.blocks = s.store.blocks) (b : BlockId) :
    t.newWrite b = s.newWrite b := by
  unfold State.newWrite
  rw [work.imageOf, same]

/-! ## Which write is next -/

theorem takeNextWrite_stays (waits : s.store.running.isSome = true ∨ s.link.state = .loading) :
    s.takeNextWrite = s := by
  unfold State.takeNextWrite
  exact if_pos (by simpa using waits)

/-- The head of the queue comes first where it is urgent, and where no write is suspended (R182). -/
theorem takeNextWrite_head (idle : s.store.running = none) (other : s.link.state ≠ .loading) {item : QueueItem}
    {rest : List QueueItem} (queue : s.store.queue = item :: rest)
    (first : item.urgent = true ∨ s.store.suspended = none) :
    s.takeNextWrite = (s.setQueue rest).startWrite item.block := by
  have ready : ¬ (s.store.running.isSome || decide (s.link.state = .loading)) = true := by simp [idle, other]
  have head : s.startHead = (s.setQueue rest).startWrite item.block := by rw [State.startHead, queue]
  have urgent : headUrgent s.store.queue = item.urgent := by rw [queue]; rfl
  rw [State.takeNextWrite, if_neg ready, urgent, head]
  rcases first with marked | none
  · rw [if_pos marked]
  · rw [none]
    exact ite_self _

/-- Otherwise the suspended write resumes (R188). -/
theorem takeNextWrite_resume (idle : s.store.running = none) (other : s.link.state ≠ .loading)
    (plain : ∀ item rest, s.store.queue = item :: rest → item.urgent = false) {w : Suspended}
    (suspended : s.store.suspended = some w) : s.takeNextWrite = s.resume w := by
  have ready : ¬ (s.store.running.isSome || decide (s.link.state = .loading)) = true := by simp [idle, other]
  have unmarked : ¬ headUrgent s.store.queue = true := by
    cases queue : s.store.queue with
    | nil => nofun
    | cons item rest => rw [show headUrgent (item :: rest) = item.urgent from rfl, plain item rest queue]; nofun
  rw [State.takeNextWrite, if_neg ready, if_neg unmarked, suspended]

/-- The head's write, off the queue (R182, R183). -/
theorem startWrite_setQueue (rest : List QueueItem) (b : BlockId) : (s.setQueue rest).startWrite b = { s with
    meterDirty := s.meterDirty && decide (b ≠ meterBlock)
    store := { s.store with
      queue := rest
      running := some ⟨b, .erase, 1, s.imageOf b, s.store.blocks[b].contents⟩
      blocks := s.store.blocks.set b { s.store.blocks[b] with contents := .erased } } } := by
  have work : StoreWork s (s.setQueue rest) := rfl
  rw [startWrite_eq, newWrite_of_blocks work rfl, beginErase_eq, work.imageOf]
  rfl

theorem resume_held {w : Suspended} (held : w.fresh = false) : s.resume w = { s with
    store := { s.store with suspended := none, running := some w.write } } := by
  simp [State.resume, held, State.setSuspended, State.setRunning]

theorem resume_fresh {w : Suspended} (fresh : w.fresh = true) : s.resume w = { s with
    meterDirty := s.meterDirty && decide (w.write.block ≠ meterBlock)
    store := { s.store with
      suspended := none
      running := some { w.write with phase := .erase, image := s.imageOf w.write.block }
      blocks := s.store.blocks.set w.write.block
        { s.store.blocks[w.write.block] with contents := .erased } } } := by
  have work : StoreWork s (s.setSuspended none) := rfl
  rw [State.resume, fresh]
  dsimp only
  rw [if_pos rfl, beginErase_eq, work.imageOf]
  rfl

end

/-! ## The CRC-16 -/

/-- One bit of a CRC that has the data bits still to come added into its register. -/
def crcBit {w : Nat} (polynomial c : BitVec w) : BitVec w := if c.msb then (c <<< 1) ^^^ polynomial else c <<< 1

/-- The data added into the register meet the top bit one by one and are shifted out. -/
theorem crcBit_xor {w : Nat} (polynomial c d : BitVec w) : crcBit polynomial (c ^^^ d) =
    (if (c.msb ^^ d.msb) then (c <<< 1) ^^^ polynomial else c <<< 1) ^^^ (d <<< 1) := by
  unfold crcBit
  rw [BitVec.msb_xor, BitVec.shiftLeft_xor_distrib]
  split
  · rw [BitVec.xor_assoc, BitVec.xor_assoc, BitVec.xor_comm (d <<< 1)]
  · rfl

/-- The byte at the top of a register shows its bits from the most significant as it is shifted (R179). -/
theorem msb_shiftLeft_append (b : Byte) {k : Nat} (inByte : k < 8) : ((b ++ 0#8) <<< k).msb = b.getMsbD k := by
  rw [BitVec.msb_eq_getMsbD_zero, BitVec.getMsbD_shiftLeft, BitVec.getMsbD_append]
  simp [inByte]

/-- A CRC after the first `n` bits of a byte. -/
def crcAfter {w : Nat} (polynomial crc : BitVec w) (b : Byte) (n : Nat) : BitVec w :=
  (List.range n).foldl (fun c k => if (c.msb ^^ b.getMsbD k) then (c <<< 1) ^^^ polynomial else c <<< 1) crc

theorem crcAfter_succ {w : Nat} (polynomial crc : BitVec w) (b : Byte) (n : Nat) :
    crcAfter polynomial crc b (n + 1) =
      if ((crcAfter polynomial crc b n).msb ^^ b.getMsbD n) then (crcAfter polynomial crc b n <<< 1) ^^^ polynomial
      else crcAfter polynomial crc b n <<< 1 := by
  rw [crcAfter, List.range_succ, List.foldl_append]; rfl

/-- The register with the byte added in keeps what is left of the byte beside the CRC so far. -/
theorem iterate_crcBit (c : Half) (b : Byte) {n : Nat} (inByte : n ≤ 8) :
    (crcBit 0x1021)^[n] (c ^^^ (b ++ 0#8)) = crcAfter 0x1021 c b n ^^^ ((b ++ 0#8) <<< n) := by
  induction n with
  | zero => simp [crcAfter]
  | succ n ih =>
    rw [Function.iterate_succ_apply', ih (Nat.le_of_succ_le inByte), crcBit_xor, msb_shiftLeft_append b inByte,
      ← BitVec.shiftLeft_add, crcAfter_succ]

/-- The CRC-16 takes a byte as it takes its bits (R179). -/
theorem crc16Byte_eq (c : Half) (b : Byte) : crc16Byte c b = serialCrc 0x1021 c b := by
  have out : (b ++ 0#8) <<< 8 = 0#16 := by
    refine BitVec.eq_of_getMsbD_eq fun i _ => ?_
    rw [BitVec.getMsbD_shiftLeft, BitVec.getMsbD_append]
    simp
  calc crc16Byte c b
    _ = (crcBit 0x1021)^[8] (c ^^^ (b ++ 0#8)) := rfl
    _ = serialCrc 0x1021 c b ^^^ ((b ++ 0#8) <<< 8) := iterate_crcBit c b le_rfl
    _ = serialCrc 0x1021 c b := by rw [out, BitVec.xor_zero]

/-- Settles O43: each of the three ways in which a write begins has its own beginning. -/
theorem writesBeginInOrder : Obligations.WritesBeginInOrder := by
  unfold Obligations.WritesBeginInOrder
  refine ⟨fun s awake => ?_, fun s b => rfl, rfl, fun bytes b => ?_⟩
  · have run : exec .blockWriteBegin s = .next s.takeNextWrite.drivePins := exec_of_effect awake rfl
    rw [run]
    refine ⟨fun waits => ?_, fun idle other item rest queue first => ?_, fun idle other plain w suspended => ⟨?_, ?_⟩⟩
    · rw [takeNextWrite_stays waits]
    · rw [takeNextWrite_head idle other queue first, startWrite_setQueue]
    · intro held
      rw [takeNextWrite_resume idle other plain suspended, resume_held held]
    · intro fresh
      rw [takeNextWrite_resume idle other plain suspended, resume_fresh fresh]
  · rw [crc16, List.foldl_append, List.foldl_cons, List.foldl_nil]
    exact crc16Byte_eq _ b

end Sys2Proof.Machine
end

section
/-! PROOFS. The phases of a write and its completions (R180, R183, R184, R188), and O44. -/

namespace Sys2Proof.Machine

/-! ## What a block holds -/

section
variable (s : State) (b b' : BlockId)

theorem setBlock_get (x : Block) : (s.store.blocks.set b x)[b'] = if b' = b then x else s.store.blocks[b'] := by
  refine (Vector.getElem_set (hi := b.isLt) (hj := b'.isLt)).trans ?_
  simp only [Fin.ext_iff, eq_comm]
  rfl

/-- Contents that are put in a block leave its mark (R179). -/
theorem putContents_written (c : Contents) :
    (s.putContents b c).store.blocks[b'].written = s.store.blocks[b'].written := by
  show (s.store.blocks.set b { s.store.blocks[b] with contents := c })[b'].written = _
  rw [setBlock_get]
  split
  · next same => rw [same]
  · rfl

theorem putContents_contents (c : Contents) :
    (s.putContents b c).store.blocks[b'].contents = if b' = b then c else s.store.blocks[b'].contents := by
  show (s.store.blocks.set b { s.store.blocks[b] with contents := c })[b'].contents = _
  rw [setBlock_get]
  split <;> rfl

end

/-! ## What the beginning of a write leaves -/

/-- The statuses, the fault latch, every mark and the contents of every block but the one that is then written stand,
and nothing joins the queue. -/
structure WriteBegun (s t : State) : Prop where
  work : StoreWork s t
  status : t.store.status = s.store.status
  latch : t.store.faultLatch = s.store.faultLatch
  marks : ∀ b : BlockId, t.store.blocks[b].written = s.store.blocks[b].written
  contents : ∀ b : BlockId, (∀ x, t.store.running = some x → x.block ≠ b) →
    t.store.blocks[b].contents = s.store.blocks[b].contents
  queue : t.store.queue.Sublist s.store.queue

section
variable (s : State)

theorem WriteBegun.refl : WriteBegun s s := ⟨.refl s, rfl, rfl, fun _ => rfl, fun _ _ => rfl, .refl _⟩

/-- An erase begins, with the queue shortened and the suspended write as it then is. -/
theorem WriteBegun.erase {q : List QueueItem} (shorter : q.Sublist s.store.queue) (x : Option Suspended)
    (w : WriteRecord) : WriteBegun s (((s.setQueue q).setSuspended x).beginErase w) := by
  have blocks : (((s.setQueue q).setSuspended x).beginErase w).store.blocks
      = (s.putContents w.block .erased).store.blocks := by rw [beginErase_eq]; rfl
  refine ⟨StoreWork.trans (t := (s.setQueue q).setSuspended x) rfl (.beginErase ..), ?_, ?_, fun b => ?_,
    fun b other => ?_, ?_⟩
  · rw [beginErase_eq]; rfl
  · rw [beginErase_eq]; rfl
  · rw [blocks, putContents_written]
  · rw [blocks, putContents_contents, if_neg]
    rintro rfl
    rw [beginErase_eq] at other
    exact other _ rfl rfl
  · rw [beginErase_eq]; exact shorter

theorem WriteBegun.beginErase (w : WriteRecord) : WriteBegun s (s.beginErase w) :=
  .erase s (.refl _) s.store.suspended w

theorem WriteBegun.startHead : WriteBegun s s.startHead := by
  unfold State.startHead
  split
  · exact .refl s
  · next item rest queue =>
    exact .erase s (queue ▸ List.sublist_cons_self ..) s.store.suspended _

theorem WriteBegun.resume (w : Suspended) : WriteBegun s (s.resume w) := by
  unfold State.resume; dsimp only
  split
  · exact .erase s (.refl _) none w.write
  · exact ⟨rfl, rfl, rfl, fun _ => rfl, fun _ _ => rfl, .refl _⟩

/-- Whichever write is next (R182). -/
theorem WriteBegun.takeNextWrite : WriteBegun s s.takeNextWrite := by
  unfold State.takeNextWrite
  split
  · exact .refl s
  · split
    · exact .startHead s
    · split
      · exact .resume ..
      · exact .startHead s

end

theorem takeNextWrite_of_nothing {s : State} (queue : s.store.queue = []) (suspended : s.store.suspended = none) :
    s.takeNextWrite = s := by
  have none : s.startHead = s := startHead_of_empty queue
  rw [State.takeNextWrite, suspended, none]
  simp only [ite_self]

/-! ## The completions -/

section
variable {s : State} {w : WriteRecord} (busy : s.store.running = some w)
include busy

theorem takeEraseComplete_of_erase (phase : w.phase = .erase) : takeEraseComplete false s = { s with
    freeCount := s.freeCount + 1
    store := { s.store with
      running := some { w with phase := .program }
      blocks := s.store.blocks.set w.block { s.store.blocks[w.block] with contents := .partly s.freeCount } } } := by
  have now : (!false && decide (w.phase = .erase)) = true := by rw [phase]; rfl
  rw [takeEraseComplete, busy]
  exact if_pos now

theorem takeProgramComplete_of_program (phase : w.phase = .program) : takeProgramComplete false s = { s with
    store := { s.store with
      running := some { w with phase := .verify }
      blocks := s.store.blocks.set w.block { s.store.blocks[w.block] with contents := .image w.image } } } := by
  have now : (!false && decide (w.phase = .program)) = true := by rw [phase]; rfl
  rw [takeProgramComplete, busy]
  exact if_pos now

theorem takeVerifyComplete_of_verify (phase : w.phase = .verify) (isMatch : Bool) :
    takeVerifyComplete false isMatch s = if isMatch then s.completeWrite w.block
      else if w.attempt = 1 then s.beginErase { w with attempt := 2 } else s.failWrite w := by
  have now : (!false && decide (w.phase = .verify)) = true := by rw [phase]; rfl
  rw [takeVerifyComplete, busy]
  exact if_pos now

/-- The completion of a phase that was interrupted does nothing (R188, R191). -/
theorem complete_of_interrupted (isMatch : Bool) : takeEraseComplete true s = s ∧ takeProgramComplete true s = s
    ∧ takeVerifyComplete true isMatch s = s := by
  rw [takeEraseComplete, takeProgramComplete, takeVerifyComplete, busy]
  exact ⟨rfl, rfl, rfl⟩

end

section
variable (s : State)

/-- The part with a write completed, before the next begins (R180, R183). -/
def State.completed (b : BlockId) : State := { s with store := { s.store with
  blocks := s.store.blocks.set b { s.store.blocks[b] with written := true }
  status := s.store.status.set b .ok, running := none } }

theorem completeWrite_begun (b : BlockId) : WriteBegun (s.completed b) (s.completeWrite b) := .takeNextWrite _

theorem completed_contents (b b' : BlockId) :
    (s.completed b).store.blocks[b'].contents = s.store.blocks[b'].contents := by
  show (s.store.blocks.set b { s.store.blocks[b] with written := true })[b'].contents = _
  rw [setBlock_get]
  split
  · next same => rw [same]
  · rfl

theorem completed_written (b b' : BlockId) :
    (s.completed b).store.blocks[b'].written = (s.store.blocks[b'].written || decide (b' = b)) := by
  show (s.store.blocks.set b { s.store.blocks[b] with written := true })[b'].written = _
  rw [setBlock_get]
  split
  · next same => rw [decide_eq_true same, Bool.or_true]
  · next other => rw [decide_eq_false other, Bool.or_false]

/-- The part with a write failed, before the next begins (R184). -/
def State.writeFailed (w : WriteRecord) : State := { s with
  notices := s.notices ||| 0x0400, freeCount := s.freeCount + 1
  store := { s.store with
    blocks := (s.putContents w.block (s.failedContents w)).store.blocks
    status := s.store.status.set w.block .failed, running := none, faultLatch := true } }

theorem failWrite_begun (w : WriteRecord) : WriteBegun (s.writeFailed w) (s.failWrite w) := .takeNextWrite _

theorem failedContents_cases (w : WriteRecord) :
    s.failedContents w = w.before ∨ s.failedContents w = .broken := by
  unfold State.failedContents
  split
  · exact .inl rfl
  · exact .inr rfl

end

/-- Settles O44: each completion is one assignment to the block being written, and the next write that begins leaves
every other block alone. -/
theorem writePhasesAdvance : Obligations.WritePhasesAdvance := by
  unfold Obligations.WritePhasesAdvance
  intro s w awake busy b
  have erased : ∀ c, exec (.eraseComplete c) s = .next (takeEraseComplete c s).drivePins :=
    fun _ => exec_of_effect awake rfl
  have programmed : ∀ c, exec (.programComplete c) s = .next (takeProgramComplete c s).drivePins :=
    fun _ => exec_of_effect awake rfl
  have verified : ∀ c m, exec (.verifyComplete c m) s = .next (takeVerifyComplete c m s).drivePins :=
    fun _ _ => exec_of_effect awake rfl
  refine ⟨fun phase => ?_, fun phase => ?_, ⟨fun phase => ?_, fun phase first => ?_, fun phase second => ?_⟩,
    fun m => ?_⟩
  · rw [erased, takeEraseComplete_of_erase busy phase]
  · rw [programmed, takeProgramComplete_of_program busy phase]
  · have begun := completeWrite_begun s b
    refine ⟨s.completeWrite b, ?_, ?_, begun.status, begun.latch, fun b' => ?_, fun b' _ idle => ?_, fun idle => ?_,
      fun queue suspended => ?_⟩
    · rw [verified, takeVerifyComplete_of_verify busy phase]; rfl
    · exact StoreWork.trans (t := s.completed b) rfl begun.work
    · rw [begun.marks, completed_written]
    · rw [begun.contents b' idle, completed_contents]
    · rw [begun.contents b idle, completed_contents]
    · have none : s.completeWrite b = s.completed b :=
        takeNextWrite_of_nothing (s := s.completed b) queue suspended
      rw [none]; rfl
  · rw [verified, takeVerifyComplete_of_verify busy phase]
    dsimp only
    rw [if_neg Bool.false_ne_true, if_pos first, beginErase_eq]
  · have begun := failWrite_begun s w
    refine ⟨s.failWrite w, ?_, ?_, begun.status, begun.latch, fun b' => ?_, fun b' other idle => ?_, fun idle => ?_⟩
    · rw [verified, takeVerifyComplete_of_verify busy phase]
      rw [if_neg Bool.false_ne_true, if_neg second]
    · have work := begun.work
      rw [work]; rfl
    · exact (begun.marks b').trans (putContents_written ..)
    · exact (begun.contents b' idle).trans ((putContents_contents ..).trans (if_neg other))
    · rw [begun.contents b idle, show (s.writeFailed w).store.blocks[b].contents = s.failedContents w from
        (putContents_contents ..).trans (if_pos rfl)]
      exact failedContents_cases s w
  · obtain ⟨erase, program, verify⟩ := complete_of_interrupted busy m
    rw [erased, programmed, verified, erase, program, verify]
    exact ⟨rfl, rfl, rfl⟩

end Sys2Proof.Machine
end

section
/-! PROOFS. **retry** (R181, R185), the supply warning (R187, R188, R190), the levels that a movement of the supply
crosses (R189, R191), and O45 and O46. -/

namespace Sys2Proof.Machine

/-! ## retry -/

/-- The FAILED blocks join the queue together (R181, R185). -/
theorem retryFailed_eq (s : State) : s.retryFailed = { s with
    store := { s.store with faultLatch := false, queue := s.queueWith s.failedBlocks } } :=
  foldl_commit { s with store := { s.store with faultLatch := false } } ((List.nodup_finRange 25).filter _)

/-- Settles O45: the FAILED blocks are different blocks, so that each joins the queue once. -/
theorem retryQueuesFailedBlocks : Obligations.RetryQueuesFailedBlocks := by
  unfold Obligations.RetryQueuesFailedBlocks
  intro s handed failed
  refine exec_of_owner handed (owner := retry (.fields ())) rfl ?_
  rw [retry, withFields_fields, retryFailed_eq]
  rfl

/-! ## The urgent save -/

section
variable {s : State}

/-- With no write running the meter write begins at once (R187). -/
theorem urgentSave_of_idle (idle : s.store.running = none) (other : s.link.state ≠ .loading) :
    s.urgentSave = (s.setQueue (withoutBlock meterBlock s.store.queue)).startWrite meterBlock := by
  rw [State.urgentSave, idle]
  exact takeNextWrite_head (s := s.markUrgent) idle other rfl (.inl rfl)

theorem urgentSave_of_loading (idle : s.store.running = none) (loading : s.link.state = .loading) :
    s.urgentSave = s.markUrgent := by
  rw [State.urgentSave, idle]
  exact takeNextWrite_stays (s := s.markUrgent) (.inr loading)

/-- A write of another block is suspended (R188). -/
theorem urgentSave_of_other {w : WriteRecord} (busy : s.store.running = some w) (other : w.block ≠ meterBlock) :
    s.urgentSave = ((s.setSuspended (some ⟨w, false⟩)).setQueue
      (withoutBlock meterBlock s.store.queue)).startWrite meterBlock := by
  rw [State.urgentSave, busy]
  exact if_neg other

/-- Behind a running meter write the block waits at the head (R187). -/
theorem urgentSave_of_meter {w : WriteRecord} (busy : s.store.running = some w) (meter : w.block = meterBlock) :
    s.urgentSave = s.markUrgent := by
  rw [State.urgentSave, busy]
  exact if_pos meter

end

/-- The part with the supply-low flag set and SUPPLY_LOW added, before the save (R190). -/
def State.supplyWarned (s : State) : State :=
  State.addNotice { s with supply := { s.supply with low := true } } .supplyLow

theorem supplyWarned_notice (s : State) : s.supplyWarned.hasNotice .supplyLow = true := by
  rw [State.supplyWarned, addNotice_hasNotice]
  exact Bool.or_true _

theorem takeSupplyWarning_of_low {s : State} (low : s.supply.low = true) : takeSupplyWarning s = s := if_pos low

theorem takeSupplyWarning_of_clear {s : State} (clear : s.supply.low = false) :
    takeSupplyWarning s = s.supplyWarned.urgentSave := if_neg (by rw [clear]; nofun)

/-! ## The levels -/

theorem warningLevel_eq (straps : BitVec 2) : warningLevel straps =
    if straps = 0 then 2900 else if straps = 1 then 3000 else if straps = 2 then 3100 else 3200 := by
  revert straps; decide

section
variable (straps : BitVec 2) (was now us : Nat)

/-- Each row stands for its own crossing (R189, R190, R191). -/
theorem mem_supplyRows (i : Instr) : i ∈ supplyRows straps was now us ↔
    ((warningLevel straps ≤ was ∧ now < warningLevel straps) ∧ i = .supplyWarning)
      ∨ ((2600 ≤ was ∧ now < 2600) ∧ i = .dipBegin)
      ∨ ((was ≤ 2600 ∧ 2600 < now) ∧ i = .dipEnd us)
      ∨ ((was ≤ warningLevel straps + 100 ∧ warningLevel straps + 100 < now) ∧ i = .supplyClear) := by
  simp only [supplyRows, List.mem_append, List.mem_ite_nil_right, List.mem_singleton, Bool.and_eq_true,
    decide_eq_true_eq, or_assoc]
  rfl

end

/-- Settles O46: the warning sets its flag and saves the meters, in one of four ways. -/
theorem supplyWarningSavesTheMeters : Obligations.SupplyWarningSavesTheMeters := by
  unfold Obligations.SupplyWarningSavesTheMeters
  intro s awake
  have run : exec .supplyWarning s = .next (takeSupplyWarning s).drivePins := exec_of_effect awake rfl
  have meterErased : (s.meterDirty && decide (meterBlock ≠ meterBlock)) = false := Bool.and_false _
  have cleared : exec .supplyClear s = .next (takeSupplyClear s).drivePins := exec_of_effect awake rfl
  refine ⟨fun low => by rw [run, takeSupplyWarning_of_low low], fun clear => ?_, cleared, fun was now us => ?_⟩
  · have work := StoreWork.urgentSave s.supplyWarned
    refine ⟨s.supplyWarned.urgentSave, by rw [run, takeSupplyWarning_of_clear clear], ?_, ?_, ?_,
      fun idle other => ?_, fun idle loading => ?_, fun w busy other => ?_, fun w busy meter => ?_⟩
    · rw [work]; rfl
    · rw [work]
      exact supplyWarned_notice s
    · rw [work]; rfl
    · rw [urgentSave_of_idle (s := s.supplyWarned) idle other, startWrite_setQueue]
      exact ⟨rfl, meterErased, rfl, rfl⟩
    · rw [urgentSave_of_loading (s := s.supplyWarned) idle loading]
      exact ⟨idle, rfl⟩
    · rw [urgentSave_of_other (s := s.supplyWarned) busy other, startWrite_setQueue]
      exact ⟨rfl, rfl, rfl⟩
    · rw [urgentSave_of_meter (s := s.supplyWarned) busy meter]
      exact ⟨busy, rfl⟩
  · simp only [mem_supplyRows, ← warningLevel_eq]
    simp

end Sys2Proof.Machine
end

section
/-! PROOFS. Dips that are held through (R191), the full reset (R189, R192, R195, R207, R208), and O47 and O48. -/

namespace Sys2Proof.Machine

/-! ## The restart of a write -/

section
variable {s : State}

/-- A running write restarts from ERASE with a fresh image, and a suspended one is set back to ERASE (R191). -/
theorem restartWrite_of_running {w : WriteRecord} (busy : s.store.running = some w) : s.restartWrite = { s with
    meterDirty := s.meterDirty && decide (w.block ≠ meterBlock)
    store := { s.store with
      suspended := s.store.suspended.map fun x => { x with fresh := true }
      running := some { w with phase := .erase, image := s.imageOf w.block }
      blocks := s.store.blocks.set w.block { s.store.blocks[w.block] with contents := .erased } } } := by
  have work : StoreWork s (s.setSuspended (s.store.suspended.map fun x => { x with fresh := true })) := rfl
  rw [State.restartWrite, busy]
  dsimp only
  rw [beginErase_eq, work.imageOf]
  rfl

theorem restartWrite_of_idle (idle : s.store.running = none) : s.restartWrite = { s with
    store := { s.store with suspended := s.store.suspended.map fun x => { x with fresh := true } } } := by
  rw [State.restartWrite, idle]
  rfl

end

section
variable (s : State)

/-! ## The end of a dip -/

/-- The part with the dip over, before its work is taken (R191). -/
def State.dipOver : State := { s with deferred := [], supply := { s.supply with dip := false } }

/-- A dip's work, in the order drawn and with the choices that the draws took (assumption 6). -/
theorem endDip_order : ∃ (order : List DipWork) (n : Nat), order.Perm s.dipWork
    ∧ s.endDip = (order.foldl State.takeWork { s.dipOver with freeCount := n }).drivePins := by
  have plan : s.endDip = (s.orderedWork.1.foldl State.takeWork s.orderedWork.2.dipOver).drivePins := rfl
  unfold State.orderedWork at plan
  split at plan
  · exact ⟨_, s.freeCount, .refl _, plan⟩
  · obtain ⟨n, drawn⟩ := shuffle_state s.dipWork.length s.dipWork s
    rw [drawn] at plan
    exact ⟨_, n, shuffle_perm _ _ s le_rfl, plan⟩

variable {s}

/-- Work of at most one piece leaves no order to draw. -/
theorem endDip_of_short (short : s.dipWork.length ≤ 1) :
    s.endDip = (s.dipWork.foldl State.takeWork s.dipOver).drivePins := by
  unfold State.endDip State.orderedWork
  rw [if_pos short]; rfl

/-- A piece of work is taken with the pins following, whatever else it does. -/
theorem endDip_of_one {w : DipWork} (one : s.dipWork = [w]) : s.endDip = (s.dipOver.takeWork w).drivePins := by
  rw [endDip_of_short (by rw [one]; rfl), one]; rfl

theorem dipWork_restart (deferred : s.deferred = [])
    (writes : s.store.running.isSome = true ∨ s.store.suspended.isSome = true) : s.dipWork = [.restartWrite] := by
  rw [← Bool.or_eq_true] at writes
  rw [State.dipWork, deferred, writes]; rfl

theorem dipWork_events (running : s.store.running = none) (suspended : s.store.suspended = none) :
    s.dipWork = s.deferred.map DipWork.event := by
  rw [State.dipWork, running, suspended]
  exact List.append_nil _

section
variable (live : s.supply.held = false) (dip : s.supply.dip = true) {us : Nat}
include live dip

theorem exec_dipEnd_of_short (short : us < 400) : exec (.dipEnd us) s = .next s.endDip := by
  have inDip : ¬ (s.supply.held || !s.supply.dip) = true := by rw [live, dip]; nofun
  show Host.Outcome.next (takeDipEnd us s) = _
  rw [takeDipEnd, if_neg inDip, if_neg (Nat.not_le.mpr short)]

theorem exec_dipEnd_of_long (long : 400 ≤ us) : exec (.dipEnd us) s = .next (s.beginReset s.supply.straps) := by
  have inDip : ¬ (s.supply.held || !s.supply.dip) = true := by rw [live, dip]; nofun
  show Host.Outcome.next (takeDipEnd us s) = _
  rw [takeDipEnd, if_neg inDip, if_pos long]

end

/-- A row that a dip can defer has, taken then, the effect that it has at the dip's end. -/
theorem exec_deferrable {i : Instr} (awake : s.Awake) (deferrable : i.Deferrable) :
    exec i s = .next (s.takeWork (.event i)) := by
  obtain ⟨noDip, noEnd, noReset, noLoad⟩ := deferrable
  rw [exec_eq_taken s noDip noEnd noReset noLoad, taken_awake awake]; rfl

end

/-- Settles O47: at a dip's end the work that waited is taken as it would be at any other time. -/
theorem dipsAreHeldThrough : Obligations.DipsAreHeldThrough := by
  unfold Obligations.DipsAreHeldThrough
  refine ⟨fun s awake => ?_, fun s us live dip short => ?_,
    fun s i awake deferrable => exec_deferrable awake deferrable, fun s => ?_, fun s us live dip long => ?_⟩
  · obtain ⟨live, -⟩ := awake
    show Host.Outcome.next (takeDipBegin s) = _
    rw [takeDipBegin, if_neg (by rw [live]; nofun)]
  · intro ended work
    have overAwake : s.dipOver.Awake := ⟨live, rfl⟩
    simp only [exec_dipEnd_of_short live dip short]
    refine ⟨fun deferred running suspended => ?_, fun i deferred running suspended deferrable => ?_,
      fun w deferred running => ?_, fun x deferred running suspended => ?_, ?_⟩
    · have nothing : s.dipWork = [] := by rw [dipWork_events running suspended, deferred]; rfl
      rw [endDip_of_short (by rw [nothing]; exact Nat.zero_le _), nothing]; rfl
    · have one : s.dipWork = [.event i] := by rw [dipWork_events running suspended, deferred]; rfl
      rw [endDip_of_one one]
      exact (exec_deferrable overAwake deferrable).symm
    · rw [endDip_of_one (dipWork_restart deferred (.inl (Option.isSome_of_eq_some running))), State.takeWork,
        restartWrite_of_running (s := s.dipOver) running]
      rfl
    · rw [endDip_of_one (dipWork_restart deferred (.inr (Option.isSome_of_eq_some suspended))), State.takeWork,
        restartWrite_of_idle (s := s.dipOver) running, show s.dipOver.store.suspended = some x from suspended]
      rfl
    · obtain ⟨order, n, perm, run⟩ := endDip_order s
      exact ⟨order, n, perm, by rw [run]; rfl⟩
  · split
    · next w busy => exact restartWrite_of_running busy
    · next idle => exact restartWrite_of_idle idle
  · exact ⟨_, exec_dipEnd_of_long live dip long, rfl, rfl, rfl, rfl⟩

/-! ## The full reset -/

section
variable (cause : ResetCause) (lvs1 lvs0 : Bool)

theorem strapBits_bits : (strapBits lvs1 lvs0).getLsbD 1 = lvs1 ∧ (strapBits lvs1 lvs0).getLsbD 0 = lvs0 := by
  revert lvs1 lvs0; decide

/-- The causes of a full reset (R189, R192, R208). -/
theorem causeBegins_iff : causeBegins cause = true ↔ match cause with
    | .powerOn => True
    | .resetnLow us => 10 ≤ us
    | .dip us => 400 ≤ us := by
  cases cause <;> simp [causeBegins]

theorem exec_fullReset_of_begins (s : State) (begins : causeBegins cause = true) :
    exec (.fullReset cause lvs1 lvs0) s = .next (s.beginReset (strapBits lvs1 lvs0)) :=
  congrArg Host.Outcome.next (if_pos begins)

theorem exec_fullReset_of_short (s : State) (short : ¬ causeBegins cause = true) :
    exec (.fullReset cause lvs1 lvs0) s = .next s :=
  congrArg Host.Outcome.next (if_neg short)

end

/-- A full reset reads the blocks, and of the model's own fields the rows that wait and the count of choices (R192). -/
theorem beginReset_of_blocks {s s' : State} (blocks : s'.store.blocks = s.store.blocks)
    (pending : s'.pending = s.pending) (count : s'.freeCount = s.freeCount) (straps : BitVec 2) :
    s'.beginReset straps = s.beginReset straps := by
  unfold State.beginReset State.underReset
  rw [blocks, pending, count]

/-- The factory slots: the guest alone is LIVE (R17, R192). -/
theorem beginReset_slots (s : State) (straps : BitVec 2) (k : Fin 16) : (s.beginReset straps).slots[k] =
    if k = 0 then .live Profile.factoryGuest else .free := Vector.getElem_ofFn ..

theorem beginReset_schemes (s : State) (straps : BitVec 2) (k : Fin 8) : (s.beginReset straps).schemes[k] =
    if k = 0 then directScheme else if k = 1 then bandScheme else SchemeSlot.empty := Vector.getElem_ofFn ..

/-- Settles O48: a reset is one assignment that reads nothing of the part but its blocks. -/
theorem fullResetKeepsTheStoreAlone : Obligations.FullResetKeepsTheStoreAlone := by
  unfold Obligations.FullResetKeepsTheStoreAlone
  intro s cause lvs1 lvs0 begins
  have begins_iff : causeBegins cause = true ↔ begins := causeBegins_iff cause
  rw [← begins_iff]
  obtain ⟨strap1, strap0⟩ := strapBits_bits lvs1 lvs0
  refine ⟨exec_fullReset_of_short cause lvs1 lvs0 s, fun h => ⟨_, exec_fullReset_of_begins cause lvs1 lvs0 s h, ?_⟩,
    fun s' blocks pending count h => ?_⟩
  · refine ⟨rfl, rfl, rfl, rfl, rfl, rfl, rfl, rfl, rfl, strap1, strap0, rfl, rfl, rfl, rfl, rfl, rfl, rfl, rfl, rfl,
      rfl, rfl, rfl, rfl, rfl, rfl, rfl, rfl, beginReset_slots s _ 0, fun k notGuest => ?_, beginReset_schemes s _ 0,
      beginReset_schemes s _ 1, fun k operator => ?_, rfl, rfl, rfl, rfl, rfl, rfl, rfl, rfl, rfl, rfl⟩
    · rw [beginReset_slots, if_neg notGuest]
    · rw [beginReset_schemes, if_neg (by rintro rfl; cases operator), if_neg (by rintro rfl; revert operator; decide)]
  · rw [exec_fullReset_of_begins _ _ _ s h, exec_fullReset_of_begins _ _ _ s' h,
      beginReset_of_blocks blocks pending count]

end Sys2Proof.Machine
end

section
/-! SUPPORT. Evaluations, waits and draws ask for a profile once: a request joins only where the profile has none (R125,
R126). -/

namespace Sys2Proof.Machine

/-- The request queue holds each profile at most once (R125). -/
def State.AsksOnce (s : State) : Prop := (s.requests.map (·.slot)).Nodup

/-- Work on seats, waits and draws that brings no second request of a profile. -/
structure OnceKept (s t : State) : Prop where
  work : SeatWork s t
  once : s.AsksOnce → t.AsksOnce

/-- Requests leave the queue, or it stands. -/
theorem OnceKept.of_sublist {s t : State} (work : SeatWork s t := by rfl)
    (requests : t.requests.Sublist s.requests := by exact .refl _) : OnceKept s t :=
  ⟨work, (·.sublist (requests.map _))⟩

theorem OnceKept.refl (s : State) : OnceKept s s := .of_sublist

theorem OnceKept.trans {s t u : State} (h : OnceKept s t) (h' : OnceKept t u) : OnceKept s u :=
  ⟨h.work.trans h'.work, h'.once ∘ h.once⟩

theorem OnceKept.foldl {α : Type} {f : State → α → State} (hf : ∀ s a, OnceKept s (f s a)) (l : List α) (s : State) :
    OnceKept s (l.foldl f s) := List.foldlRecOn l f (.refl s) fun t h a _ => h.trans (hf t a)

theorem OnceKept.addNotice (s : State) (n : Notice) : OnceKept s (s.addNotice n) := .of_sublist

theorem OnceKept.noteSeats (before s : State) : OnceKept s (State.noteSeats before s) := by
  refine .foldl (fun s j => ?_) _ s
  unfold State.noteSeat
  split
  · exact .refl s
  · exact .addNotice ..

/-! ## Evaluation -/

theorem OnceKept.putSeat (s : State) (j : Fin 6) (es : List Entry) (p : Option Programme) :
    OnceKept s (s.putSeat j es p) := .of_sublist

theorem OnceKept.writeEntries (s : State) (f : Seat → Entry → EntryState) : OnceKept s (s.writeEntries f) :=
  .of_sublist

/-- A request joins the queue where its profile has none there (R126). -/
theorem OnceKept.raiseRequest (s : State) (k : Fin 16) : OnceKept s (s.raiseRequest k) := by
  refine ⟨.raiseRequest s k, fun once => ?_⟩
  unfold State.AsksOnce at *
  rw [raiseRequest_requests]
  split
  · exact once
  · next unasked =>
    rw [List.map_append]
    refine once.append (List.nodup_singleton _) (List.disjoint_singleton.mpr fun mem => unasked ?_)
    obtain ⟨r, mem, own⟩ := List.mem_map.mp mem
    exact List.any_eq_true.mpr ⟨r, mem, decide_eq_true own⟩

theorem OnceKept.judgeAll (p : Programme) (g w : Bool) (sel : Entry → Bool) (s : State) (es : List Entry) :
    OnceKept s (State.judgeAll p g w sel s es).1 := by
  have judged : ∀ (s : State) (e : Entry), OnceKept s (s.judge p g w e).1 := by
    intro s e
    rcases judge_cases s p g w e with h | h <;> rw [h]
    · exact .refl s
    · exact .raiseRequest ..
  induction es generalizing s with
  | nil => exact .refl s
  | cons e es ih =>
    unfold State.judgeAll; dsimp only; split
    · exact (judged s e).trans (ih _)
    · exact ih s

theorem OnceKept.reevalSeat (w : Bool) (sel : Entry → Bool) (s : State) (j : Fin 6) :
    OnceKept s (s.reevalSeat w sel j) := by
  unfold State.reevalSeat; split
  · exact .refl s
  · exact (OnceKept.judgeAll ..).trans (.putSeat ..)

theorem OnceKept.reeval (s : State) (sel : Entry → Bool) : OnceKept s (s.reeval sel) :=
  .foldl (.reevalSeat true sel) _ s

theorem OnceKept.dropEntry (k : Fin 16) (s : State) (j : Fin 6) : OnceKept s (s.dropEntry k j) := by
  unfold State.dropEntry; dsimp only; split
  · split
    · exact (OnceKept.putSeat ..).trans (.reevalSeat ..)
    · exact .putSeat ..
  · exact .refl s

theorem OnceKept.rederiveSeat (k : Fin 8) (s : State) (j : Fin 6) : OnceKept s (s.rederiveSeat k j) := by
  rw [rederiveSeat_eq]; split
  · exact (OnceKept.putSeat ..).trans (.reevalSeat ..)
  · exact .refl s

/-! ## Exhaustion and waits -/

theorem OnceKept.windDownOrDeny (s : State) (k : Fin 16) (sel : Seat → Entry → Bool) :
    OnceKept s (s.windDownOrDeny k sel) := by
  unfold State.windDownOrDeny; dsimp only
  split <;> exact .of_sublist

theorem OnceKept.exhaustionCheck (s : State) (k : Fin 16) : OnceKept s (s.exhaustionCheck k) := by
  unfold State.exhaustionCheck State.exhaust; dsimp only; split
  · split
    · exact .writeEntries ..
    · split
      · exact (OnceKept.raiseRequest s k).trans (.writeEntries ..)
      · exact .windDownOrDeny ..
  · exact .refl s

theorem OnceKept.afterDecrease (s before : State) (k : Fin 16) : OnceKept s (s.afterDecrease before k) := by
  unfold State.afterDecrease; split
  · exact .exhaustionCheck s k
  · exact .refl s

theorem OnceKept.endOfWait (s : State) (k : Fin 16) : OnceKept s (s.endOfWait k) := by
  unfold State.endOfWait; split
  · split
    · exact .reeval ..
    · exact .windDownOrDeny ..
  · exact .refl s

theorem OnceKept.checkProfile (s : State) (k : Fin 16) : OnceKept s (s.checkProfile k) := by
  unfold State.checkProfile; split
  · split
    · exact (OnceKept.writeEntries ..).trans (.exhaustionCheck ..)
    · exact .refl s
  · exact .refl s

theorem OnceKept.checked (s : State) : OnceKept s s.checked := by
  have debited : OnceKept s s.debitAll := by rw [debitAll_eq]; exact .of_sublist
  unfold State.checked
  exact (debited.trans (.writeEntries ..)).trans (.foldl OnceKept.checkProfile _ _)

/-! ## Draws -/

theorem OnceKept.creditDraw (s : State) (k : Fin 16) (g : Nat) : OnceKept s (s.creditDraw k g) := by
  unfold State.creditDraw; dsimp only
  refine OnceKept.trans (t := { s with
    meters := s.meters.set k { s.meters[k] with drawn := s.meters[k].drawn + g, draws := s.meters[k].draws + 1 }
    meterDirty := true }) .of_sublist ?_
  split
  · exact .reeval ..
  · split
    · exact .raiseRequest ..
    · exact .windDownOrDeny ..

theorem OnceKept.drawFor (s : State) (r : Request) : OnceKept s (s.drawFor r) := by
  rw [drawFor_eq]
  exact OnceKept.trans (t := s.paidOut r) (.of_sublist rfl List.filter_sublist) (.creditDraw ..)

theorem OnceKept.draws (fuel : Nat) (s : State) : OnceKept s (State.draws fuel s).1 := by
  induction fuel generalizing s with
  | zero => exact .refl s
  | succ n ih =>
    unfold State.draws; split
    · exact .refl s
    · split
      · exact .refl s
      · exact (OnceKept.drawFor s _).trans (ih _)

theorem OnceKept.opportunity (s : State) : OnceKept s s.opportunity.1 := by
  unfold State.opportunity; dsimp only; split
  · exact (OnceKept.draws ..).trans (.addNotice ..)
  · exact .draws ..

/-- The end of an event that touches seats (R46, R60, R128). -/
theorem OnceKept.settle (s before : State) (offered : Bool) : OnceKept s (s.settle before offered).1 := by
  have released : OnceKept s s.releaseWaits := .of_sublist rfl List.filter_sublist
  unfold State.settle State.settleWaits; dsimp only
  refine released.trans ?_
  split
  · exact (OnceKept.opportunity ..).trans (.noteSeats ..)
  · exact .noteSeats ..

theorem OnceKept.settled (s before : State) (offered : Bool) : OnceKept s (s.settled before offered) :=
  .settle s before offered

end Sys2Proof.Machine
end

section
/-! SUPPORT. What the units behind the link port do and leave alone, in their commands and in the events of a second: the
link port's response, the second counter and the store's blocks are not theirs (R154, R179, R198), and neither queue
takes a block or a profile twice (R125, R181). -/

namespace Sys2Proof.Machine

/-- The two states differ at most in what the units behind the link port write: the link's state and its response, the
second counter, the supply, the load and all of the store but its queue and its latch stand. -/
def UnitFrame (s t : State) : Prop :=
  t = { s with
    link := { s.link with flags := t.link.flags }, notices := t.notices, schemes := t.schemes, slots := t.slots
    edit := t.edit, seats := t.seats, meters := t.meters, meterDirty := t.meterDirty, interval := t.interval
    pool := t.pool, requests := t.requests, grants := t.grants, clock := { t.clock with counter := s.clock.counter }
    settings := t.settings, authority := t.authority, due := t.due, freeCount := t.freeCount
    store := { s.store with queue := t.store.queue, faultLatch := t.store.faultLatch } }

/-- Work of the units behind the link port; the two queues keep their law. -/
structure UnitWork (s t : State) : Prop where
  frame : UnitFrame s t
  law : s.QueueLaw → t.QueueLaw

/-- Blocks and requests leave the queues, or they stand. -/
theorem State.QueueLaw.of_sublist {s t : State} (law : s.QueueLaw) (queue : t.store.queue.Sublist s.store.queue)
    (requests : t.requests.Sublist s.requests) : t.QueueLaw := by
  obtain ⟨blocks, profiles⟩ := law
  exact ⟨blocks.sublist (queue.map _), profiles.sublist (requests.map _)⟩

/-- Work that brings nothing to the queues. -/
theorem UnitWork.of_frame {s t : State} (frame : UnitFrame s t := by exact rfl)
    (queue : t.store.queue.Sublist s.store.queue := by exact .refl _)
    (requests : t.requests.Sublist s.requests := by exact .refl _) : UnitWork s t :=
  ⟨frame, fun law => law.of_sublist queue requests⟩

theorem UnitWork.refl (s : State) : UnitWork s s := .of_frame

theorem UnitWork.trans {s t u : State} (h : UnitWork s t) (h' : UnitWork t u) : UnitWork s u := by
  obtain ⟨frame, law⟩ := h
  obtain ⟨frame', law'⟩ := h'
  refine ⟨?_, law' ∘ law⟩
  unfold UnitFrame at *
  rw [frame', frame]

theorem UnitWork.foldl {α : Type} {f : State → α → State} (hf : ∀ s a, UnitWork s (f s a)) (l : List α) (s : State) :
    UnitWork s (l.foldl f s) := List.foldlRecOn l f (.refl s) fun t h a _ => h.trans (hf t a)

theorem UnitWork.of_once {s t : State} (h : OnceKept s t) : UnitWork s t := by
  refine ⟨?_, fun ⟨blocks, profiles⟩ => ⟨?_, h.once profiles⟩⟩
  · rw [h.work]; exact rfl
  · rw [h.work.store]; exact blocks

theorem UnitWork.settled (s before : State) (offered : Bool) : UnitWork s (s.settled before offered) :=
  .of_once (.settled ..)

/-- A re-evaluation and the end of its event. -/
theorem UnitWork.judged (s before : State) (sel : Entry → Bool) (offered : Bool) :
    UnitWork s ((s.reeval sel).settled before offered) := .of_once ((OnceKept.reeval ..).trans (.settled ..))

/-- A block that waits does not join the queue again (R181). -/
theorem UnitWork.commit (s : State) (b : BlockId) : UnitWork s (s.commit b) := by
  rw [State.commit_eq]
  refine ⟨rfl, fun ⟨blocks, profiles⟩ => ⟨?_, profiles⟩⟩
  show (List.map _ (if _ then _ else _)).Nodup
  split
  · exact blocks
  · next absent =>
    rw [List.map_append]
    refine blocks.append (List.nodup_singleton _) (List.disjoint_singleton.mpr fun mem => absent ?_)
    obtain ⟨item, mem, own⟩ := List.mem_map.mp mem
    exact List.any_eq_true.mpr ⟨item, mem, decide_eq_true own⟩

/-- A change of other tables and its commit request. -/
theorem UnitWork.committed {s t : State} {b : BlockId} (same : UnitWork s t := by exact .of_frame) :
    UnitWork s (t.commit b) := same.trans (.commit ..)

theorem UnitWork.retireGrants (s : State) (sel : Grant → Bool) : UnitWork s (s.retireGrants sel) := by
  have written : ∀ grants, UnitWork s { s with grants := grants } := fun _ => .of_frame
  exact written _

theorem UnitWork.closeWindow (s : State) : UnitWork s s.closeWindow := by
  unfold State.closeWindow
  split
  · exact .refl s
  · exact .of_frame

/-! ## The effects of commands -/

section
variable (s : State)

theorem UnitWork.changeScheme (k : Fin 8) (c : SchemeSlot) : UnitWork s (s.changeScheme k c) := by
  have rederived : OnceKept (s.withScheme k c) (s.rederived k c) := .foldl (.rederiveSeat k) _ _
  have written : UnitWork s (s.withScheme k c) := .of_frame
  exact ((written.trans (.of_once rederived)).trans (.commit ..)).trans (.settled ..)

theorem UnitWork.installChange (b : EditBuffer) : UnitWork s (s.installChange b) := by
  unfold State.installChange; dsimp only
  exact (UnitWork.trans .committed (.of_once (.afterDecrease ..))).trans (.judged ..)

theorem UnitWork.retired (k : Fin 16) : UnitWork s (s.retired k) := by
  have unseated : UnitWork s ((List.finRange 6).foldl (State.dropEntry k) s) :=
    .of_once (.foldl (OnceKept.dropEntry k) _ s)
  have unasked : ∀ t : State, UnitWork t (t.dropRequest k) := fun _ => .of_frame rfl (.refl _) List.filter_sublist
  have cleared : ∀ t : State, UnitWork t (t.clearMeter k) := fun _ => .of_frame
  have freed : ∀ (t : State) slots, UnitWork t { t with slots := slots } := fun _ _ => .of_frame
  unfold State.retired; dsimp only
  refine UnitWork.trans ?_ (.settled ..)
  refine UnitWork.trans ?_ (.committed (.committed (.committed (freed _ _))))
  exact ((unseated.trans (unasked _)).trans (.retireGrants ..)).trans (cleared _)

theorem OnceKept.enter (j : Fin 6) (k : Fin 16) : OnceKept s (s.enter j k) := by
  have entered : OnceKept s (s.entered j k) := (OnceKept.putSeat ..).trans (.reevalSeat ..)
  have shared : OnceKept s (s.shared j k) := by
    unfold State.shared
    split
    · exact entered.trans (.reevalSeat ..)
    · exact entered
  rw [enter_eq]
  exact shared.trans (.settled ..)

theorem UnitWork.putGrant (i k : Fin 16) (b : GrantBody) : UnitWork s (s.putGrant i k b) := by
  unfold State.putGrant; dsimp only
  exact UnitWork.trans .committed (.judged ..)

theorem UnitWork.addGrant (k : Fin 16) (b : GrantBody) : UnitWork s (s.addGrant k b).1 := by
  unfold State.addGrant
  split
  · split
    · next i _ _ g _ =>
      rcases changeGrant_cases s i k g.body b with same | put
      · rw [same]; exact .refl s
      · rw [put]; exact .putGrant ..
    · exact .refl s
  · split
    · rw [createGrant_state]; exact .putGrant ..
    · exact .refl s

theorem UnitWork.revoke (i k : Fin 16) : UnitWork s (s.revoke i k) := by
  unfold State.revoke; dsimp only
  exact (UnitWork.trans .committed (.of_once (.afterDecrease ..))).trans (.judged ..)

theorem UnitWork.putSettings (h : Settings) : UnitWork s (s.putSettings h) := by
  have written : UnitWork s { s with settings := h } := .of_frame
  have judged : UnitWork s (if h.groupOrder = s.settings.groupOrder then { s with settings := h }
      else (State.reeval { s with settings := h } everyEntry).settled s false) := by
    split
    · exact written
    · exact written.trans (.judged ..)
  unfold State.putSettings; dsimp only
  split
  · exact judged
  · exact judged.trans (.commit ..)

/-! ## Rollovers and expiries -/

theorem UnitWork.rollMeters : UnitWork s s.rollMeters := by
  unfold State.rollMeters; dsimp only
  exact UnitWork.trans .committed (.of_once (.reeval ..))

/-- The pool arbiter's part empties the request queue (R133). -/
theorem UnitWork.rollPool : UnitWork s s.rollPool := by
  have ended : ∀ t : State, OnceKept t (s.requests.foldl (fun t r => t.endOfWait r.slot) t) :=
    fun t => .foldl (fun t (r : Request) => .endOfWait t r.slot) _ t
  exact UnitWork.trans
    (t := { s with requests := [], pool := ⟨s.settings.poolSize, s.settings.poolSize, 0, 0⟩, meterDirty := true })
    (.of_frame rfl (.refl _) (List.nil_sublist _)) (.of_once (ended _))

theorem UnitWork.retireExtra : UnitWork s s.retireExtra := by
  unfold State.retireExtra; dsimp only
  split
  · have retired := (UnitWork.retireGrants s s.outlived).trans (.commit _ grantBlock)
    exact (retired.trans (.of_once (.foldl (fun t k => .afterDecrease t s k) _ _))).trans (.of_once (.reeval ..))
  · exact .refl s

theorem UnitWork.expireGrants (now : Moment) : UnitWork s (s.expireGrants now) := by
  unfold State.expireGrants; dsimp only
  split
  · exact ((UnitWork.retireGrants ..).trans (.commit ..)).trans (.of_once (.reeval ..))
  · exact .refl s

theorem UnitWork.takeClockWork (w : ClockWork) : UnitWork s (s.takeClockWork w) := by
  cases w with
  | compare => exact .expireGrants s s.now
  | roll part =>
    cases part with
    | meters => exact .rollMeters s
    | pool => exact .rollPool s
    | grants => exact .retireExtra s
    | seats => exact .of_once (.reeval s everyEntry)

theorem UnitWork.installMeterDay : UnitWork s s.installMeterDay := .of_frame

theorem UnitWork.tested : UnitWork s s.tested := by
  unfold State.tested
  split
  · exact .installMeterDay s
  · exact .refl s

theorem UnitWork.clockSet (a : ClksetArgs) (w : Fin 7) : UnitWork s (s.clockSet a w) := by
  obtain ⟨l, n, -, plan⟩ := worked_plan (s.retimed a w)
  have retimed : UnitWork s (s.retimed a w) := .of_frame
  have drawn : ∀ t : State, UnitWork t { t with freeCount := n } := fun _ => .of_frame
  rw [clockSet_eq, plan]
  exact (((retimed.trans (.tested _)).trans (drawn _)).trans (.foldl UnitWork.takeClockWork l _)).trans (.settled ..)

/-! ## The events of a second -/

theorem UnitWork.takeHanded (w : Handed) : UnitWork s (s.takeHanded w) := by
  cases w with
  | boundary => exact UnitWork.trans (t := s.bounded) .of_frame (.judged _ s everyEntry false)
  | roll p =>
    show UnitWork s (s.takeHandedRoll p)
    rw [takeHandedRoll_eq]
    exact UnitWork.trans (t := s.partTaken p) .of_frame ((UnitWork.takeClockWork ..).trans (.settled ..))

theorem UnitWork.takeGrantExpiry : UnitWork s (takeGrantExpiry s) := by
  cases due : s.due.expiry with
  | none => rw [Machine.takeGrantExpiry, due]; exact .refl s
  | some now =>
    rw [takeGrantExpiry_eq due]
    exact UnitWork.trans (t := s.compared) .of_frame ((UnitWork.expireGrants ..).trans (.settled ..))

theorem UnitWork.meterSecond : UnitWork s s.meterSecond := by
  have taken : ∀ t : State, UnitWork t { t with due.metering := false } := fun _ => .of_frame
  rw [meterSecond_eq]
  exact ((UnitWork.of_once (.checked s)).trans (taken _)).trans (.settled ..)

theorem UnitWork.takeCommitIntervalEnd : UnitWork s (takeCommitIntervalEnd s) := by
  unfold Machine.takeCommitIntervalEnd; dsimp only
  split
  · split
    · exact .committed
    · exact .of_frame
  · exact .refl s

/-- The late requests leave the queue first (R131). -/
theorem UnitWork.timeoutCheck : UnitWork s s.timeoutCheck := by
  have left : UnitWork s s.withoutLate := .of_frame rfl (.refl _) List.filter_sublist
  have ended : OnceKept s.withoutLate s.waitsEnded := .foldl (fun t (r : Request) => .endOfWait t r.slot) _ _
  rw [timeoutCheck_eq]
  exact (left.trans (.of_once ended)).trans (.settled ..)

theorem UnitWork.takeMeteringSecond : UnitWork s (takeMeteringSecond s) := by
  unfold Machine.takeMeteringSecond
  split
  · exact .meterSecond s
  · exact .refl s

theorem UnitWork.takeWindDownEnd : UnitWork s (takeWindDownEnd s) := by
  unfold Machine.takeWindDownEnd
  split
  · exact .meterSecond s
  · exact .of_once ((OnceKept.writeEntries ..).trans (.settled ..))

theorem UnitWork.takePoolWaitTimeout : UnitWork s (takePoolWaitTimeout s) := by
  unfold Machine.takePoolWaitTimeout
  split
  · exact .timeoutCheck s
  · exact .refl s

theorem UnitWork.takeWindowExpiry : UnitWork s (takeWindowExpiry s) := by
  unfold Machine.takeWindowExpiry
  split
  · exact .closeWindow s
  · exact .refl s

theorem UnitWork.takeLockoutEnd : UnitWork s (takeLockoutEnd s) := by
  unfold Machine.takeLockoutEnd
  split <;> exact .of_frame

/-- A midnight at which nobody watches (R133, R159). -/
theorem UnitWork.quietMidnight (before : State) :
    UnitWork s (s.installMeterDay.rollMeters.rollPool.settled before false) :=
  ((UnitWork.installMeterDay s).trans ((UnitWork.rollMeters _).trans (.rollPool _))).trans (.settled ..)

/-! ## The commands -/

variable {s}

theorem UnitWork.of_command {t : State} (h : CommandEffect s t) : UnitWork s t := by
  cases h with
  | answers => exact .refl s
  | changeScheme c => exact .changeScheme ..
  | lockScheme | unsetPin | setPin => exact .committed
  | edit | dropEdit | admitPin | failPin | clearNotices => exact .of_frame
  | installNew => exact .committed .committed
  | installChange => exact .installChange ..
  | retired => exact .retired ..
  | enter => exact .of_once (.enter ..)
  | leave j k => exact .of_once ((OnceKept.dropEntry k s j).trans (.settled ..))
  | vacate j => exact .of_once ((OnceKept.putSeat s j [] none).trans (.settled ..))
  | startProgramme j p => exact .of_once (((OnceKept.putSeat ..).trans (.reevalSeat ..)).trans (.settled ..))
  | endProgramme j => exact .of_once ((OnceKept.putSeat ..).trans (.settled ..))
  | topUp x => exact UnitWork.trans .committed (.of_once (.settle ..))
  | addGrant => exact .addGrant ..
  | revoke => exact .revoke ..
  | clockSet a w => exact .clockSet s a w
  | closeWindow => exact .closeWindow s
  | putSettings => exact .putSettings ..
  | retryFailed =>
    have cleared : UnitWork s { s with store := { s.store with faultLatch := false } } := .of_frame
    exact cleared.trans (.foldl UnitWork.commit _ _)
  | restarted =>
    exact UnitWork.trans (t := s.emptied) (.of_frame rfl (.refl _) (List.nil_sublist _)) (.closeWindow _)

end

end Sys2Proof.Machine
end

section
/-! PROOFS. The queue law over the rows of the store, the supply and the start-up load (R181, R187, R193), and O53. -/

namespace Sys2Proof.Machine

/-- The two queues meet their law after, if they did before. -/
structure QueueKept (s t : State) : Prop where
  law : s.QueueLaw → t.QueueLaw

theorem QueueKept.of_unit {s t : State} (h : UnitWork s t) : QueueKept s t := ⟨h.law⟩

/-- Blocks and requests leave the queues, or they stand. -/
theorem QueueKept.of_sublist {s t : State} (queue : t.store.queue.Sublist s.store.queue := by exact .refl _)
    (requests : t.requests.Sublist s.requests := by exact .refl _) : QueueKept s t :=
  ⟨fun law => law.of_sublist queue requests⟩

theorem QueueKept.refl (s : State) : QueueKept s s := ⟨id⟩

theorem QueueKept.trans {s t u : State} (h : QueueKept s t) (h' : QueueKept t u) : QueueKept s u := ⟨h'.law ∘ h.law⟩

theorem QueueKept.foldl {α : Type} {f : State → α → State} (hf : ∀ s a, QueueKept s (f s a)) (l : List α) (s : State) :
    QueueKept s (l.foldl f s) := List.foldlRecOn l f (.refl s) fun t h a _ => h.trans (hf t a)

/-- A change outside the queues and its commit request. -/
theorem QueueKept.committed {s t : State} {b : BlockId} (same : QueueKept s t := by exact .of_sublist) :
    QueueKept s (t.commit b) := same.trans (.of_unit (.commit ..))

theorem QueueKept.of_begun {s t : State} (h : WriteBegun s t) : QueueKept s t :=
  .of_sublist h.queue (by rw [h.work.frame.2.2.2.2.2.2.1])

variable (s : State)

/-! ## The rows of the store -/

theorem QueueKept.takeVerifyComplete (interrupted isMatch : Bool) :
    QueueKept s (takeVerifyComplete interrupted isMatch s) := by
  unfold Machine.takeVerifyComplete
  split
  · next w _ =>
    split
    · split
      · exact QueueKept.trans (t := s.completed w.block) .of_sublist (.of_begun (completeWrite_begun ..))
      · split
        · exact .of_begun (.beginErase ..)
        · exact QueueKept.trans (t := s.writeFailed w) .of_sublist (.of_begun (failWrite_begun ..))
    · exact .refl s
  · exact .refl s

theorem withoutBlock_sublist (b : BlockId) (q : List QueueItem) : (withoutBlock b q).Sublist q := List.filter_sublist

/-- The meter block comes to the head from wherever it waited (R187). -/
theorem QueueKept.markUrgent : QueueKept s s.markUrgent := by
  refine ⟨fun ⟨blocks, profiles⟩ => ⟨List.nodup_cons.mpr ⟨fun mem => ?_, ?_⟩, profiles⟩⟩
  · obtain ⟨item, mem, own⟩ := List.mem_map.mp mem
    exact of_decide_eq_true (List.mem_filter.mp mem).2 own
  · exact blocks.sublist ((withoutBlock_sublist ..).map _)

theorem QueueKept.urgentSave : QueueKept s s.urgentSave := by
  unfold State.urgentSave
  split
  · exact (QueueKept.markUrgent s).trans (.of_begun (.takeNextWrite _))
  · next w _ =>
    split
    · exact .markUrgent s
    · exact .of_begun (.erase s (withoutBlock_sublist ..) (some ⟨w, false⟩) _)

theorem QueueKept.takeSupplyWarning : QueueKept s (takeSupplyWarning s) := by
  unfold Machine.takeSupplyWarning
  split
  · exact .refl s
  · exact QueueKept.trans (t := s.supplyWarned) .of_sublist (.urgentSave _)

theorem QueueKept.restartWrite : QueueKept s s.restartWrite := by
  unfold State.restartWrite; dsimp only
  split
  · exact .of_begun (.erase s (.refl _) _ _)
  · exact .of_sublist

/-! ## The start-up load -/

theorem QueueKept.settleHousehold (r : ReadResult) : QueueKept s (s.settleHousehold r) := by
  unfold State.settleHousehold; dsimp only
  split
  · exact .of_sublist
  · split
    · exact .of_sublist
    · exact .committed
  · exact .committed

theorem QueueKept.settleScheme (k : Fin 8) (r : ReadResult) : QueueKept s (s.settleScheme k r) := by
  unfold State.settleScheme; dsimp only
  split
  · exact .of_sublist
  · split <;> exact .of_sublist
  · exact .of_sublist

theorem QueueKept.takeSlot (k : Fin 16) (slot : Slot) (v : BlockStatus) : QueueKept s (s.takeSlot k slot v) :=
  .of_sublist

theorem QueueKept.withoutRecord (k : Fin 16) (slot : Slot) (v : BlockStatus) :
    QueueKept s (s.withoutRecord k slot v) := by
  unfold State.withoutRecord
  split
  · exact .committed (.takeSlot ..)
  · exact .takeSlot ..

theorem QueueKept.tokenLaw : QueueKept s s.tokenLaw := by
  refine .foldl (fun t k => ?_) _ s
  unfold State.tokenLawAt
  split
  · exact .takeSlot ..
  · exact .refl t

theorem QueueKept.settleProfile (k : Fin 16) (r : ReadResult) : QueueKept s (s.settleProfile k r) := by
  have lawTaken : ∀ x : State, QueueKept x (if k = 15 then x.tokenLaw else x) := by
    intro x
    split
    · exact .tokenLaw x
    · exact .refl x
  unfold State.settleProfile; dsimp only
  refine QueueKept.trans ?_ (lawTaken _)
  split
  · exact .withoutRecord ..
  · split
    · exact .takeSlot ..
    · exact .withoutRecord ..
  · exact .withoutRecord ..

theorem QueueKept.settleMeters (r : ReadResult) : QueueKept s (s.settleMeters r) := by
  unfold State.settleMeters
  split
  · exact .of_sublist
  · split <;> exact .of_sublist
  · exact .of_sublist

theorem QueueKept.settleGrants (r : ReadResult) : QueueKept s (s.settleGrants r) := by
  have taken : ∀ table v, QueueKept s (s.takeGrants table v) := fun _ _ => .of_sublist
  unfold State.settleGrants; dsimp only
  split
  · exact taken ..
  · split
    · split
      · exact .committed ((taken ..).trans (.of_unit (.retireGrants ..)))
      · exact taken ..
    · exact .committed (taken ..)
  · exact .committed (taken ..)

theorem QueueKept.handBlock (b : BlockId) (r : ReadResult) : QueueKept s (s.handBlock b r) := by
  unfold State.handBlock
  split
  · exact .settleProfile ..
  · split
    · exact .settleScheme ..
    · split
      · exact .settleHousehold ..
      · split
        · exact .settleGrants ..
        · exact .settleMeters ..

theorem QueueKept.takeStoreBlockRead : QueueKept s (takeStoreBlockRead s) := by
  have read : ∀ n b, QueueKept s (s.readBlock n b) :=
    fun n b => QueueKept.trans (t := s.reading n) .of_sublist (.handBlock ..)
  have ended : ∀ t : State, QueueKept t t.endLoad := fun t => by
    rw [endLoad_eq]; exact QueueKept.trans (t := t.loaded) .of_sublist (.of_begun (.takeNextWrite _))
  unfold Machine.takeStoreBlockRead
  split
  · exact .refl s
  · split
    · exact .refl s
    · dsimp only
      split
      · exact (read ..).trans (ended _)
      · exact read ..

/-! ## Every row -/

/-- Every row keeps the queue law. -/
theorem queueLaw_rows : RowsRelate QueueKept where
  refl := .refl
  trans := .trans
  link _ _ := .of_sublist
  pins _ := .of_sublist
  draw _ _ := .of_sublist
  command h := .of_unit (.of_command h)
  handed s w := .of_unit (.takeHanded s w)
  grantExpiry s := .of_unit (.takeGrantExpiry s)
  meteringSecond s := .of_unit (.takeMeteringSecond s)
  windDownEnd s := .of_unit (.takeWindDownEnd s)
  commitIntervalEnd s := .of_unit (.takeCommitIntervalEnd s)
  poolWaitTimeout s := .of_unit (.takePoolWaitTimeout s)
  windowExpiry s := .of_unit (.takeWindowExpiry s)
  lockoutEnd s := .of_unit (.takeLockoutEnd s)
  handSecond _ := .of_sublist
  midnight _ := .of_sublist
  quietMidnight s before := .of_unit (.quietMidnight s before)
  nextWrite s := .of_begun (.takeNextWrite s)
  eraseComplete interrupted s := by
    unfold takeEraseComplete
    split
    · split <;> exact .of_sublist
    · exact .refl s
  programComplete interrupted s := by
    unfold takeProgramComplete
    split
    · split <;> exact .of_sublist
    · exact .refl s
  verifyComplete interrupted isMatch s := .takeVerifyComplete s interrupted isMatch
  supplyWarning := .takeSupplyWarning
  supplyClear _ := .of_sublist
  storeBlockRead := .takeStoreBlockRead
  restartWrite := .restartWrite
  dipOver _ := .of_sublist

theorem queueLaw_stepLaw : StepLaw State.QueueLaw where
  pending _ _ := id
  deferred _ _ := id
  dipBegin _ := id
  reset _ _ := ⟨List.nodup_nil, List.nodup_nil⟩
  startUpLoad high millivolts s := by
    unfold takeStartUpLoad
    split <;> exact id
  event i s := (queueLaw_rows.trans (queueLaw_rows.takeEvent i s) (queueLaw_rows.pins _)).law
  endDip s := (queueLaw_rows.endDip s).law

/-- Settles O53: whatever joins a queue joins it where it does not wait already. -/
theorem everyStepKeepsTheQueueLaw : Obligations.EveryStepKeepsTheQueueLaw := queueLaw_stepLaw.keptByEveryStep

end Sys2Proof.Machine
end

section
/-! PROOFS. The link law over the transactions, the commands, the events of a second, the rows of the store and the
start-up load (R182, R193, R198, R202), and O55. -/

namespace Sys2Proof.Machine

/-- The link port meets its law after, if it did before. -/
structure LinkKept (s t : State) : Prop where
  law : s.LinkLaw → t.LinkLaw

theorem LinkKept.refl (s : State) : LinkKept s s := ⟨id⟩

theorem LinkKept.trans {s t u : State} (h : LinkKept s t) (h' : LinkKept t u) : LinkKept s u := ⟨h'.law ∘ h.law⟩

theorem LinkKept.foldl {α : Type} {f : State → α → State} (hf : ∀ s a, LinkKept s (f s a)) (l : List α) (s : State) :
    LinkKept s (l.foldl f s) := List.foldlRecOn l f (.refl s) fun t h a _ => h.trans (hf t a)

section
variable {s t : State}

/-- The link's state and its response stand, and in a load no write begins. -/
theorem LinkKept.of_link (state : t.link.state = s.link.state) (buffer : t.link.buffer = s.link.buffer)
    (idle : s.link.state = .loading → s.store.running = none → s.store.suspended = none →
      t.store.running = none ∧ t.store.suspended = none) : LinkKept s t := by
  refine ⟨fun ⟨held, load⟩ => ⟨?_, fun loading => ?_⟩⟩
  · rw [state, buffer]
    exact held
  · rw [state] at loading
    obtain ⟨running, suspended⟩ := load loading
    exact idle loading running suspended

/-- The link's state, its response and both writes stand. -/
theorem LinkKept.of_same (state : t.link.state = s.link.state := by exact rfl)
    (buffer : t.link.buffer = s.link.buffer := by exact rfl)
    (running : t.store.running = s.store.running := by exact rfl)
    (suspended : t.store.suspended = s.store.suspended := by exact rfl) : LinkKept s t :=
  .of_link state buffer fun _ none none' => ⟨running.trans none, suspended.trans none'⟩

/-- While a write runs the link is not LOADING. -/
theorem LinkKept.of_busy {w : WriteRecord} (busy : s.store.running = some w) (link : t.link = s.link) : LinkKept s t :=
  .of_link (by rw [link]) (by rw [link]) fun _ none => nomatch busy.symm.trans none

theorem LinkKept.of_unit (h : UnitWork s t) : LinkKept s t := by
  obtain ⟨frame, -⟩ := h
  rw [frame]
  exact .of_same

theorem LinkKept.of_handed (h : HandedWork s t) : LinkKept s t := by
  rw [h]
  exact .of_same

theorem LinkKept.of_owner (h : OwnerWork s t) : LinkKept s t := by
  rw [h.frame]
  exact .of_same

theorem StoreRow.link (h : StoreRow s t) : t.link = s.link := by rw [h]

end

/-! ## The link port -/

section
variable (s : State)

theorem discardHeld_buffer : s.discardHeld.link.buffer = none := by
  unfold State.discardHeld
  split
  · next empty => exact empty
  · rfl

/-- A response is held in LOADING or not, as it comes (R198). -/
theorem linkLaw_of_loading {s t : State} (law : s.LinkLaw) (loading : s.link.state = .loading)
    (state : t.link.state = .loading) (store : t.store = s.store) : t.LinkLaw := by
  obtain ⟨-, load⟩ := law
  refine ⟨by rw [state]; trivial, fun _ => ?_⟩
  rw [store]
  exact load loading

theorem answer_linkLaw (i : Instr) (out : State × Reply) : (State.answer i out).LinkLaw := ⟨rfl, nofun⟩

theorem LinkKept.dispatch (i : Instr) : LinkKept s (State.dispatch i s) := by
  refine ⟨fun law => ?_⟩
  unfold State.dispatch
  split
  · next loading =>
    rw [discardHeld_hold]
    exact linkLaw_of_loading law loading loading rfl
  · next ready =>
    obtain ⟨held, -⟩ := law
    rw [ready] at held
    exact ⟨held, nofun⟩
  · exact LinkKept.law .of_same law
  · exact ⟨discardHeld_buffer s, nofun⟩

/-- Whatever an owner does behind the link port. -/
theorem LinkKept.command {owner : State → State × Reply} (i : Instr) : LinkKept s (State.command i owner s) := by
  have met : LinkKept s (State.dispatch i { s with link.miso := [] }) :=
    LinkKept.trans (t := { s with link.miso := [] }) .of_same (.dispatch _ i)
  unfold State.command; dsimp only
  split
  · exact ⟨fun _ => answer_linkLaw ..⟩
  · split
    · exact ⟨fun _ => answer_linkLaw ..⟩
    · exact met

/-- A refused frame is answered in every state but EXECUTING, in which no frame is checked (R198). -/
theorem LinkKept.refuseFrame (status : Status) (code : Byte) (free : ∀ i, s.link.state ≠ .executing i) :
    LinkKept s (s.refuseFrame status code) := by
  refine ⟨fun law => ?_⟩
  unfold State.refuseFrame
  split
  · exact ⟨rfl, nofun⟩
  · next other =>
    rw [discardHeld_hold]
    cases state : s.link.state with
    | loading => exact linkLaw_of_loading law state state rfl
    | ready => exact absurd state other
    | executing i => exact absurd state (free i)
    | answered =>
      refine ⟨?_, fun loading => nomatch state.symm.trans loading⟩
      dsimp only
      rw [state]; rfl

theorem LinkKept.takeWrite (frame : List Byte) : LinkKept s (takeWrite frame s) := by
  have cleared : LinkKept s { s with link.miso := [] } := .of_same
  unfold Machine.takeWrite; dsimp only
  split
  · exact .of_same
  · next free =>
    refine cleared.trans ?_
    split
    · exact .refuseFrame { s with link.miso := [] } _ _ free
    · exact .refuseFrame { s with link.miso := [] } _ _ free
    · exact .dispatch ..

theorem LinkKept.delivered : LinkKept s s.delivered := by
  refine ⟨fun law => ?_⟩
  unfold State.delivered
  split
  · exact ⟨rfl, nofun⟩
  · next loading => exact linkLaw_of_loading law loading loading rfl
  · exact LinkKept.law .of_same law

theorem LinkKept.takeFetch (clocked : Nat) : LinkKept s (takeFetch clocked s) := by
  unfold Machine.takeFetch; dsimp only
  split
  · exact LinkKept.trans (t := { s with link.miso := _ }) .of_same (.delivered _)
  · exact .of_same

theorem LinkKept.takeBad (selector : Option Byte) : LinkKept s (takeBad selector s) := by
  unfold Machine.takeBad
  split
  · exact .refl s
  · split
    · exact .takeWrite s []
    · split
      · exact .takeFetch s 0
      · exact .of_same

/-! ## The events of a second -/

theorem LinkKept.takeMinuteBoundary : LinkKept s (takeMinuteBoundary s) := by
  by_cases none : s.handed = []
  · rw [takeMinuteBoundary_of_none none]; exact .refl s
  · obtain ⟨work, n, -, -, run⟩ := takeMinuteBoundary_pieces none
    rw [run]
    exact .of_handed (HandedWork.trans (t := { s with freeCount := n }) rfl (foldl_takeHanded_work ..))

theorem LinkKept.flushDue : LinkKept s s.flushDue := by
  have expired := (LinkKept.of_handed (takeEveryHanded_work s)).trans (.of_unit (.takeGrantExpiry _))
  have metered := expired.trans (.of_unit (.takeMeteringSecond _))
  have committed := metered.trans (.of_unit (.takeCommitIntervalEnd _))
  have waited := committed.trans (.of_unit (.takePoolWaitTimeout _))
  exact (waited.trans (.of_unit (.takeWindowExpiry _))).trans (.of_unit (.takeLockoutEnd _))

theorem LinkKept.rollAtMidnight (before : State) : LinkKept s (s.rollAtMidnight before) := by
  unfold State.rollAtMidnight; dsimp only
  split
  · exact .of_unit (.quietMidnight s before)
  · obtain ⟨n, drawn⟩ := shuffle_state rolloverParts.length rolloverParts
      { s.installMeterDay with due.rollover := rolloverParts }
    rw [drawn]
    exact LinkKept.trans .of_same (.foldl (fun t p => .of_unit (.takeHanded t (.roll p))) _ _)

theorem LinkKept.takeSecond : LinkKept s (takeSecond s) := by
  have ticked := (LinkKept.flushDue s).trans (t := s.flushDue) (u := s.flushDue.handSecond) .of_same
  unfold Machine.takeSecond; dsimp only
  split
  · exact ticked.trans (.rollAtMidnight ..)
  · exact ticked

/-! ## The store, the supply and the load -/

theorem LinkKept.takeNextWrite : LinkKept s s.takeNextWrite := by
  have link : s.takeNextWrite.link = s.link := by
    have work := (WriteBegun.takeNextWrite s).work
    rw [work]
  refine .of_link (by rw [link]) (by rw [link]) fun loading running suspended => ?_
  rw [takeNextWrite_stays (.inr loading)]
  exact ⟨running, suspended⟩

/-- A completion does nothing where no write runs (R183). -/
theorem LinkKept.of_completion {complete : State → State} (row : ∀ s, StoreRow s (complete s))
    (none : ∀ s : State, s.store.running = none → complete s = s) : LinkKept s (complete s) := by
  cases busy : s.store.running with
  | none => rw [none s busy]; exact .refl s
  | some w => exact .of_busy busy (row s).link

theorem LinkKept.takeEraseComplete (interrupted : Bool) : LinkKept s (takeEraseComplete interrupted s) :=
  .of_completion s (takeEraseComplete_row interrupted) fun s none => by rw [Machine.takeEraseComplete, none]

theorem LinkKept.takeProgramComplete (interrupted : Bool) : LinkKept s (takeProgramComplete interrupted s) :=
  .of_completion s (takeProgramComplete_row interrupted) fun s none => by rw [Machine.takeProgramComplete, none]

theorem LinkKept.takeVerifyComplete (interrupted isMatch : Bool) :
    LinkKept s (takeVerifyComplete interrupted isMatch s) :=
  .of_completion s (takeVerifyComplete_row interrupted isMatch) fun s none => by rw [Machine.takeVerifyComplete, none]

theorem LinkKept.takeSupplyWarning : LinkKept s (takeSupplyWarning s) := by
  have link := (takeSupplyWarning_row s).link
  refine .of_link (by rw [link]) (by rw [link]) fun loading running suspended => ?_
  cases low : s.supply.low with
  | true => rw [takeSupplyWarning_of_low low]; exact ⟨running, suspended⟩
  | false =>
    rw [takeSupplyWarning_of_clear low, urgentSave_of_loading (s := s.supplyWarned) running loading]
    exact ⟨running, suspended⟩

theorem LinkKept.restartWrite : LinkKept s s.restartWrite := by
  have link := (restartWrite_row s).link
  refine .of_link (by rw [link]) (by rw [link]) fun _ running suspended => ?_
  rw [restartWrite_of_idle running, suspended]
  exact ⟨running, rfl⟩

/-- The end of the load finds the link as what it holds says (R194, R198). -/
theorem loaded_linkLaw : s.loaded.LinkLaw := by
  refine ⟨?_, fun loading => absurd loading (loaded_ne_loading s)⟩
  by_cases held : s.link.buffer.isSome = true
  · have state : s.loaded.link.state = .answered := if_pos held
    rw [state]; exact held
  · have state : s.loaded.link.state = .ready := if_neg held
    rw [state]; exact Option.not_isSome_iff_eq_none.mp held

theorem LinkKept.takeStoreBlockRead : LinkKept s (takeStoreBlockRead s) := by
  have read : ∀ n b, LinkKept s (s.readBlock n b) :=
    fun n b => LinkKept.trans (t := s.reading n) .of_same (.of_owner (.handBlock ..))
  unfold Machine.takeStoreBlockRead
  split
  · exact .refl s
  · split
    · exact .refl s
    · dsimp only
      split
      · rw [endLoad_eq]
        exact ⟨fun _ => (LinkKept.takeNextWrite _).law (loaded_linkLaw _)⟩
      · exact read ..

/-! ## Every row -/

theorem LinkKept.takeEvent (i : Instr) : LinkKept s (takeEvent i s) := by
  by_cases code : (commandCode i).isSome = true
  · obtain ⟨owner, effect, -⟩ := takeEvent_of_code code
    rw [effect]
    exact .command s i
  · cases i with
    | writeTransaction frame => exact .takeWrite s frame
    | fetchTransaction clocked => exact .takeFetch s clocked
    | badTransaction selector => exact .takeBad s selector
    | secondEvent => exact .takeSecond s
    | minuteBoundary => exact .takeMinuteBoundary s
    | grantExpiry => exact .of_unit (.takeGrantExpiry s)
    | meteringSecond => exact .of_unit (.takeMeteringSecond s)
    | windDownEnd => exact .of_unit (.takeWindDownEnd s)
    | commitIntervalEnd => exact .of_unit (.takeCommitIntervalEnd s)
    | poolWaitTimeout => exact .of_unit (.takePoolWaitTimeout s)
    | windowExpiry => exact .of_unit (.takeWindowExpiry s)
    | lockoutEnd => exact .of_unit (.takeLockoutEnd s)
    | blockWriteBegin => exact .takeNextWrite s
    | eraseComplete interrupted => exact .takeEraseComplete s interrupted
    | programComplete interrupted => exact .takeProgramComplete s interrupted
    | verifyComplete interrupted isMatch => exact .takeVerifyComplete s interrupted isMatch
    | supplyWarning => exact .takeSupplyWarning s
    | supplyClear => exact .of_same
    | storeBlockRead => exact .takeStoreBlockRead s
    | dipBegin | dipEnd _ | fullReset _ _ _ | startUpLoad _ _ => exact .refl s
    | _ => exact absurd rfl code

theorem LinkKept.takeWork (w : DipWork) : LinkKept s (s.takeWork w) := by
  cases w with
  | event i => exact (LinkKept.takeEvent s i).trans .of_same
  | restartWrite => exact .restartWrite s

theorem LinkKept.endDip : LinkKept s s.endDip := by
  obtain ⟨order, n, -, run⟩ := endDip_order s
  have resumed : LinkKept s { s.dipOver with freeCount := n } := .of_same
  rw [run]
  exact (resumed.trans (.foldl LinkKept.takeWork order _)).trans .of_same

end

theorem linkLaw_stepLaw : StepLaw State.LinkLaw where
  pending _ _ := id
  deferred _ _ := id
  dipBegin _ := id
  reset _ _ := ⟨trivial, fun _ => ⟨rfl, rfl⟩⟩
  startUpLoad high millivolts s := by
    unfold takeStartUpLoad
    split <;> exact id
  event i s := ((LinkKept.takeEvent s i).trans .of_same).law
  endDip s := (LinkKept.endDip s).law

/-- Settles O55: outside the link port the response stands, and in a load no write can begin. -/
theorem everyStepKeepsTheLinkLaw : Obligations.EveryStepKeepsTheLinkLaw := linkLaw_stepLaw.keptByEveryStep

end Sys2Proof.Machine
end

section
/-! PROOFS. Marks are set and never cleared (R179), the second counter is the second event's own (R154), and O59. -/

namespace Sys2Proof.Machine

/-! ## Marks -/

/-- Every mark that is set stays set (R179). -/
structure MarksStand (s t : State) : Prop where
  marks : ∀ b : BlockId, s.store.blocks[b].written = true → t.store.blocks[b].written = true

section
variable {s t : State}

theorem MarksStand.of_blocks (blocks : t.store.blocks = s.store.blocks := by exact rfl) : MarksStand s t :=
  ⟨fun b set => by rw [blocks]; exact set⟩

theorem MarksStand.refl (s : State) : MarksStand s s := .of_blocks

theorem MarksStand.trans {u : State} (h : MarksStand s t) (h' : MarksStand t u) : MarksStand s u :=
  ⟨fun b => h'.marks b ∘ h.marks b⟩

theorem MarksStand.of_unit (h : UnitWork s t) : MarksStand s t := by
  obtain ⟨frame, -⟩ := h
  rw [frame]
  exact .of_blocks

theorem MarksStand.of_owner (h : OwnerWork s t) : MarksStand s t := by
  rw [h.frame]
  exact .of_blocks

theorem MarksStand.of_begun (h : WriteBegun s t) : MarksStand s t := ⟨fun b set => (h.marks b).trans set⟩

end

section
variable (s : State)

theorem MarksStand.putContents (b : BlockId) (c : Contents) : MarksStand s (s.putContents b c) :=
  ⟨fun b' set => (putContents_written s b b' c).trans set⟩

theorem MarksStand.takeEraseComplete (interrupted : Bool) : MarksStand s (takeEraseComplete interrupted s) := by
  unfold Machine.takeEraseComplete
  split
  · split
    · exact (MarksStand.putContents ..).trans .of_blocks
    · exact .refl s
  · exact .refl s

theorem MarksStand.takeProgramComplete (interrupted : Bool) : MarksStand s (takeProgramComplete interrupted s) := by
  unfold Machine.takeProgramComplete
  split
  · split
    · exact (MarksStand.putContents ..).trans .of_blocks
    · exact .refl s
  · exact .refl s

/-- A completed write sets its block's mark, and a failed one leaves it (R180, R184). -/
theorem MarksStand.takeVerifyComplete (interrupted isMatch : Bool) :
    MarksStand s (takeVerifyComplete interrupted isMatch s) := by
  have completed : ∀ b, MarksStand s (s.completed b) :=
    fun b => ⟨fun b' set => by rw [completed_written, set]; rfl⟩
  have failed : ∀ w, MarksStand s (s.writeFailed w) :=
    fun w => ⟨fun b' set => (putContents_written s w.block b' (s.failedContents w)).trans set⟩
  unfold Machine.takeVerifyComplete
  split
  · split
    · split
      · exact (completed _).trans (.of_begun (completeWrite_begun ..))
      · split
        · exact .of_begun (.beginErase ..)
        · exact (failed _).trans (.of_begun (failWrite_begun ..))
    · exact .refl s
  · exact .refl s

theorem MarksStand.urgentSave : MarksStand s s.urgentSave := by
  have marked : MarksStand s s.markUrgent := .of_blocks
  unfold State.urgentSave
  split
  · exact marked.trans (.of_begun (.takeNextWrite _))
  · next w _ =>
    split
    · exact marked
    · exact .of_begun (.erase s (withoutBlock_sublist ..) (some ⟨w, false⟩) _)

theorem MarksStand.takeSupplyWarning : MarksStand s (takeSupplyWarning s) := by
  unfold Machine.takeSupplyWarning
  split
  · exact .refl s
  · exact MarksStand.trans (t := s.supplyWarned) .of_blocks (.urgentSave _)

theorem MarksStand.restartWrite : MarksStand s s.restartWrite := by
  unfold State.restartWrite; dsimp only
  split
  · exact .of_begun (.erase s (.refl _) _ _)
  · exact .of_blocks

theorem MarksStand.takeStoreBlockRead : MarksStand s (takeStoreBlockRead s) := by
  have read : ∀ n b, MarksStand s (s.readBlock n b) :=
    fun n b => MarksStand.trans (t := s.reading n) .of_blocks (.of_owner (.handBlock ..))
  have ended : ∀ t : State, MarksStand t t.endLoad := fun t => by
    rw [endLoad_eq]
    exact MarksStand.trans (t := t.loaded) .of_blocks (.of_begun (.takeNextWrite _))
  unfold Machine.takeStoreBlockRead
  split
  · exact .refl s
  · split
    · exact .refl s
    · dsimp only
      split
      · exact (read ..).trans (ended _)
      · exact read ..

end

/-- No row clears a mark. -/
theorem marksStand_rows : RowsRelate MarksStand where
  refl := .refl
  trans := .trans
  link _ _ := .of_blocks
  pins _ := .of_blocks
  draw _ _ := .of_blocks
  command h := .of_unit (.of_command h)
  handed s w := .of_unit (.takeHanded s w)
  grantExpiry s := .of_unit (.takeGrantExpiry s)
  meteringSecond s := .of_unit (.takeMeteringSecond s)
  windDownEnd s := .of_unit (.takeWindDownEnd s)
  commitIntervalEnd s := .of_unit (.takeCommitIntervalEnd s)
  poolWaitTimeout s := .of_unit (.takePoolWaitTimeout s)
  windowExpiry s := .of_unit (.takeWindowExpiry s)
  lockoutEnd s := .of_unit (.takeLockoutEnd s)
  handSecond _ := .of_blocks
  midnight _ := .of_blocks
  quietMidnight s before := .of_unit (.quietMidnight s before)
  nextWrite s := .of_begun (.takeNextWrite s)
  eraseComplete interrupted s := .takeEraseComplete s interrupted
  programComplete interrupted s := .takeProgramComplete s interrupted
  verifyComplete interrupted isMatch s := .takeVerifyComplete s interrupted isMatch
  supplyWarning := .takeSupplyWarning
  supplyClear _ := .of_blocks
  storeBlockRead := .takeStoreBlockRead
  restartWrite := .restartWrite
  dipOver _ := .of_blocks

section
variable {s t : State}

theorem MarksStand.taken (i : Instr) : MarksStand s (s.taken i (takeEvent i)) := by
  unfold State.taken
  split
  · exact .refl s
  · split
    · split <;> exact .of_blocks
    · exact (marksStand_rows.takeEvent i s).trans .of_blocks

/-- Whatever the row, a full reset among them (R179, R192). -/
theorem MarksStand.of_exec {i : Instr} (run : exec i s = .next t) : MarksStand s t := by
  rcases exec_cases run with rfl | rfl | ⟨micros, rfl⟩ | ⟨cause, lvs1, lvs0, rfl⟩ | ⟨high, millivolts, rfl⟩
  · exact .taken i
  · unfold takeDipBegin
    split <;> exact .of_blocks
  · unfold takeDipEnd
    split
    · exact .refl s
    · split
      · exact .of_blocks
      · exact marksStand_rows.endDip s
  · unfold takeFullReset
    split <;> exact .of_blocks
  · unfold takeStartUpLoad
    split <;> exact .of_blocks

theorem MarksStand.of_step (run : step s = .next t) : MarksStand s t := by
  unfold step at run
  split at run
  · cases run; exact .refl s
  · next i rest _ => exact MarksStand.trans (t := { s with pending := rest }) .of_blocks (.of_exec run)

end

/-! ## The second counter -/

/-- The two states stand at the same second (R154). -/
def CounterStands (s t : State) : Prop := t.clock.counter = s.clock.counter

section
variable {s t : State}

theorem CounterStands.of_unit (h : UnitWork s t) : CounterStands s t := by
  obtain ⟨frame, -⟩ := h
  rw [frame]; exact rfl

theorem CounterStands.of_link (h : ∃ link, t = { s with link := link }) : CounterStands s t := by
  obtain ⟨link, rfl⟩ := h
  exact rfl

/-- Whether it is taken, waits or is lost, a row moves the counter only by its effect. -/
theorem CounterStands.taken {effect : State → State} (stands : CounterStands s (effect s)) (i : Instr) :
    CounterStands s (s.taken i effect) := by
  unfold State.taken
  split
  · exact rfl
  · split
    · split <;> exact rfl
    · exact stands

/-- No command moves the counter (R154). -/
theorem takeEvent_counter {i : Instr} (code : (commandCode i).isSome = true) (s : State) :
    CounterStands s (takeEvent i s) := by
  obtain ⟨owner, effect, does⟩ := takeEvent_of_code code
  rw [effect]
  exact command_relates (R := CounterStands) (fun h h' => h'.trans h) (fun _ _ => rfl)
    (fun s => .of_unit (.of_command (does s))) i s

end

/-- Settles O59: no row clears a mark, and the counter is not among what a command or a transaction can write. -/
theorem marksAndCounterStand : Obligations.MarksAndCounterStand := by
  unfold Obligations.MarksAndCounterStand
  refine ⟨fun s t b run set => (MarksStand.of_step run).marks b set, fun i s t code run => ?_,
    fun i s t transaction run => ?_⟩
  · rw [exec_of_code code] at run
    cases run
    exact CounterStands.taken (takeEvent_counter code s) i
  · rcases transaction with ⟨frame, rfl⟩ | ⟨clocked, rfl⟩ | ⟨selector, rfl⟩
    · cases run
      exact CounterStands.taken (.of_link (takeWrite_link frame s)) _
    · cases run
      exact CounterStands.taken (.of_link (takeFetch_link clocked s)) _
    · cases run
      exact CounterStands.taken (.of_link (takeBad_link selector s)) _

end Sys2Proof.Machine
end

section
/-! PROOFS. The machine after reset (R189, R192), and O58. -/

namespace Sys2Proof.Machine

/-- The part from manufacture stands as a full reset leaves it (R179, R192). -/
theorem reset_eq_beginReset : State.reset = State.reset.beginReset State.reset.supply.straps := rfl

/-- Settles O58: every law's base case is that of a full reset. -/
theorem resetMeetsTheLaws : Obligations.ResetMeetsTheLaws := by
  unfold Obligations.ResetMeetsTheLaws
  have base : ∀ {law : State → Prop}, StepLaw law → law State.reset := fun h => by
    rw [reset_eq_beginReset]
    exact h.reset _ _
  obtain ⟨grants, extra, factory⟩ := beginReset_tablesLaw State.reset State.reset.supply.straps
  have guardian := beginReset_guardianLaw State.reset State.reset.supply.straps
  rw [← reset_eq_beginReset] at grants extra factory guardian
  exact ⟨base pinsFollow_stepLaw, base poolLaw_stepLaw, base seatLaw_stepLaw, base queueLaw_stepLaw, guardian,
    base linkLaw_stepLaw, base clockLaw_stepLaw, grants, extra, factory⟩

end Sys2Proof.Machine
end

section
/-! PROOFS. No row touches the queue of waiting rows (assumption 3), and O1. -/

namespace Sys2Proof.Machine

/-- The rows that wait in the two states are the same. -/
def PendingStands (s t : State) : Prop := t.pending = s.pending

theorem PendingStands.of_unit {s t : State} (h : UnitWork s t) : PendingStands s t := by
  obtain ⟨frame, -⟩ := h
  rw [frame]; exact rfl

theorem PendingStands.of_row {s t : State} (h : StoreRow s t) : PendingStands s t := by
  rw [h]; exact rfl

theorem PendingStands.of_owner {s t : State} (h : OwnerWork s t) : PendingStands s t := by
  rw [h.frame]; exact rfl

theorem PendingStands.trans {s t u : State} (h : PendingStands s t) (h' : PendingStands t u) : PendingStands s u :=
  Eq.trans h' h

section
variable (s : State)

/-- Neither the load's reads nor its end (R193, R194). -/
theorem PendingStands.takeStoreBlockRead : PendingStands s (takeStoreBlockRead s) := by
  have read : ∀ n b, PendingStands s (s.readBlock n b) :=
    fun n b => PendingStands.trans (t := s.reading n) rfl (.of_owner (.handBlock ..))
  have ended : ∀ t : State, PendingStands t t.endLoad := fun t => by
    rw [endLoad_eq]
    exact PendingStands.trans (t := t.loaded) rfl (.of_row (.of_work (.takeNextWrite _)))
  unfold Machine.takeStoreBlockRead
  split
  · exact rfl
  · split
    · exact rfl
    · dsimp only
      split
      · exact (read ..).trans (ended _)
      · exact read ..

end

/-- No row's effect reads or writes the queue. -/
theorem pendingStands_rows : RowsRelate PendingStands where
  refl _ := rfl
  trans := .trans
  link _ _ := rfl
  pins _ := rfl
  draw _ _ := rfl
  command h := .of_unit (.of_command h)
  handed s w := .of_unit (.takeHanded s w)
  grantExpiry s := .of_unit (.takeGrantExpiry s)
  meteringSecond s := .of_unit (.takeMeteringSecond s)
  windDownEnd s := .of_unit (.takeWindDownEnd s)
  commitIntervalEnd s := .of_unit (.takeCommitIntervalEnd s)
  poolWaitTimeout s := .of_unit (.takePoolWaitTimeout s)
  windowExpiry s := .of_unit (.takeWindowExpiry s)
  lockoutEnd s := .of_unit (.takeLockoutEnd s)
  handSecond _ := rfl
  midnight _ := rfl
  quietMidnight s before := .of_unit (.quietMidnight s before)
  nextWrite s := .of_row (.of_work (.takeNextWrite s))
  eraseComplete interrupted s := .of_row (takeEraseComplete_row interrupted s)
  programComplete interrupted s := .of_row (takeProgramComplete_row interrupted s)
  verifyComplete interrupted isMatch s := .of_row (takeVerifyComplete_row interrupted isMatch s)
  supplyWarning s := .of_row (takeSupplyWarning_row s)
  supplyClear _ := rfl
  storeBlockRead := .takeStoreBlockRead
  restartWrite s := .of_row (restartWrite_row s)
  dipOver _ := rfl

theorem PendingStands.taken (i : Instr) (s : State) : PendingStands s (s.taken i (takeEvent i)) := by
  unfold State.taken
  split
  · exact rfl
  · split
    · split <;> exact rfl
    · exact (pendingStands_rows.takeEvent i s).trans rfl

/-- Whatever the row, a full reset among them (R192). -/
theorem PendingStands.of_exec {i : Instr} {s t : State} (run : exec i s = .next t) : PendingStands s t := by
  rcases exec_cases run with rfl | rfl | ⟨micros, rfl⟩ | ⟨cause, lvs1, lvs0, rfl⟩ | ⟨high, millivolts, rfl⟩
  · exact .taken i s
  · unfold takeDipBegin
    split <;> exact rfl
  · unfold takeDipEnd
    split
    · exact rfl
    · split
      · exact rfl
      · exact pendingStands_rows.endDip s
  · unfold takeFullReset
    split <;> exact rfl
  · unfold takeStartUpLoad
    split <;> exact rfl

/-- Settles O1: a step is `exec` of the front row by definition, and no row's effect touches the queue. -/
theorem stepTakesTheFrontCommand : Obligations.StepTakesTheFrontCommand := by
  unfold Obligations.StepTakesTheFrontCommand
  exact ⟨fun _ _ _ => rfl, fun _ _ _ run => PendingStands.of_exec run⟩

end Sys2Proof.Machine
end

section
/-! PROOFS. What a WRITE meets in each link state (R198, R201), and O4. -/

namespace Sys2Proof.Machine

section
variable {s : State} {f : List Byte}

theorem takeWrite_executing {c : Instr} (busy : s.link.state = .executing c) :
    takeWrite f s =
      { s with link := { s.link with miso := [], flags := { s.link.flags with collision := true } } } := by
  simp only [takeWrite, busy]

/-- In every other link state the frame is checked, and a sound one is dispatched (R197, R198). -/
theorem takeWrite_command (free : ∀ c, s.link.state ≠ .executing c) {i : Instr} (checked : checkFrame f = .command i) :
    takeWrite f s = State.dispatch i { s with link.miso := [] } := by
  unfold takeWrite; dsimp only
  split
  · next c busy => exact absurd busy (free c)
  · rw [checked]

/-- A frame that does not pass its check is refused (R197, R198). -/
theorem takeWrite_refused (free : ∀ c, s.link.state ≠ .executing c) {status : Status} {code : Byte}
    (checked : (checkFrame f = .badFrame code ∧ status = .badFrame)
      ∨ (checkFrame f = .unknown code ∧ status = .unknownCommand)) :
    takeWrite f s = State.refuseFrame status code { s with link.miso := [] } := by
  unfold takeWrite; dsimp only
  split
  · next c busy => exact absurd busy (free c)
  · rcases checked with ⟨bad, rfl⟩ | ⟨unknown, rfl⟩
    · rw [bad]
    · rw [unknown]

theorem dispatch_ready (ready : s.link.state = .ready) (i : Instr) :
    State.dispatch i s = { s with link := { s.link with state := .executing i } } := by
  simp only [State.dispatch, ready]

/-- The link port takes the command, and a held response is lost (R198). -/
theorem dispatch_answered (answered : s.link.state = .answered) (i : Instr) : State.dispatch i s = { s with link :=
    { s.link with
      state := .executing i
      buffer := none
      flags := { s.link.flags with responseLost := s.link.flags.responseLost || s.link.buffer.isSome } } } := by
  unfold State.dispatch State.discardHeld
  rw [answered]
  dsimp only
  split
  · next none => simp only [none, Option.isSome_none, Bool.or_false]
  · next held => simp only [held, Option.isSome_some, Bool.or_true]

theorem refuseFrame_ready (ready : s.link.state = .ready) (status : Status) (code : Byte) :
    s.refuseFrame status code =
      { s with link := { s.link with state := .answered, buffer := some ⟨status, code, []⟩ } } := by
  simp only [State.refuseFrame, ready, State.hold]

theorem refuseFrame_other (other : s.link.state ≠ .ready) (status : Status) (code : Byte) :
    s.refuseFrame status code = s.discardHeld.hold ⟨status, code, []⟩ := by
  unfold State.refuseFrame
  split
  · next ready => exact absurd ready other
  · rfl

/-- What a WRITE leaves of the link is what its row leaves of the part. -/
theorem exec_write (awake : s.Awake) {l : Link} (met : takeWrite f s = { s with link := l }) :
    exec (.writeTransaction f) s = .next (State.drivePins { s with link := l }) := by
  rw [exec_of_effect awake rfl, met]

end

/-- Settles O4: EXECUTING drops the frame unchecked, and in the other link states its check decides. -/
theorem writesMeetTheLinkState : Obligations.WritesMeetTheLinkState := by
  unfold Obligations.WritesMeetTheLinkState
  refine fun f s awake => ⟨fun c busy => exec_write awake (takeWrite_executing busy),
    fun i checked => ⟨fun ready => exec_write awake ?_, fun answered => exec_write awake ?_,
      fun loading => exec_write awake ?_⟩,
    fun status code checked => ⟨fun ready => exec_write awake ?_, fun answered => exec_write awake ?_,
      fun loading => exec_write awake ?_⟩⟩
  · rw [takeWrite_command (by rw [ready]; nofun) checked]
    exact dispatch_ready (s := { s with link.miso := [] }) ready i
  · rw [takeWrite_command (by rw [answered]; nofun) checked]
    exact dispatch_answered (s := { s with link.miso := [] }) answered i
  · rw [takeWrite_command (by rw [loading]; nofun) checked, State.dispatch]
    simp only [loading, discardHeld_hold]
  · rw [takeWrite_refused (by rw [ready]; nofun) checked]
    exact refuseFrame_ready (s := { s with link.miso := [] }) ready status code
  · rw [takeWrite_refused (by rw [answered]; nofun) checked, refuseFrame_other (by simp [answered]), discardHeld_hold]
    simp only [answered]
  · rw [takeWrite_refused (by rw [loading]; nofun) checked, refuseFrame_other (by simp [loading]), discardHeld_hold]
    simp only [loading]

end Sys2Proof.Machine
end

section
/-! PROOFS. What a FETCH delivers (R196, R200, R201, 11.6), the other selectors (R196), and O5. -/

namespace Sys2Proof.Machine

section
variable {s : State}

theorem fetched_executing {i : Instr} (busy : s.link.state = .executing i) : s.fetched = ⟨.nothing, codeOf i, []⟩ := by
  simp only [State.fetched, busy]

theorem fetched_other (free : ∀ i, s.link.state ≠ .executing i) :
    s.fetched = s.link.buffer.getD ⟨.nothing, 0, []⟩ := by
  unfold State.fetched
  split
  · next i busy => exact absurd busy (free i)
  · rfl

theorem responseFrame_length (r : Response) (flags : LinkFlags) :
    (responseFrame r flags).length = 6 + r.payload.length := by
  simp only [responseFrame, be2, List.length_append, List.length_cons, List.length_nil]
  omega

/-- All that a complete delivery does (R200). -/
theorem delivered_eq (s : State) : s.delivered = { s with link := { s.link with
    state := if s.link.state = .answered then .ready else s.link.state
    buffer := if s.link.state = .answered ∨ s.link.state = .loading then none else s.link.buffer
    flags := .clear } } := by
  unfold State.delivered
  split
  · next answered => simp [answered]
  · next loading => simp [loading]
  · next answered loading => rw [if_neg answered, if_neg (not_or.mpr ⟨answered, loading⟩)]

/-- The whole frame is clocked out, and 0x00 after it (R196, R200). -/
theorem takeFetch_complete {n : Nat} (whole : (responseFrame s.fetched s.link.flags).length ≤ n) :
    takeFetch n s = State.delivered { s with
      link.miso := responseFrame s.fetched s.link.flags
        ++ List.replicate (n - (responseFrame s.fetched s.link.flags).length) 0 } := by
  rw [takeFetch, if_pos whole, List.take_of_length_le whole]

/-- A delivery that is cut leaves the response held (R200). -/
theorem takeFetch_cut {n : Nat} (cut : n < (responseFrame s.fetched s.link.flags).length) :
    takeFetch n s = { s with link.miso := (responseFrame s.fetched s.link.flags).take n } := by
  rw [takeFetch, if_neg (Nat.not_le.mpr cut), Nat.sub_eq_zero_of_le cut.le, List.replicate_zero, List.append_nil]

end

/-- The flags byte is the sum of the weights of the flags that are set (11.6). -/
theorem flagsByte_eq (f : LinkFlags) : f.byte = BitVec.ofNat 8 ((if f.responseLost then 1 else 0)
    + (if f.collision then 2 else 0) + (if f.badTransaction then 4 else 0)) := by
  obtain ⟨lost, collision, bad⟩ := f
  revert lost collision bad
  decide

/-- Settles O5: the frame's length decides whether the delivery is complete. -/
theorem fetchesDeliverTheFrame : Obligations.FetchesDeliverTheFrame := by
  unfold Obligations.FetchesDeliverTheFrame
  refine ⟨fun n s awake => ⟨fun i => fetched_executing, fetched_other, ?_, ?_, fun whole => ?_, fun cut => ?_⟩,
    fun sel s awake notWrite notFetch => ?_, fun s awake => exec_of_effect awake (effect := takeBad none) rfl, rfl⟩
  · rw [← flagsByte_eq]
    rfl
  · exact responseFrame_length ..
  · rw [exec_of_effect awake rfl, takeFetch_complete whole, delivered_eq]
  · rw [exec_of_effect awake rfl, takeFetch_cut cut]
  · rw [exec_of_effect awake rfl, takeBad]
    simp only [if_neg notWrite, if_neg notFetch]

end Sys2Proof.Machine
end

section
/-! PROOFS. Payloads that do not fit their fields (R197), **describe** and **notices** (R204, R205), and O8, O9 and
O10. -/

namespace Sys2Proof.Machine

/-! ## Misfits -/

/-- The edit buffer is looked for before the fields (R27, assumption 11). -/
theorem eset_misfit {s : State} (edited : s.edit.isSome = true) : eset .misfit s = (s, refuse .badArgument) := by
  obtain ⟨b, edit⟩ := Option.isSome_iff_exists.mp edited
  rw [eset, edit]
  rfl

theorem ecommit_misfit {s : State} (edited : s.edit.isSome = true) : ecommit .misfit s = (s, refuse .badArgument) := by
  obtain ⟨b, edit⟩ := Option.isSome_iff_exists.mp edited
  rw [ecommit, edit]
  rfl

/-- Settles O8: past the checks of state that come before it, the look at the fields is every owner's first. -/
theorem misfitPayloadsAreRefused : Obligations.MisfitPayloadsAreRefused := by
  unfold Obligations.MisfitPayloadsAreRefused
  intro i s isOne h isOpen edited
  cases i with
  | eopen req | retire req | topup req | gadd req | grevoke req | repin req | hset req =>
    cases req with
    | fields a => cases isOne
    | misfit => exact exec_of_owner h rfl (guarded_open (isOpen rfl) _)
  | eset req =>
    cases req with
    | fields a => cases isOne
    | misfit => exact exec_of_owner h rfl (eset_misfit (edited (.inl rfl)))
  | ecommit req =>
    cases req with
    | fields a => cases isOne
    | misfit => exact exec_of_owner h rfl (ecommit_misfit (edited (.inr rfl)))
  | sload req | sclr req | slock req | sread req | edrop req | pread req | lookup req | join req | leave req
  | vacate req | play req | endp req | sstat req | preview req | mread req | pool req | gread req | clkset req
  | clkread req | pin req | close req | hread req | store req | retry req | describe req | notices req
  | restart req =>
    cases req with
    | fields a => cases isOne
    | misfit => exact exec_of_owner h rfl rfl
  | _ => cases isOne

/-! ## describe and notices -/

/-- Settles O9: the owner answers the record, and the link port answers for it while the load runs. -/
theorem describeAnswersTheRecord : Obligations.DescribeAnswersTheRecord := by
  unfold Obligations.DescribeAnswersTheRecord
  refine fun s => ⟨fun handed => exec_of_owner handed rfl rfl, fun awake loading => ?_⟩
  exact ⟨_, commandsInTheLoadAnswerStarting _ _ s awake loading rfl, rfl, loading⟩

/-- A held response keeps ATTN low (R202). -/
theorem replied_attn {s : State} {i : Instr} (h : s.Handed i) (status : Status) (payload : List Byte) :
    (s.replied i status payload).pins.attn = true := by
  obtain ⟨⟨running, -⟩, -⟩ := h
  simp [State.replied, State.pinsOf, State.attnCondition, running]

/-- Settles O10: the set is answered as it stands and emptied; the load's STARTING leaves it. -/
theorem noticesAnswersAndEmpties : Obligations.NoticesAnswersAndEmpties := by
  unfold Obligations.NoticesAnswersAndEmpties
  refine fun s => ⟨fun handed => ⟨_, exec_of_owner handed rfl rfl, rfl, ?_⟩, fun awake loading => ?_⟩
  · exact replied_attn (s := { s with notices := 0 }) handed _ _
  · exact ⟨_, commandsInTheLoadAnswerStarting _ _ s awake loading rfl, rfl, rfl⟩

end Sys2Proof.Machine
end

section
/-! SUPPORT. The payload of every command is put together and taken apart by one table (11.6): the bytes of a field,
the fields of a payload, and the commands of the codes. -/

namespace Sys2Proof

open Machine

/-! ## The bytes of a field -/

@[simp] theorem byteOf_byte (b : Byte) : byteOf b 0 = b := BitVec.extractLsb'_eq_self

@[simp] theorem byteOf_append_zero {n : Nat} (hi : BitVec n) (lo : Byte) : byteOf (hi ++ lo) 0 = lo :=
  BitVec.extractLsb'_append_eq_right

@[simp] theorem byteOf_append_succ {n : Nat} (hi : BitVec n) (lo : Byte) (i : Nat) [NeZero i] :
    byteOf (hi ++ lo) i = byteOf hi (i - 1) := by
  have pos : 0 < i := Nat.pos_of_neZero i
  rw [byteOf, byteOf, BitVec.extractLsb'_append_eq_of_le (by omega), Nat.mul_sub]

theorem halfBytes_half (a b : Byte) : halfBytes (half a b) = [a, b] := by
  simp only [halfBytes, half, byteOf_append_zero, byteOf_append_succ, byteOf_byte, Nat.sub_self]

theorem wordBytes_word (a b c d : Byte) : wordBytes (word a b c d) = [a, b, c, d] := by
  simp [wordBytes, word]

theorem valueBytes_sixBytes (a b c d e f : Byte) : valueBytes (sixBytes a b c d e f) = [a, b, c, d, e, f] := by
  simp [valueBytes, sixBytes]

/-- A run of a field's bytes and the byte below it. -/
theorem extractLsb'_append_byteOf {n : Nat} (w : BitVec n) {i j : Nat} (next : j = i + 1) (len : Nat) :
    w.extractLsb' (8 * j) len ++ byteOf w i = w.extractLsb' (8 * i) (len + 8) := by
  rw [byteOf, BitVec.extractLsb'_append_extractLsb'_eq_extractLsb' (by omega)]

theorem half_byteOf (w : Half) : half (byteOf w 1) (byteOf w 0) = w := by
  rw [half, byteOf, extractLsb'_append_byteOf w rfl]
  exact BitVec.extractLsb'_eq_self

theorem word_byteOf (w : Word) : word (byteOf w 3) (byteOf w 2) (byteOf w 1) (byteOf w 0) = w := by
  rw [word, byteOf, extractLsb'_append_byteOf w rfl, extractLsb'_append_byteOf w rfl, extractLsb'_append_byteOf w rfl]
  exact BitVec.extractLsb'_eq_self

theorem sixBytes_byteOf (w : BitVec 48) : sixBytes (byteOf w 5) (byteOf w 4) (byteOf w 3) (byteOf w 2) (byteOf w 1)
    (byteOf w 0) = w := by
  rw [sixBytes, byteOf, extractLsb'_append_byteOf w rfl, extractLsb'_append_byteOf w rfl,
    extractLsb'_append_byteOf w rfl, extractLsb'_append_byteOf w rfl, extractLsb'_append_byteOf w rfl]
  exact BitVec.extractLsb'_eq_self

/-! ## The fields of a payload -/

/-- The payload takes the fields as `enc` puts them down, exactly where its length fits them (R197). -/
structure Carries {α : Type} (enc : α → List Byte) (dec : List Byte → Req α) (fits : Nat → Prop) : Prop where
  fields : ∀ p, fits p.length → ∃ a, dec p = .fields a ∧ enc a = p
  misfit : ∀ p, ¬ fits p.length → dec p = .misfit
  again : ∀ a, fits (enc a).length → dec (enc a) = .fields a

theorem carriesNone : Carries (fun _ => []) decodeNone (· = 0) where
  fields | [], _ => ⟨(), rfl, rfl⟩
  misfit p other := by unfold decodeNone; split; exacts [absurd rfl other, rfl]
  again _ _ := rfl

theorem carriesByte : Carries (fun b => [b]) decodeByte (· = 1) where
  fields | [b], _ => ⟨b, rfl, rfl⟩
  misfit p other := by unfold decodeByte; split; exacts [absurd rfl other, rfl]
  again _ _ := rfl

theorem carriesHalf : Carries halfBytes decodeHalf (· = 2) where
  fields | [a, b], _ => ⟨_, rfl, halfBytes_half a b⟩
  misfit p other := by unfold decodeHalf; split; exacts [absurd rfl other, rfl]
  again w _ := congrArg Req.fields (half_byteOf w)

theorem carriesWord : Carries wordBytes decodeWord (· = 4) where
  fields | [a, b, c, d], _ => ⟨_, rfl, wordBytes_word a b c d⟩
  misfit p other := by unfold decodeWord; split; exacts [absurd rfl other, rfl]
  again w _ := congrArg Req.fields (word_byteOf w)

/-- The map levels are whatever follows the fixed fields (R197). -/
theorem carriesSload :
    Carries (fun a : SloadArgs => a.slot :: halfBytes a.tag ++ a.n :: a.levels) decodeSload (4 ≤ ·) where
  fields | s :: t1 :: t0 :: n :: levels, _ => ⟨_, rfl, by simp [halfBytes_half]⟩
  misfit p other := by unfold decodeSload; split; exacts [absurd (Nat.le_add_left ..) other, rfl]
  again a _ := by simp [decodeSload, halfBytes, half_byteOf]

theorem carriesEopen : Carries (fun a : EopenArgs => [a.slot, a.mode, a.kind]) decodeEopen (· = 3) where
  fields | [s, m, k], _ => ⟨⟨s, m, k⟩, rfl, rfl⟩
  misfit p other := by unfold decodeEopen; split; exacts [absurd rfl other, rfl]
  again _ _ := rfl

theorem carriesEset : Carries (fun a : EsetArgs => a.field :: valueBytes a.value) decodeEset (· = 7) where
  fields | [f, a, b, c, d, e, g], _ => ⟨_, rfl, by simp [valueBytes_sixBytes]⟩
  misfit p other := by unfold decodeEset; split; exacts [absurd rfl other, rfl]
  again a _ := by simp [decodeEset, valueBytes, sixBytes_byteOf]

theorem carriesJoin : Carries (fun a : JoinArgs => a.seat :: wordBytes a.token) decodeJoin (· = 5) where
  fields | [s, a, b, c, d], _ => ⟨_, rfl, by simp [wordBytes_word]⟩
  misfit p other := by unfold decodeJoin; split; exacts [absurd rfl other, rfl]
  again a _ := by simp [decodeJoin, wordBytes, word_byteOf]

theorem carriesLeave : Carries (fun a : LeaveArgs => a.seat :: a.form :: wordBytes a.target) decodeLeave (· = 6) where
  fields | [s, f, a, b, c, d], _ => ⟨_, rfl, by simp [wordBytes_word]⟩
  misfit p other := by unfold decodeLeave; split; exacts [absurd rfl other, rfl]
  again a _ := by simp [decodeLeave, wordBytes, word_byteOf]

theorem carriesPlay : Carries (fun a : PlayArgs => a.seat :: descriptorBytes a.programme) decodePlay (· = 11) where
  fields
    | [s, sch, rat, ds, cat, a, b, c, d, u1, u0], _ =>
      ⟨_, rfl, by simp [descriptorBytes, halfBytes_half, wordBytes_word]⟩
  misfit p other := by unfold decodePlay; split; exacts [absurd rfl other, rfl]
  again a _ := by simp [decodePlay, descriptorBytes, wordBytes, halfBytes, word_byteOf, half_byteOf]

theorem carriesPreview : Carries
    (fun a : PreviewArgs => a.form :: wordBytes a.target ++ descriptorBytes a.programme ++ [a.coview]) decodePreview
    (· = 16) where
  fields
    | [f, t3, t2, t1, t0, sch, rat, ds, cat, a, b, c, d, u1, u0, co], _ =>
      ⟨_, rfl, by simp [descriptorBytes, halfBytes_half, wordBytes_word]⟩
  misfit p other := by unfold decodePreview; split; exacts [absurd rfl other, rfl]
  again a _ := by simp [decodePreview, descriptorBytes, wordBytes, halfBytes, word_byteOf, half_byteOf]

theorem carriesGadd : Carries (fun a : GaddArgs => a.slot :: a.kind :: wordBytes a.content ++ [a.metered]
    ++ halfBytes a.minutes ++ halfBytes a.expiryDay ++ halfBytes a.expiryMinute) decodeGadd (· = 13) where
  fields
    | [s, k, a, b, c, d, m, x1, x0, d1, d0, e1, e0], _ => ⟨_, rfl, by simp [halfBytes_half, wordBytes_word]⟩
  misfit p other := by unfold decodeGadd; split; exacts [absurd rfl other, rfl]
  again a _ := by simp [decodeGadd, wordBytes, halfBytes, word_byteOf, half_byteOf]

theorem carriesClkset :
    Carries (fun a : ClksetArgs => halfBytes a.day ++ wordBytes a.second ++ [a.weekday]) decodeClkset (· = 7) where
  fields | [d1, d0, a, b, c, d, w], _ => ⟨_, rfl, by simp [halfBytes_half, wordBytes_word]⟩
  misfit p other := by unfold decodeClkset; split; exacts [absurd rfl other, rfl]
  again a _ := by simp [decodeClkset, wordBytes, halfBytes, word_byteOf, half_byteOf]

/-- The digit bytes are eight, whatever the count says (11.6). -/
theorem carriesPin : Carries (fun a : PinArgs => a.count :: a.digits) decodePin (· = 9) where
  fields | [n, a, b, c, d, e, f, g, h], _ => ⟨⟨n, [a, b, c, d, e, f, g, h]⟩, rfl, rfl⟩
  misfit p other := by unfold decodePin; split; exacts [absurd rfl other, rfl]
  again | ⟨_, [_, _, _, _, _, _, _, _]⟩, _ => rfl

theorem carriesHset : Carries (fun a : HsetArgs => a.mask :: wordBytes a.groups ++ wordBytes a.tiers
    ++ halfBytes a.poolSize ++ halfBytes a.windowLength) decodeHset (· = 13) where
  fields
    | [m, g3, g2, g1, g0, t3, t2, t1, t0, s1, s0, l1, l0], _ => ⟨_, rfl, by simp [halfBytes_half, wordBytes_word]⟩
  misfit p other := by unfold decodeHset; split; exacts [absurd rfl other, rfl]
  again a _ := by simp [decodeHset, wordBytes, halfBytes, word_byteOf, half_byteOf]

/-! ## The commands of the codes -/

/-- The lengths that a payload may have: that of the fields, and for **sload** (0x10) any above it (R197). -/
abbrev Fits (code : Byte) (width length : Nat) : Prop := length = width ∨ (code = 0x10 ∧ width ≤ length)

/-- The command stands in the table of 11.6 under this code, with fields of this width. -/
structure Tabled (i : Instr) (code : Byte) (width : Nat) : Prop where
  listed : (code.toNat, width) ∈ requestWidths
  named : ∀ p, ∃ j, decodeCommand code p = some j
    ∧ encodePayload j = if Fits code width p.length then some p else none
  again : i.wellFormed = true → ∀ p, encodePayload i = some p → p.length ≤ 56 ∧ decodeCommand code p = some i

section
variable {α : Type} {enc : α → List Byte} {dec : List Byte → Req α}

/-- A payload that the table takes apart is put together again, and one that does not fit has no bytes (R197). -/
theorem Carries.reqBytes {fits : Nat → Prop} [DecidablePred fits] (h : Carries enc dec fits) (p : List Byte) :
    reqBytes enc (dec p) = if fits p.length then some p else none := by
  split
  · next fit =>
    obtain ⟨a, taken, put⟩ := h.fields p fit
    rw [taken, ← put]; rfl
  · next other => rw [h.misfit p other]; rfl

variable {mk : Req α → Instr} {code : Byte} {width : Nat} {req : Req α}

/-- A command, from how its payload carries its fields. -/
theorem Tabled.of_carries (h : Carries enc dec (Fits code width))
    (formed : ∀ a, (mk (.fields a)).wellFormed = true → Fits code width (enc a).length ∧ (enc a).length ≤ 56)
    (listed : (code.toNat, width) ∈ requestWidths)
    (decodes : ∀ p, decodeCommand code p = some (mk (dec p)))
    (encodes : ∀ req, encodePayload (mk req) = reqBytes enc req) : Tabled (mk req) code width where
  listed := listed
  named p := ⟨_, decodes p, (encodes _).trans (h.reqBytes p)⟩
  again isFormed p put := by
    rw [encodes] at put
    cases req with
    | misfit => cases put
    | fields a =>
      cases put
      obtain ⟨fit, short⟩ := formed a isFormed
      exact ⟨short, (decodes _).trans (congrArg (some ∘ mk) (h.again a fit))⟩

/-- A command whose fields have one width. -/
theorem Tabled.of_exact (h : Carries enc dec (· = width))
    (formed : ∀ a, (mk (.fields a)).wellFormed = true → (enc a).length = width := by exact fun _ _ => rfl)
    (listed : (code.toNat, width) ∈ requestWidths := by decide)
    (fixed : code ≠ 0x10 := by decide) (short : width ≤ 56 := by decide)
    (decodes : ∀ p, decodeCommand code p = some (mk (dec p)) := by exact fun _ => rfl)
    (encodes : ∀ req, encodePayload (mk req) = reqBytes enc req := by exact fun _ => rfl) :
    Tabled (mk req) code width := by
  have fits : Fits code width = (· = width) :=
    funext fun n => propext (or_iff_left fun ⟨is, _⟩ => fixed is)
  exact .of_carries (fits ▸ h) (fun a isFormed => ⟨.inl (formed a isFormed), formed a isFormed ▸ short⟩) listed decodes
    encodes

end

/-- Every command stands in the table (11.6). -/
theorem tabled_of_code {i : Instr} {code : Byte} (coded : commandCode i = some code) :
    ∃ width, Tabled i code width := by
  cases i with
  | sload req =>
    cases coded
    have fits : Fits 0x10 4 = (4 ≤ ·) :=
      funext fun n => propext ⟨fun h => h.elim (·.ge) And.right, fun h => .inr ⟨rfl, h⟩⟩
    refine ⟨4, .of_carries (mk := .sload) (fits ▸ carriesSload) (fun a formed => ?_) (by decide) (fun _ => rfl)
      fun _ => rfl⟩
    exact ⟨.inr ⟨rfl, Nat.le_add_left ..⟩, of_decide_eq_true formed⟩
  | sclr req | slock req | sread req | pread req | retire req | vacate req | endp req | sstat req | mread req
  | grevoke req | gread req => cases coded; exact ⟨1, .of_exact carriesByte⟩
  | ecommit req | edrop req | pool req | clkread req | close req | hread req | store req | retry req | describe req
  | notices req | restart req => cases coded; exact ⟨0, .of_exact carriesNone⟩
  | eopen req => cases coded; exact ⟨3, .of_exact carriesEopen⟩
  | eset req => cases coded; exact ⟨7, .of_exact carriesEset⟩
  | lookup req => cases coded; exact ⟨4, .of_exact carriesWord⟩
  | join req => cases coded; exact ⟨5, .of_exact carriesJoin⟩
  | leave req => cases coded; exact ⟨6, .of_exact carriesLeave⟩
  | play req => cases coded; exact ⟨11, .of_exact carriesPlay⟩
  | preview req => cases coded; exact ⟨16, .of_exact carriesPreview⟩
  | topup req => cases coded; exact ⟨2, .of_exact carriesHalf⟩
  | gadd req => cases coded; exact ⟨13, .of_exact carriesGadd⟩
  | clkset req => cases coded; exact ⟨7, .of_exact carriesClkset⟩
  | pin req | repin req =>
    cases coded
    exact ⟨9, .of_exact carriesPin fun a formed => congrArg Nat.succ (of_decide_eq_true formed)⟩
  | hset req => cases coded; exact ⟨13, .of_exact carriesHset⟩
  | _ => cases coded

/-- The command of a code and a payload has that code (R197). -/
theorem commandCode_of_decode {code : Byte} {p : List Byte} {i : Instr} (named : decodeCommand code p = some i) :
    commandCode i = some code := by
  unfold decodeCommand at named
  split at named <;> cases named
  all_goals exact congrArg some (BitVec.eq_of_toNat_eq (Eq.symm ‹code.toNat = _›))

/-- Each code stands once in the table. -/
theorem requestWidths_unique {code width width' : Nat} (h : (code, width) ∈ requestWidths)
    (h' : (code, width') ∈ requestWidths) : width = width' :=
  congrArg Prod.snd (List.inj_on_of_nodup_map (f := Prod.fst) (by decide) h h' rfl)

/-- A code of the table names a command whatever the payload is, and its fields are the payload where it fits them
(R197). -/
theorem decode_of_listed {code : Byte} {width : Nat} (listed : (code.toNat, width) ∈ requestWidths) (p : List Byte) :
    ∃ i, decodeCommand code p = some i ∧ commandCode i = some code
      ∧ encodePayload i = if Fits code width p.length then some p else none := by
  have known : ∀ row ∈ requestWidths, (decodeCommand (BitVec.ofNat 8 row.1) []).isSome = true := by decide
  obtain ⟨i, named⟩ := Option.isSome_iff_exists.mp (known _ listed)
  rw [BitVec.ofNat_toNat, BitVec.setWidth_eq] at named
  obtain ⟨width', tabled⟩ := tabled_of_code (commandCode_of_decode named)
  cases requestWidths_unique listed tabled.listed
  obtain ⟨j, isNamed, put⟩ := tabled.named p
  exact ⟨j, isNamed, commandCode_of_decode isNamed, put⟩

/-- A code outside the table names none (R197). -/
theorem decode_of_unlisted {code : Byte} (unlisted : ∀ width, (code.toNat, width) ∉ requestWidths) (p : List Byte) :
    decodeCommand code p = none := by
  refine Option.eq_none_iff_forall_ne_some.mpr fun i named => ?_
  obtain ⟨width, tabled⟩ := tabled_of_code (commandCode_of_decode named)
  exact unlisted width tabled.listed

end Sys2Proof
end

section
/-! PROOFS. The bits on MOSI (R196), the CRC-8 bit by bit and the check of a frame (R197), and O3. -/

namespace Sys2Proof.Machine

/-! ## MOSI -/

/-- A byte is its eight bits, most significant first. -/
theorem mosiBytes_byte (b : Byte) (bits : List Bool) :
    mosiBytes ((List.range 8).map (fun i => b.getMsbD i) ++ bits) = b :: mosiBytes bits := by
  refine congrArg (· :: mosiBytes bits) (BitVec.eq_of_getMsbD_eq fun i h => ?_)
  rw [BitVec.getMsbD_ofBoolListBE]
  match i, h with
  | 0, _ | 1, _ | 2, _ | 3, _ | 4, _ | 5, _ | 6, _ | 7, _ => rfl

theorem mosiBytes_short {bits : List Bool} (short : bits.length < 8) : mosiBytes bits = [] := by
  unfold mosiBytes
  split
  · exact absurd short (by simp)
  · rfl

/-- MOSI carries the bytes, and what is left over is no byte (R196). -/
theorem mosiBytes_mosiBits (bytes : List Byte) {left : List Bool} (short : left.length < 8) :
    mosiBytes (mosiBits bytes ++ left) = bytes := by
  induction bytes with
  | nil => exact mosiBytes_short short
  | cons b bytes ih =>
    rw [mosiBits, List.flatMap_cons, List.append_assoc, mosiBytes_byte]
    exact congrArg (b :: ·) ih

/-! ## The CRC-8 -/

/-- The register with the byte added in keeps what is left of the byte beside the CRC so far. -/
theorem iterate_crcBit_byte (c b : Byte) {n : Nat} (inByte : n ≤ 8) :
    (crcBit 7)^[n] (c ^^^ b) = crcAfter 7 c b n ^^^ (b <<< n) := by
  induction n with
  | zero => simp [crcAfter]
  | succ n ih =>
    have top : (b <<< n).msb = b.getMsbD n := by
      rw [BitVec.msb_eq_getMsbD_zero, BitVec.getMsbD_shiftLeft, Nat.zero_add]
    rw [Function.iterate_succ_apply', ih (Nat.le_of_succ_le inByte), crcBit_xor, top, ← BitVec.shiftLeft_add,
      crcAfter_succ]

/-- The CRC-8 takes a byte as it takes its bits (R197). -/
theorem crc8Byte_eq (c b : Byte) : crc8Byte c b = serialCrc 0x07 c b := by
  have out : b <<< 8 = 0#8 := BitVec.shiftLeft_eq_zero le_rfl
  calc crc8Byte c b
    _ = (crcBit 7)^[8] (c ^^^ b) := rfl
    _ = serialCrc 0x07 c b ^^^ (b <<< 8) := iterate_crcBit_byte c b le_rfl
    _ = serialCrc 0x07 c b := by rw [out, BitVec.xor_zero]

/-! ## The check of a frame -/

/-- The bytes between the length byte and the CRC-8, as many as the length byte says (11.6). -/
def framePayload (f : List Byte) : List Byte := (f.drop 2).take (f[1]?.getD 0).toNat

/-- A frame without the faults of R197. -/
def FrameSound (f : List Byte) : Prop :=
  2 ≤ f.length ∧ (f[1]?.getD 0).toNat ≤ 56 ∧ f.length = (f[1]?.getD 0).toNat + 3
    ∧ f.getLast? = some (crc8 f.dropLast)

theorem frameSound_cons_iff (code len : Byte) (rest : List Byte) : FrameSound (code :: len :: rest) ↔
    len.toNat ≤ 56 ∧ rest.length = len.toNat + 1
      ∧ rest.getLast? = some (crc8 (code :: len :: rest.take len.toNat)) := by
  have count : rest.length + 1 + 1 = len.toNat + 3 ↔ rest.length = len.toNat + 1 := by omega
  show 2 ≤ rest.length + 1 + 1 ∧ len.toNat ≤ 56 ∧ rest.length + 1 + 1 = len.toNat + 3
    ∧ (code :: len :: rest).getLast? = some (crc8 (code :: len :: rest).dropLast) ↔ _
  rw [count, and_iff_right (Nat.le_add_left 2 _)]
  refine and_congr_right fun _ => and_congr_right fun counted => ?_
  obtain ⟨b, bytes, rfl⟩ := List.exists_cons_of_length_eq_add_one counted
  rw [List.getLast?_cons_cons, List.getLast?_cons_cons, List.dropLast_cons_cons, List.dropLast_cons_cons,
    List.dropLast_eq_take, counted, Nat.add_sub_cancel]

theorem length_framePayload {f : List Byte} (sound : FrameSound f) :
    (framePayload f).length = (f[1]?.getD 0).toNat := by
  obtain ⟨-, -, counted, -⟩ := sound
  rw [framePayload, List.length_take, List.length_drop, counted]
  omega

/-- The code of a sound frame decides (R197). -/
theorem checkFrame_of_sound {f : List Byte} (sound : FrameSound f) : checkFrame f =
    (decodeCommand (f.headD 0) (framePayload f)).elim (.unknown (f.headD 0)) .command := by
  match f, sound with
  | code :: len :: rest, sound =>
    obtain ⟨short, counted, crc⟩ := (frameSound_cons_iff ..).mp sound
    show checkFrame _ = (decodeCommand code (rest.take len.toNat)).elim (.unknown code) .command
    rw [checkFrame, if_neg (by simp [short, counted])]
    dsimp only
    rw [if_neg (not_not.mpr crc)]
    cases decodeCommand code (rest.take len.toNat) <;> rfl

theorem checkFrame_of_unsound {f : List Byte} (unsound : ¬ FrameSound f) : checkFrame f = .badFrame (f.headD 0) := by
  match f with
  | [] => rfl
  | [code] => rfl
  | code :: len :: rest =>
    rw [frameSound_cons_iff] at unsound
    rw [checkFrame]
    split
    · rfl
    · next lengths =>
      have ⟨short, counted⟩ : len.toNat ≤ 56 ∧ rest.length = len.toNat + 1 := by simpa using lengths
      exact if_pos fun crc => unsound ⟨short, counted, crc⟩

section
variable (code : Byte) {payload : List Byte} (short : payload.length ≤ 56)
include short

theorem toNat_lengthByte : (BitVec.ofNat 8 payload.length).toNat = payload.length := by
  rw [BitVec.toNat_ofNat]; omega

/-- The frame of a payload is sound (R197). -/
theorem frameSound_frameOf : FrameSound (frameOf code payload) := by
  refine (frameSound_cons_iff _ _ (payload ++ [_])).mpr ?_
  rw [toNat_lengthByte short, List.take_left]
  exact ⟨short, List.length_append, List.getLast?_concat⟩

theorem framePayload_frameOf : framePayload (frameOf code payload) = payload := by
  show List.take (BitVec.ofNat 8 payload.length).toNat (payload ++ _) = payload
  rw [toNat_lengthByte short, List.take_left]

end

/-- The frame of a well-formed command names it again (11.6). -/
theorem checkFrame_encodeFrame {i : Instr} {f : List Byte} (formed : i.wellFormed = true)
    (encoded : encodeFrame i = some f) : checkFrame f = .command i := by
  unfold encodeFrame at encoded
  split at encoded
  · next code payload coded put =>
    cases encoded
    obtain ⟨width, tabled⟩ := tabled_of_code coded
    obtain ⟨short, again⟩ := tabled.again formed payload put
    rw [checkFrame_of_sound (frameSound_frameOf code short), framePayload_frameOf code short]
    show (decodeCommand code payload).elim _ _ = _
    rw [again]; rfl
  · cases encoded

/-- Settles O3: what the table puts together it takes apart, bytes and bits alike. -/
theorem commandFramesDecode : Obligations.CommandFramesDecode := by
  unfold Obligations.CommandFramesDecode
  refine ⟨fun i f formed encoded => checkFrame_encodeFrame formed encoded, fun bytes left short => ?_,
    fun f => ⟨checkFrame_of_unsound, fun sound unlisted => ?_, fun width sound listed => ?_⟩, rfl, fun bytes b => ?_⟩
  · rw [transactionOf, mosiBytes_mosiBits bytes short]
    refine ⟨?_, ?_, ?_, ?_⟩
    · rintro rfl; rfl
    · rintro rest rfl; rfl
    · rintro rest rfl; rfl
    · rintro sel rest rfl notWrite notFetch
      rw [selectTransaction, if_neg notWrite, if_neg notFetch]
  · rw [checkFrame_of_sound sound, decode_of_unlisted unlisted]; rfl
  · obtain ⟨i, named, coded, put⟩ := decode_of_listed listed (framePayload f)
    rw [length_framePayload sound] at put
    exact ⟨i, by rw [checkFrame_of_sound sound, named]; rfl, coded, put⟩
  · rw [crc8, List.foldl_append, List.foldl_cons, List.foldl_nil]
    exact crc8Byte_eq _ b

end Sys2Proof.Machine
end
